-- ==== Sys2Proof/Word.lean ====
section
/-! DEFINITION. The word types of the 4760's port and links, and the two roundings of spec/00_scope.md
("Numbers and units"): `ceil` of a quotient; `floor` is `Nat` division itself. -/

namespace Sys2Proof

/-- A byte of a frame, of an image body or of a text (section 11.6). -/
abbrev Byte := BitVec 8

/-- A word of the request buffer, of the response buffer, or of a control word (spec/00_scope.md, "Request port"). -/
abbrev Word := BitVec 32

/-- `ceil (a / b)` of spec/00_scope.md, for `b` above 0. -/
def ceilDiv (a b : Nat) : Nat := (a + b - 1) / b

/-- A text on film or on a link: its characters in the text code of section 11.6. -/
abbrev Text := List Byte

end Sys2Proof
end

