-- ==== Sys2Proof/Syntax.lean ====
section
/-! DEFINITION. The commands of the block: one constructor of `Instr` for each row of spec/opcode_table.json, in the
table's order. A host request carries the words of its message body in the order of R193, each as the host wrote
it; a frame carries what R106 gives it; a head's report carries what its line reports. -/

namespace Sys2Proof

/-- A frame of a station link after its kind (R106, section 11.6 "Station frame"): the length field, the payload
bytes and the frame check that the frame carries. -/
structure Frame where
  length : BitVec 16
  payload : List Byte
  check : BitVec 16
  deriving DecidableEq, Repr

/-- A reading of the fiducial reader (R160): MISSING, or an offset in whole µm. -/
inductive Reading where
  | missing
  | offset (ex ey : Int)
  deriving DecidableEq, Repr

/-- The commands, one for each row of spec/opcode_table.json. -/
inductive Instr where
  /-- POWER_ON (R183, R105): the power-on reset ends; bit i of `carriers` tells whether the carrier of link i is present. -/
  | powerOn (carriers : BitVec 8)
  /-- GO (R184): the GO strobe; `buffer` is the request buffer as the host has written it (log entry 2). -/
  | go (buffer : Vector Word 16)
  /-- PORT_CLEAR (R187): the Port Clear strobe. -/
  | portClear
  /-- FIND (R25): the three key words. -/
  | find (k1 k2 k3 : Word)
  /-- FIND_NEXT (R26): the three key words. -/
  | findNext (k1 k2 k3 : Word)
  /-- WITHDRAW (R86): the three key words. -/
  | withdraw (k1 k2 k3 : Word)
  /-- VOID (R92): the three key words. -/
  | void (k1 k2 k3 : Word)
  /-- REKEY (R94): the old key and the new key. -/
  | rekey (o1 o2 o3 n1 n2 n3 : Word)
  /-- RETIRE_FICHE (R97): a fiche identity. -/
  | retireFiche (series date sequence : Word)
  /-- SET_FORMAT (R29): a format index and the eight fields of section 2.1. -/
  | setFormat (index rows cols px py ox oy band gutter : Word)
  /-- READ_FORMAT (R30): a format index. -/
  | readFormat (index : Word)
  /-- TRY_FIT (R55): a format index, W and H. -/
  | tryFit (index width height : Word)
  /-- SET_SERIES (R33): series code, format index, head mask, title template (length and seven words of text), date code. -/
  | setSeries (series format mask length : Word) (text : Vector Word 7) (date : Word)
  /-- READ_SERIES (R39): a series code. -/
  | readSeries (series : Word)
  /-- CLEAR_SERIES (R35): a series code. -/
  | clearSeries (series : Word)
  /-- CUT_OFF_SERIES (R36): a series code. -/
  | cutOffSeries (series : Word)
  /-- REOPEN_SERIES (R37): a series code and a date code. -/
  | reopenSeries (series date : Word)
  /-- CLOSE_FICHE (R71): a slot number. -/
  | closeFiche (slot : Word)
  /-- FICHE_STATUS (R85): a slot number, a row number and a first column. -/
  | ficheStatus (slot row column : Word)
  /-- SET_ADMISSION (R111): an entry index and five fields. -/
  | setAdmission (index enabled link operator floor mask : Word)
  /-- READ_ADMISSION (R112): an entry index. -/
  | readAdmission (index : Word)
  /-- LINK_STATUS (R127): a link number. -/
  | linkStatus (link : Word)
  /-- SET_HOLD (R138): a hold quantum in milliseconds. -/
  | setHold (quantum : Word)
  /-- STAGING_STATUS (R139). -/
  | stagingStatus
  /-- LOAD_ROLL (R142): a head number, a sheet count, a first sheet code and a coded mark. -/
  | loadRoll (head sheets code coded : Word)
  /-- UNLOAD_ROLL (R143): a head number. -/
  | unloadRoll (head : Word)
  /-- HEAD_START (R144): a head number. -/
  | headStart (head : Word)
  /-- HEAD_STOP (R145): a head number. -/
  | headStop (head : Word)
  /-- HEAD_RESET (R146): a head number. -/
  | headReset (head : Word)
  /-- HEAD_STATUS (R158): a head number. -/
  | headStatus (head : Word)
  /-- SET_TRACKER (R168): a head number and a hold-lock option. -/
  | setTracker (head option : Word)
  /-- TRACKER_STATUS (R168): a head number. -/
  | trackerStatus (head : Word)
  /-- SET_DOSE (R179): a head number, a dose target and a threshold. -/
  | setDose (head target threshold : Word)
  /-- DOSE_STATUS (R182): a head number. -/
  | doseStatus (head : Word)
  /-- READ_EVENTS (R189). -/
  | readEvents
  /-- SET_EVENT_ENABLES (R189): a bit-set word. -/
  | setEventEnables (word : Word)
  /-- ACKNOWLEDGE_EVENTS (R189): a bit-set word. -/
  | acknowledgeEvents (word : Word)
  /-- READ_NOTICE (R191). -/
  | readNotice
  /-- READ_STATISTICS (R192): a group kind and a group number. -/
  | readStatistics (kind number : Word)
  /-- LINK_ACTIVE (R105): the carrier of a link appears. -/
  | linkActive (link : Fin 8)
  /-- LINK_DOWN (R124): the carrier of a link is lost. -/
  | linkDown (link : Fin 8)
  /-- SUBMIT_HEAD (R116): a frame of kind 01H arrives on a link. -/
  | submitHead (link : Fin 8) (frame : Frame)
  /-- BODY (R119): a frame of kind 02H arrives on a link, or one of a kind that a station does not send (R107; log
  entry 18). -/
  | body (link : Fin 8) (kind : Byte) (frame : Frame)
  /-- SUBMIT_END (R120): a frame of kind 03H arrives on a link. -/
  | submitEnd (link : Fin 8) (frame : Frame)
  /-- PROBE (R109): a frame of kind 04H arrives on a link. -/
  | probe (link : Fin 8) (frame : Frame)
  /-- RECEPTION_TIMER_EXPIRY (R121): the reception timer of a link expires. -/
  | receptionTimerExpiry (link : Fin 8)
  /-- HOLD_TIMER_EXPIRY (R135): the hold timer of a link expires. -/
  | holdTimerExpiry (link : Fin 8)
  /-- SERVE_WAITING_LISTS (R47): the composer makes the serving pass of the oldest retry event. -/
  | serveWaitingLists
  /-- ENTRY_TAKE (R148): a head takes the front entry of its queue. -/
  | entryTake (head : Fin 4)
  /-- TRANSPORT_ARRIVAL (R149): the transport reports the arrival of the motion of that number (R154). -/
  | transportArrival (head : Fin 4) (motion : Nat)
  /-- SHEET_CODE_READ (R171): the sheet-code reader answers a read with a value, or with MISSING (`none`). -/
  | sheetCodeRead (head : Fin 4) (value : Option (BitVec 16))
  /-- TRANSPORT_TIMEOUT (R149): the transport time limit of a head expires. -/
  | transportTimeout (head : Fin 4)
  /-- STAGE_TIMEOUT (R150): the stage time limit of a head expires. -/
  | stageTimeout (head : Fin 4)
  /-- STAGE_COMPLETION (R151): the stage reports the completion of the motion of that number, with its reading. -/
  | stageCompletion (head : Fin 4) (motion : Nat) (reading : Reading)
  /-- PHOTOCELL_REPORT (R174): the photocell reports the dose integral of a draw. -/
  | photocellReport (head : Fin 4) (integral : BitVec 16)
  /-- JAM (R154): the jam line of a head reports a jam. -/
  | jam (head : Fin 4)
  deriving DecidableEq, Repr

end Sys2Proof
end

