-- ==== Sys2Proof/Config.lean ====
section
/-! DEFINITION. What the manual fixes as numbers of the part, and the FREE VALUES: constants without a body, of
which nothing can be proved but that they are themselves. -/

namespace Sys2Proof.Config

/-- The directory holds at most 16,384 records (R1). -/
def directoryCapacity : Nat := 16384
/-- The staging memory holds 4096 blocks (R128). -/
def blockCount : Nat := 4096
/-- Each block has 65,536 bytes (R128). -/
def blockBytes : Nat := 65536
/-- The mark at which the hold becomes ASSERTED (R133). -/
def holdHighMark : Nat := 3584
/-- The mark at which the hold becomes CLEAR (R133). -/
def holdLowMark : Nat := 3072
/-- The reception timer runs for 2000 ms (R114). -/
def receptionMs : Nat := 2000
/-- The transport time limit of 8000 ms (R149). -/
def transportMs : Nat := 8000
/-- The stage time limit of 1000 ms (R150, R151). -/
def stageMs : Nat := 1000
/-- The notice queue holds at most 32 notices (R183, R191). -/
def noticeCapacity : Nat := 32
/-- A statistics counter stops at 65535 (R126, R157, R192). -/
def counterLimit : Nat := 65535
/-- The dose window is a run of 256 judged draws (section 10.3). -/
def windowDraws : Nat := 256
/-- The largest account number of a key (spec/00_scope.md, "Document key"). -/
def accountLimit : Nat := 999999999999
/-- A tracker reading is within capture up to 400 µm (R160). -/
def capture : Nat := 400
/-- An acquisition run takes at most eight readings (R161). -/
def runReadings : Nat := 8
/-- The sheet length along X, in µm (spec/00_scope.md, "Sheet coordinates"). -/
def sheetLength : Nat := 148000
/-- The film width along Y, in µm (spec/00_scope.md, "Sheet coordinates"). -/
def filmWidth : Nat := 105000

/-- FREE VALUE (log entries 12 and 17): what a field of which the manual states no value holds, at the n-th use of such a
value. DESIGN CHOICE: the spec states no value there. -/
opaque freeWord : Nat → Word

/-- FREE VALUE (log entry 13): the word in which the Void response (R93, R193) carries a grid reference, of whose
three characters, first in bits 23 to 16 of the argument, section 11.6 gives no place in a word.
DESIGN CHOICE: the spec states no layout there. -/
opaque gridReferenceWord : BitVec 24 → Word

end Sys2Proof.Config
end

