-- ==== Sys2Proof/Machine/State.lean ====
section
/-! DEFINITION. The state of the 4760 as plain data, block by block, and its value after power-on. Quantities that the
manual defines from other state (condition values, the interrupt line, counts of records, the OPEN slot of a
series) are computed where they are read, so that each piece of state has one home. -/

namespace Sys2Proof.Machine

/-! ### Identities (spec/00_scope.md, "Identities and their order") -/

/-- A document key: business-date code, account number, item sequence. -/
structure Key where
  date : Nat
  account : Nat
  item : Nat
  deriving DecidableEq, Repr

/-- A fiche identity: series code, date code, fiche sequence. -/
structure FicheId where
  series : Fin 32
  date : Nat
  sequence : Nat
  deriving DecidableEq, Repr

/-- Where a cell lies on film: fiche identity, head, sheet index, cell number of the leading cell, width. -/
structure Place where
  fiche : FicheId
  head : Fin 4
  sheet : Nat
  cell : Nat
  width : Nat
  deriving DecidableEq, Repr

/-- A location recorded after exposure: a place with its dose-warning flag (R7, R8). -/
structure Location where
  place : Place
  dose : Bool
  deriving DecidableEq, Repr

/-- A reserved location (R6): the fiche slot beside the place. -/
structure Reserved where
  slot : Fin 12
  place : Place
  deriving DecidableEq, Repr

/-- A grid reference (spec/00_scope.md, "Grid reference"): row and column, each counted from 0. -/
structure GridRef where
  row : Nat
  column : Nat
  deriving DecidableEq, Repr

/-! ### The placement directory (spec/01) -/

/-- The nine states of a record, in the order of R9's table. -/
inductive RecordState where
  | receiving | waiting | reserved | exposing | exposed
  | retakeReceiving | retakeWaiting | retakeReserved | retakeExposing
  deriving DecidableEq, Repr

/-- The source part of a record (R4). -/
structure Source where
  entry : Fin 16
  generation : BitVec 8
  tag : BitVec 16
  submittedClass : Nat
  effectiveClass : Nat
  deriving DecidableEq, Repr

/-- The image part of a record (R5): W, H, width in cells, scale, drawn size, block list. -/
structure Image where
  width : Nat
  height : Nat
  cells : Nat
  scale : Nat
  drawnWidth : Nat
  drawnHeight : Nat
  blocks : List Nat
  deriving DecidableEq, Repr

/-- A placement record (section 1.2). -/
structure Record where
  key : Key
  series : Fin 32
  state : RecordState
  source : Source
  image : Option Image
  reserved : Option Reserved
  current : Option Location
  superseded : List Location
  deriving DecidableEq, Repr

/-! ### The fiche composer (spec/02, spec/04) -/

/-- The eight fields of a format (section 2.1). -/
structure Format where
  rows : Nat
  cols : Nat
  px : Nat
  py : Nat
  ox : Nat
  oy : Nat
  band : Nat
  gutter : Nat
  deriving DecidableEq, Repr

/-- The states of a series, in the order of R32's table. -/
inductive SeriesState where
  | undefined | active | cutOff
  deriving DecidableEq, Repr

/-- A Series Table entry (section 2.2). Bit h of the head mask is the mark of head h. -/
structure Series where
  state : SeriesState
  format : Fin 4
  headMask : BitVec 4
  template : Text
  date : Nat
  next : Nat
  exhausted : Bool
  deriving DecidableEq, Repr

/-- The states of a slot, in the order of R40's table; `opened` is the manual's OPEN. -/
inductive SlotState where
  | free | opened | closing | indexing
  deriving DecidableEq, Repr

/-- The states of a cell, in the order of R42's table. -/
inductive CellState where
  | empty | held | exposed | superseded | void | spoiled | trailing | indexPending | indexDone
  deriving DecidableEq, Repr

/-- An entry of a cell map (section 2.4). -/
structure Cell where
  state : CellState
  key : Option Key
  width : Nat
  dose : Bool
  deriving DecidableEq, Repr

/-- An entry of a built index (R75). -/
structure IndexEntry where
  key : Key
  cell : Nat
  state : CellState
  dose : Bool
  deriving DecidableEq, Repr

/-- A slot of the Fiche Table (section 2.3), with the index built at the slot's becoming INDEXING (R79). -/
structure Slot where
  state : SlotState
  fiche : FicheId
  format : Fin 4
  sheet : Nat
  title : Bool
  redraw : Bool
  cells : List Cell
  index : Option (List IndexEntry)
  deriving DecidableEq, Repr

/-- The retry events of R47 that have been taken and whose serving pass has not. -/
inductive RetryEvent where
  | slotFree (slot : Fin 12)
  | rollLoaded (head : Fin 4)
  | faultLeft (head : Fin 4)
  | degradedCleared (head : Fin 4)
  | dateCodeChanged (series : Fin 32)
  deriving DecidableEq, Repr

/-! ### Station intake (spec/06, spec/07) -/

/-- The refuse causes of R108, in the order of their codes (section 11.6). -/
inductive Cause where
  | unregistered | noSeries | notPermitted | seriesClosed | malformed | oversize | duplicateKey | noSuchDocument
  | seriesMismatch | notExposed | retakePending | retakeLimit | directoryFull | noRoom | abandoned | withdrawn
  | overlength | shortBody | bodyCheck | timeout
  deriving DecidableEq, Repr

/-- What a PROBE-REPLY carries (R109), field by field of section 11.6. -/
structure ProbeReply where
  link : Fin 8
  receiving : Bool
  withdrawn : Byte
  tag : BitVec 16
  expected : BitVec 32
  soFar : BitVec 32
  quantum : Nat
  deriving DecidableEq, Repr

/-- What a PLACED frame carries (R125). -/
structure Placed where
  tag : BitVec 16
  key : Key
  fiche : FicheId
  grid : GridRef
  submittedClass : Nat
  dose : Bool
  retake : Bool
  deriving DecidableEq, Repr

/-- The five kinds of frame that the intake sends (R108). -/
inductive OutFrame where
  | accept (tag : BitVec 16) (key : Key)
  | refuse (tag : BitVec 16) (cause : Cause)
  | placed (notice : Placed)
  | hold (quantum : Nat)
  | probeReply (reply : ProbeReply)
  deriving DecidableEq, Repr

/-- A RECEIVING reception context (R114). `check` is the register of the running check before its final complement;
`timer` is the reception timer's loaded value in ms, which runs while the context is RECEIVING. -/
structure Reception where
  tag : BitVec 16
  key : Key
  retake : Bool
  expected : Nat
  soFar : Nat
  check : BitVec 32
  withdrawn : Bool
  timer : Nat
  deriving DecidableEq, Repr

/-- The eleven counters of a link (R126), in the order of its table. -/
inductive LinkCounter where
  | headsReceived | accepted | refused | refusedForSpace | checkErrors | strayFrames | headsDuringHold
  | placedSent | orphanNotices | noticesLost | carrierLostReceptions
  deriving DecidableEq, Repr

/-- A station link (R105, R114, R126, R134). `reception` is `none` when the context is IDLE. `outbox` holds the frames
produced for the link since its carrier appeared, oldest first (R108; log entry 19). -/
structure Link where
  active : Bool
  reception : Option Reception
  holdTimer : Option Nat
  quantum : Nat
  counters : Vector Nat 11
  outbox : List OutFrame
  deriving DecidableEq, Repr

/-- An Admission Table entry (R110). Bit i of the mask is the mark of series i. -/
structure AdmissionEntry where
  enabled : Bool
  link : Fin 8
  operator : BitVec 8
  floor : Nat
  mask : BitVec 32
  generation : BitVec 8
  deriving DecidableEq, Repr

/-! ### Exposure heads (spec/08, spec/09, spec/10) -/

/-- The states of a head, in the order of R141's table. -/
inductive HeadState where
  | noRoll | ready | running | stopping | fault
  deriving DecidableEq, Repr

/-- The seven fault kinds, in the order of R154's table. -/
inductive FaultKind where
  | transportTimeout | stageTimeout | transportJam | sheetMismatch | sheetUnreadable | registrationFailed
  | lampFailure
  deriving DecidableEq, Repr

/-- The four phases of an entry in flight (section 8.4). -/
inductive Phase where
  | advancing | acquiring | positioning | drawing
  deriving DecidableEq, Repr

/-- An entry of an exposure queue (R147). -/
inductive Entry where
  | title (slot : Fin 12)
  | cell (slot : Fin 12) (cell : Nat) (cls : Nat)
  | index (slot : Fin 12) (cell : Nat) (part : Nat)
  deriving DecidableEq, Repr

/-- An entry in flight with its phase (R140). -/
structure InFlight where
  entry : Entry
  phase : Phase
  deriving DecidableEq, Repr

/-- An acquisition run (R159): readings taken and the previous reading of the run. -/
structure Run where
  taken : Nat
  previous : Option Reading
  deriving DecidableEq, Repr

/-- A registration tracker (R159). `locked` is the tracker state LOCKED; otherwise it is in ACQUIRE. -/
structure Tracker where
  locked : Bool
  dx : Int
  dy : Int
  errors : Nat
  holdLock : Bool
  run : Option Run
  deriving DecidableEq, Repr

/-- A dose monitor (R173). -/
structure Dose where
  target : Nat
  threshold : Nat
  position : Nat
  deviations : Nat
  degraded : Bool
  last : Nat
  deriving DecidableEq, Repr

/-- The order last sent to a film transport: the motion's number (R154) and the sheet asked for (R149). -/
structure TransportOrder where
  motion : Nat
  sheet : Nat
  deriving DecidableEq, Repr

/-- The order last sent to a stage: the motion's number (R154) and the position driven to (R63, R66, R161). -/
structure StageOrder where
  motion : Nat
  x : Int
  y : Int
  deriving DecidableEq, Repr

/-- What the image writer is given to draw (R152): an image's body at a draw position and scale (R65), a title
(R67, R68), or the lines of an index part (R77, R78, R80). -/
inductive Draw where
  | image (x y : Int) (width height scale : Nat) (body : List Byte)
  | title (x y : Int) (charWidth charTop charHeight : Nat) (text : Text)
  | index (x y : Int) (lineHeight charWidth : Nat) (lines : List Text)
  deriving DecidableEq, Repr

/-- The seven counters of a head (R157), in the order of its table. -/
inductive HeadCounter where
  | cellExposures | titleExposures | indexExposures | spoiledExposures | faults | doseDeviations
  | registrationLosses
  deriving DecidableEq, Repr

/-- An exposure head (R140). A time limit holds its loaded value in ms while it runs. `codeReads` holds the reads made
of the sheet-code reading in progress (R171). `awaited` is the number of the motion awaited, `nextMotion` the
number of the next (R154; log entry 9). -/
structure Head where
  state : HeadState
  faultKind : Option FaultKind
  sheets : Nat
  firstCode : BitVec 16
  coded : Bool
  nextSheet : Nat
  stageSheet : Option Nat
  queue : List Entry
  inFlight : Option InFlight
  counters : Vector Nat 7
  tracker : Tracker
  dose : Dose
  transportLimit : Option Nat
  stageLimit : Option Nat
  codeReads : Option (List (Option (BitVec 16)))
  nextMotion : Nat
  awaited : Option Nat
  transportOrder : Option TransportOrder
  stageOrder : Option StageOrder
  draw : Option Draw
  deriving DecidableEq, Repr

/-! ### Request port (spec/11) -/

/-- A FICHE-CLOSED notice (R82, R191). -/
structure Notice where
  fiche : FicheId
  head : Fin 4
  sheet : Nat
  redraw : Bool
  counts : Vector Nat 9
  deriving DecidableEq, Repr

/-- A request in execution (R184): the copied request buffer, and whether a Port Clear has been taken since (R187). -/
structure Execution where
  request : Vector Word 16
  cleared : Bool
  deriving DecidableEq, Repr

/-- The request port (R183). The port is BUSY exactly while a request is in execution. -/
structure Port where
  done : Bool
  doneEnable : Bool
  requestBuffer : Vector Word 16
  responseBuffer : Vector Word 64
  execution : Option Execution
  changes : BitVec 21
  enables : BitVec 21
  notices : List Notice
  deriving DecidableEq, Repr

/-! ### The whole part -/

/-- The state of the 4760. `pending` and `freeCount` are the model's own: the queue of commands that are waiting,
and the counter from which free values are drawn (log entries 12 and 17). -/
structure State where
  port : Port
  links : Vector Link 8
  admission : Vector AdmissionEntry 16
  holdAsserted : Bool
  holdQuantum : Nat
  used : List Nat
  mem : List Host.Cell
  records : List Record
  waiting : Vector (List Key) 32
  formats : Vector (Option Format) 4
  series : Vector Series 32
  slots : Vector Slot 12
  retryEvents : List RetryEvent
  heads : Vector Head 4
  freeCount : Nat
  pending : List Instr
  deriving DecidableEq, Repr

/-- No command of this block stops the machine: the manual gives every step of the table an effect in every state,
so this type has no constructor. -/
inductive Fault : Type
  deriving DecidableEq, Repr

/-- Why a command has no meaning. -/
inductive Refusal where
  /-- Raised by `exec`'s arm of a command that is not modelled yet; safe, since nothing can be proved of its effect.
  No arm raises it. -/
  | notModelled (mnemonic : String)
  deriving DecidableEq, Repr

/-! ### Power-on values -/

/-- The port at power-on (R183). -/
def Port.reset : Port where
  done := false
  doneEnable := false
  requestBuffer := Vector.replicate 16 0
  responseBuffer := Vector.replicate 64 0
  execution := none
  changes := 0
  enables := 0
  notices := []

/-- A link at power-on (R105, R114, R126, R134). -/
def Link.reset : Link where
  active := false
  reception := none
  holdTimer := none
  quantum := 0
  counters := Vector.replicate 11 0
  outbox := []

/-- An Admission Table entry at power-on (R110). -/
def AdmissionEntry.reset : AdmissionEntry where
  enabled := false
  link := 0
  operator := 0
  floor := 0
  mask := 0
  generation := 0

/-- A series entry at power-on, and after Clear Series (R31, R35). -/
def Series.reset : Series where
  state := .undefined
  format := 0
  headMask := 0
  template := []
  date := 0
  next := 1
  exhausted := false

/-- A slot at power-on, and when it becomes FREE (R40). -/
def Slot.reset : Slot where
  state := .free
  fiche := ⟨0, 0, 0⟩
  format := 0
  sheet := 0
  title := false
  redraw := false
  cells := []
  index := none

/-- A tracker at power-on (R159). -/
def Tracker.reset : Tracker where
  locked := false
  dx := 0
  dy := 0
  errors := 0
  holdLock := false
  run := none

/-- A dose monitor at power-on (R173). -/
def Dose.reset : Dose where
  target := 32768
  threshold := 16
  position := 0
  deviations := 0
  degraded := false
  last := 0

/-- A head at power-on (R140, R157). -/
def Head.reset : Head where
  state := .noRoll
  faultKind := none
  sheets := 0
  firstCode := 0
  coded := false
  nextSheet := 0
  stageSheet := none
  queue := []
  inFlight := none
  counters := Vector.replicate 7 0
  tracker := Tracker.reset
  dose := Dose.reset
  transportLimit := none
  stageLimit := none
  codeReads := none
  nextMotion := 0
  awaited := none
  transportOrder := none
  stageOrder := none
  draw := none

/-- The machine right after power-on with no carrier present (R1, R27, R31, R40, R105, R110, R128, R133, R138,
R140, R183). -/
def State.reset : State where
  port := Port.reset
  links := Vector.replicate 8 Link.reset
  admission := Vector.replicate 16 AdmissionEntry.reset
  holdAsserted := false
  holdQuantum := 500
  used := []
  mem := []
  records := []
  waiting := Vector.replicate 32 []
  formats := Vector.replicate 4 none
  series := Vector.replicate 32 Series.reset
  slots := Vector.replicate 12 Slot.reset
  retryEvents := []
  heads := Vector.replicate 4 Head.reset
  freeCount := 0
  pending := []

end Sys2Proof.Machine
end

