-- ==== Sys2Proof/Machine/Bits.lean ====
section
/-! DEFINITION. The bit-level helpers: bytes of numbers, decimal digits of texts, the two cyclic redundancy checks of
R106 and R114, and the packing of words (R193). -/

namespace Sys2Proof.Machine

/-- The `width` bytes of a number, most significant byte first (section 11.6, "Station frame"). -/
def bytesOf : (width : Nat) → (n : Nat) → List Byte
  | 0, _ => []
  | w + 1, n => bytesOf w (n / 256) ++ [BitVec.ofNat 8 n]

/-- The number whose bytes, most significant first, are given (section 11.6, "Station frame"). -/
def numberOf (bytes : List Byte) : Nat := bytes.foldl (fun n b => n * 256 + b.toNat) 0

/-- The text code of a decimal digit (section 11.6). -/
def digit (d : Nat) : Byte := BitVec.ofNat 8 (48 + d % 10)

/-- A number written with `width` decimal digits, with leading zeros (spec/00_scope.md, "Text on film"). -/
def digits : (width : Nat) → (n : Nat) → Text
  | 0, _ => []
  | w + 1, n => digits w (n / 10) ++ [digit n]

/-- The text codes of space, the solidus and the letter A (section 11.6). -/
def spaceCode : Byte := 0x20#8
def solidusCode : Byte := 0x2F#8
def letterA : Byte := 0x41#8

/-- A letter by its position, A being 0 (section 11.6). -/
def letter (n : Nat) : Byte := letterA + BitVec.ofNat 8 n

/-- A grid reference as written on film: the row letter and the column counted from 01 (spec/00_scope.md). -/
def GridRef.text (g : GridRef) : Text := letter g.row :: digits 2 (g.column + 1)

/-- The characters permitted in a title template (section 2.2): A to Z, 0 to 9, space, hyphen, full stop. -/
def templateChar (c : Byte) : Bool :=
  (0x41#8 ≤ c && c ≤ 0x5A#8) || (0x30#8 ≤ c && c ≤ 0x39#8) || c == 0x20#8 || c == 0x2D#8 || c == 0x2E#8

/-! ### The frame check of R106 -/

/-- One bit of the 16-bit check: generator 1021H, no reflection. -/
def crc16Bit (r : BitVec 16) (bit : Bool) : BitVec 16 :=
  if r.msb != bit then (r <<< 1) ^^^ 0x1021#16 else r <<< 1

/-- The bits of a byte, most significant first. -/
def bitsMsbFirst (b : Byte) : List Bool :=
  [b.getLsbD 7, b.getLsbD 6, b.getLsbD 5, b.getLsbD 4, b.getLsbD 3, b.getLsbD 2, b.getLsbD 1, b.getLsbD 0]

/-- The frame check over bytes in the order in which they are sent (R106): initial value FFFFH, no final complement. -/
def frameCheck (bytes : List Byte) : BitVec 16 :=
  bytes.foldl (fun r b => (bitsMsbFirst b).foldl crc16Bit r) 0xFFFF#16

/-! ### The running check of R114 -/

/-- One bit of the 32-bit check with input and result reflected: EDB88320H is generator 04C11DB7H reflected. -/
def crc32Bit (r : BitVec 32) (bit : Bool) : BitVec 32 :=
  if r.getLsbD 0 != bit then (r >>> 1) ^^^ 0xEDB88320#32 else r >>> 1

/-- The bits of a byte, least significant first. -/
def bitsLsbFirst (b : Byte) : List Bool :=
  [b.getLsbD 0, b.getLsbD 1, b.getLsbD 2, b.getLsbD 3, b.getLsbD 4, b.getLsbD 5, b.getLsbD 6, b.getLsbD 7]

/-- The register of the running check at its initial value (R114). -/
def checkInitial : BitVec 32 := 0xFFFFFFFF#32

/-- The register advanced over body bytes in the order in which they arrive (R114). -/
def checkAdvance (r : BitVec 32) (bytes : List Byte) : BitVec 32 :=
  bytes.foldl (fun r b => (bitsLsbFirst b).foldl crc32Bit r) r

/-- The running check's value: the register complemented (R114). -/
def checkValue (r : BitVec 32) : BitVec 32 := ~~~r

/-! ### Words of requests and responses (R193) -/

/-- A number in a word's low bits. -/
def word (n : Nat) : Word := BitVec.ofNat 32 n

/-- A flag or a presence mark. -/
def flagWord (b : Bool) : Word := if b then 1 else 0

/-- A signed number in two's complement over the whole word. -/
def signedWord (i : Int) : Word := BitVec.ofInt 32 i

/-- Numbers two to a word, the first of each pair in bits 15 to 0 (R193, Fiche Status and Read Notice). -/
def packPairs : List Nat → List Word
  | [] => []
  | [a] => [word a]
  | a :: b :: rest => word (a % 65536 + b * 65536) :: packPairs rest

end Sys2Proof.Machine
end

