-- ==== Sys2Proof/Machine/Ops.lean ====
section
/-! DEFINITION. The named operations over the state's parts: one modifier for each table, the staging bytes, the
directory's ordered collection and waiting lists, and the exposure queue. -/

namespace Sys2Proof.Machine

/-! ### The parts of the state -/

/-- The links, heads, slots and series by number. -/
def allLinks : List (Fin 8) := List.finRange 8
def allHeads : List (Fin 4) := List.finRange 4
def allSlots : List (Fin 12) := List.finRange 12
def allSeries : List (Fin 32) := List.finRange 32
def allEntries : List (Fin 16) := List.finRange 16

/-- Change one link. -/
def State.modLink (s : State) (l : Fin 8) (f : Link → Link) : State :=
  { s with links := s.links.set l (f s.links[l]) }

/-- Change one Admission Table entry. -/
def State.modAdmission (s : State) (i : Fin 16) (f : AdmissionEntry → AdmissionEntry) : State :=
  { s with admission := s.admission.set i (f s.admission[i]) }

/-- Change one series' waiting list. -/
def State.modWaiting (s : State) (c : Fin 32) (f : List Key → List Key) : State :=
  { s with waiting := s.waiting.set c (f s.waiting[c]) }

/-- Change one Format Table entry. -/
def State.setFormatEntry (s : State) (i : Fin 4) (f : Format) : State :=
  { s with formats := s.formats.set i (some f) }

/-- Change one Series Table entry. -/
def State.modSeries (s : State) (c : Fin 32) (f : Series → Series) : State :=
  { s with series := s.series.set c (f s.series[c]) }

/-- Change one slot. -/
def State.modSlot (s : State) (i : Fin 12) (f : Slot → Slot) : State :=
  { s with slots := s.slots.set i (f s.slots[i]) }

/-- Change one head. -/
def State.modHead (s : State) (h : Fin 4) (f : Head → Head) : State :=
  { s with heads := s.heads.set h (f s.heads[h]) }

/-- Change the port. -/
def State.modPort (s : State) (f : Port → Port) : State := { s with port := f s.port }

/-- A retry event is taken; its serving pass is owed behind those of the events before it (R47). -/
def State.retry (s : State) (e : RetryEvent) : State := { s with retryEvents := s.retryEvents ++ [e] }

/-! ### Staging bytes (R128, R131) -/

/-- What a byte of staging memory that nothing has written reads as (DESIGN CHOICE, unsafe; log entry 11). -/
def unlistedByte : Byte := 0

/-- The address of a byte: block number and position in the block (R128). -/
def byteAddress (block position : Nat) : Nat := block * Config.blockBytes + position

/-- The byte at an address. -/
def readByte : List Host.Cell → Nat → Byte
  | [], _ => unlistedByte
  | (b, v) :: rest, a => if b = a then v else readByte rest a

/-- List a byte at its address in rising order; writing what an unlisted byte reads as removes the entry. -/
def writeByte : List Host.Cell → Nat → Byte → List Host.Cell
  | [], a, v => if v = unlistedByte then [] else [(a, v)]
  | (b, u) :: rest, a, v =>
    if a < b then (if v = unlistedByte then (b, u) :: rest else (a, v) :: (b, u) :: rest)
    else if a = b then (if v = unlistedByte then rest else (b, v) :: rest)
    else (b, u) :: writeByte rest a v

/-- The canonical form: addresses strictly rising, and no entry equal to what an unlisted byte reads as. -/
abbrev Memory.wf (m : List Host.Cell) : Prop :=
  (m.map Prod.fst).Pairwise (· < ·) ∧ ∀ c ∈ m, c.2 ≠ unlistedByte

/-- The address of body byte `b` of an image with that block list (R119, R131); `none` beyond its blocks. -/
def bodyAddress (blocks : List Nat) (b : Nat) : Option Nat :=
  (blocks[b / Config.blockBytes]?).map fun block => byteAddress block (b % Config.blockBytes)

/-- Store body bytes from body position `b` on (R119, R131). -/
def writeBody (m : List Host.Cell) (blocks : List Nat) : (b : Nat) → List Byte → List Host.Cell
  | _, [] => m
  | b, v :: rest =>
    match bodyAddress blocks b with
    | some a => writeBody (writeByte m a v) blocks (b + 1) rest
    | none => writeBody m blocks (b + 1) rest

/-- The body bytes 0 to `count` - 1, read from the blocks in list order (R65, R131). -/
def readBody (m : List Host.Cell) (blocks : List Nat) (count : Nat) : List Byte :=
  (List.range count).map fun b =>
    match bodyAddress blocks b with
    | some a => readByte m a
    | none => unlistedByte

/-! ### Keys and the ordered collection of records (R1) -/

/-- Keys compare by date code, then account number, then item sequence (spec/00_scope.md, "Document key"). -/
def Key.before (a b : Key) : Bool :=
  decide (a.date < b.date) ||
    (decide (a.date = b.date) &&
      (decide (a.account < b.account) || (decide (a.account = b.account) && decide (a.item < b.item))))

/-- Insert a record at its place in ascending key order. -/
def insertRecord (r : Record) : List Record → List Record
  | [] => [r]
  | x :: rest => if r.key.before x.key then r :: x :: rest else x :: insertRecord r rest

/-- The record of a key. -/
def State.findRecord (s : State) (k : Key) : Option Record := s.records.find? fun r => decide (r.key = k)

/-- The record of the smallest key greater than a key (R26), in a collection in ascending key order. -/
def State.findNextRecord (s : State) (k : Key) : Option Record := s.records.find? fun r => k.before r.key

/-- A record joins the directory (R11). -/
def State.addRecord (s : State) (r : Record) : State := { s with records := insertRecord r s.records }

/-- The record of a key leaves the directory. -/
def State.removeRecord (s : State) (k : Key) : State :=
  { s with records := s.records.filter fun r => decide (r.key ≠ k) }

/-- Change the parts of the record of a key. -/
def State.updateRecord (s : State) (k : Key) (f : Record → Record) : State :=
  { s with records := s.records.map fun r => if r.key = k then f r else r }

/-- RECEIVING and WAITING records are pending (R16). -/
def RecordState.pending : RecordState → Bool
  | .receiving | .waiting => true
  | _ => false

/-- The four RETAKE states (R9). -/
def RecordState.retake : RecordState → Bool
  | .retakeReceiving | .retakeWaiting | .retakeReserved | .retakeExposing => true
  | _ => false

/-- The record count of a series (R16). -/
def State.recordCount (s : State) (c : Fin 32) : Nat := s.records.countP fun r => decide (r.series = c)

/-- The pending count of a series (R16). -/
def State.pendingCount (s : State) (c : Fin 32) : Nat :=
  s.records.countP fun r => decide (r.series = c) && r.state.pending

/-! ### Waiting lists (R17) -/

/-- A record joins its series' list at the end. -/
def State.joinWaiting (s : State) (c : Fin 32) (k : Key) : State := s.modWaiting c (· ++ [k])

/-- A record leaves its series' list from wherever it stands. -/
def State.leaveWaiting (s : State) (c : Fin 32) (k : Key) : State :=
  s.modWaiting c fun ks => ks.filter fun x => decide (x ≠ k)

/-! ### Exposure queues (R147) -/

/-- The class of an entry: 4 for TITLE and INDEX. -/
def Entry.cls : Entry → Nat
  | .title _ => 4
  | .cell _ _ c => c
  | .index _ _ _ => 4

/-- The slot an entry names. -/
def Entry.slot : Entry → Fin 12
  | .title i => i
  | .cell i _ _ => i
  | .index i _ _ => i

/-- A new entry joins behind every entry of its class and before every entry of a lower class. -/
def joinQueue (queue : List Entry) (e : Entry) : List Entry :=
  queue.takeWhile (fun x => decide (e.cls ≤ x.cls)) ++ e :: queue.dropWhile (fun x => decide (e.cls ≤ x.cls))

/-- A returned entry goes to the front of its class, behind every entry of a higher class. -/
def returnQueue (queue : List Entry) (e : Entry) : List Entry :=
  queue.takeWhile (fun x => decide (e.cls < x.cls)) ++ e :: queue.dropWhile (fun x => decide (e.cls < x.cls))

/-- Whether an entry is the CELL entry that names a slot and a cell. -/
def Entry.namesCell (i : Fin 12) (n : Nat) : Entry → Bool
  | .cell j m _ => decide (j = i) && decide (m = n)
  | _ => false

/-- A withdrawn record's CELL entry leaves the queue from wherever it stands. -/
def dropCellEntry (queue : List Entry) (i : Fin 12) (n : Nat) : List Entry :=
  queue.filter fun e => !e.namesCell i n

/-- The head of a slot: slot div 3 (section 2.3). -/
def headOf (i : Fin 12) : Fin 4 := ⟨i.val / 3, by omega⟩

/-- The three slots of a head: 3 h, 3 h + 1, 3 h + 2 (section 2.3). -/
def slotsOf (h : Fin 4) : List (Fin 12) :=
  [⟨3 * h.val, by omega⟩, ⟨3 * h.val + 1, by omega⟩, ⟨3 * h.val + 2, by omega⟩]

end Sys2Proof.Machine
end

