-- ==== Sys2Proof/Machine/Flags.lean ====
section
/-! DEFINITION. The 21 indications with their condition values and change bits (R188), the interrupt line (R190), the
port status word (section 11.6), and the statistics counters (R126, R157, R192). -/

namespace Sys2Proof.Machine

/-- The indications of R188. -/
inductive Indication where
  | fault (head : Fin 4)
  | degraded (head : Fin 4)
  | locked (head : Fin 4)
  | stopped (head : Fin 4)
  | hold
  | notice
  | noticeOverflow
  | overrun
  | orphan
  deriving DecidableEq, Repr

/-- The bit of an indication (section 11.6, "Indication bits"). -/
def indicationBit : Indication → Nat
  | .fault h => 4 * h.val
  | .degraded h => 4 * h.val + 1
  | .locked h => 4 * h.val + 2
  | .stopped h => 4 * h.val + 3
  | .hold => 16
  | .notice => 17
  | .noticeOverflow => 18
  | .overrun => 19
  | .orphan => 20

/-- The 21 indications in bit order. -/
def indications : List Indication :=
  (allHeads.flatMap fun h => [.fault h, .degraded h, .locked h, .stopped h]) ++
    [.hold, .notice, .noticeOverflow, .overrun, .orphan]

/-- The condition value of an indication (R188): it shows the state of its block, and is clear for an event-only one. -/
def conditionValue (s : State) : Indication → Bool
  | .fault h => decide (s.heads[h].state = .fault)
  | .degraded h => s.heads[h].dose.degraded
  | .locked h => s.heads[h].tracker.locked
  | .hold => s.holdAsserted
  | .notice => !s.port.notices.isEmpty
  | .stopped _ | .noticeOverflow | .overrun | .orphan => false

/-- The condition values in bit order (R189). -/
def conditionBits (s : State) : BitVec 21 :=
  indications.foldl (fun w i => if conditionValue s i then w ||| 1#21 <<< indicationBit i else w) 0

/-- Set an indication's change bit (R188). -/
def State.raise (s : State) (i : Indication) : State :=
  s.modPort fun p => { p with changes := p.changes ||| 1#21 <<< indicationBit i }

/-- The level of the interrupt line (R190). -/
def interruptLine (s : State) : Bool :=
  (s.port.done && s.port.doneEnable) || decide (s.port.changes &&& s.port.enables ≠ 0)

/-- The port status word that the host reads (R183, section 11.6): BUSY, DONE, interrupt line level. The manual says nothing
of bits 31 to 3, which read as 0 here (DESIGN CHOICE; log entry 28). -/
def portStatusWord (s : State) : Word :=
  word ((if s.port.execution.isSome then 1 else 0) + (if s.port.done then 2 else 0) +
    (if interruptLine s then 4 else 0))

/-- The place of a link counter in R126's table. -/
def linkCounterIndex : LinkCounter → Fin 11
  | .headsReceived => 0
  | .accepted => 1
  | .refused => 2
  | .refusedForSpace => 3
  | .checkErrors => 4
  | .strayFrames => 5
  | .headsDuringHold => 6
  | .placedSent => 7
  | .orphanNotices => 8
  | .noticesLost => 9
  | .carrierLostReceptions => 10

/-- The place of a head counter in R157's table. -/
def headCounterIndex : HeadCounter → Fin 7
  | .cellExposures => 0
  | .titleExposures => 1
  | .indexExposures => 2
  | .spoiledExposures => 3
  | .faults => 4
  | .doseDeviations => 5
  | .registrationLosses => 6

/-- A counter rises by one and stops at 65535 (R192). -/
def countUp (n : Nat) : Nat := min (n + 1) Config.counterLimit

/-- Count one event of a link (R126). -/
def State.countLink (s : State) (l : Fin 8) (c : LinkCounter) : State :=
  s.modLink l fun k =>
    { k with counters := k.counters.set (linkCounterIndex c) (countUp k.counters[linkCounterIndex c]) }

/-- Count one event of a head (R157). -/
def State.countHead (s : State) (h : Fin 4) (c : HeadCounter) : State :=
  s.modHead h fun k =>
    { k with counters := k.counters.set (headCounterIndex c) (countUp k.counters[headCounterIndex c]) }

end Sys2Proof.Machine
end

