-- ==== Sys2Proof/Machine/Operands.lean ====
section
/-! DEFINITION. Reading the operands of commands: keys, numbers and templates of request words (R193, section 11.6),
and the fields of a SUBMIT-HEAD payload. A number word is read whole, so that a high bit set in it is out of every
range (R193). -/

namespace Sys2Proof.Machine

/-- The key of three key words (section 11.6): word 1 holds date code and item sequence, words 2 and 3 the account
number. Bits above bit 7 of word 2 make the account number too large for every range. -/
def keyOf (k1 k2 k3 : Word) : Key where
  date := k1.toNat / 65536
  account := k2.toNat * 4294967296 + k3.toNat
  item := k1.toNat % 65536

/-- A key's three words (section 11.6). -/
def keyWords (k : Key) : List Word :=
  [word (k.date * 65536 + k.item), word (k.account / 4294967296), word k.account]

/-- The account number of a key lies in its range (spec/00_scope.md, "Document key"). -/
def Key.accountInRange (k : Key) : Bool := 1 ≤ k.account && decide (k.account ≤ Config.accountLimit)

/-- An index word as an index below `n`, when it is one. -/
def indexOf (n : Nat) (w : Word) : Option (Fin n) :=
  if h : w.toNat < n then some ⟨w.toNat, h⟩ else none

/-- The four characters of a template word, the first in bits 31 to 24 (R193). -/
def wordText (w : Word) : Text :=
  [w.extractLsb' 24 8, w.extractLsb' 16 8, w.extractLsb' 8 8, w.extractLsb' 0 8]

/-- The word of four characters, the first in bits 31 to 24 (R193). -/
def textWord (a b c d : Byte) : Word := a ++ b ++ c ++ d

/-- The characters of a title template: the first `length` of the seven words' 28 (R193). -/
def templateText (length : Word) (text : Vector Word 7) : Text :=
  (text.toList.flatMap wordText).take length.toNat

/-- The four-character words of 28 characters. -/
def packText : Text → List Word
  | a :: b :: c :: d :: rest => textWord a b c d :: packText rest
  | _ => []

/-- The fields of a SUBMIT-HEAD payload (section 11.6, "SUBMIT-HEAD and PLACED payloads"). -/
structure HeadFields where
  tag : BitVec 16
  operator : BitVec 8
  key : Key
  series : Nat
  width : Nat
  height : Nat
  cls : Nat
  retake : Bool
  deriving DecidableEq, Repr

/-- The number in bytes `i` to `i + n` - 1 of a payload. -/
def field (payload : List Byte) (i n : Nat) : Nat := numberOf ((payload.drop i).take n)

/-- Read a SUBMIT-HEAD payload. Of byte 18 only bit 0 is examined. -/
def headFields (p : List Byte) : HeadFields where
  tag := BitVec.ofNat 16 (field p 0 2)
  operator := BitVec.ofNat 8 (field p 2 1)
  key := { date := field p 3 2, account := field p 5 5, item := field p 10 2 }
  series := field p 12 1
  width := field p 13 2
  height := field p 15 2
  cls := field p 17 1
  retake := decide (field p 18 1 % 2 = 1)

/-- The bytes over which a frame's check is computed (R106): kind, length, payload. -/
def frameBytes (kind : Byte) (f : Frame) : List Byte := kind :: bytesOf 2 f.length.toNat ++ f.payload

/-- A frame whose check is good and whose length is at most 4096 (R106). -/
def frameGood (kind : Byte) (f : Frame) : Bool :=
  decide (f.check = frameCheck (frameBytes kind f)) && decide (f.length.toNat ≤ 4096)

/-- A key in nine bytes, as in SUBMIT-HEAD (section 11.6). -/
def keyBytes (k : Key) : List Byte := bytesOf 2 k.date ++ bytesOf 5 k.account ++ bytesOf 2 k.item

/-- The code of a refuse cause (section 11.6, "Refuse causes"). -/
def causeCode : Cause → Nat
  | .unregistered => 0x01
  | .noSeries => 0x02
  | .notPermitted => 0x03
  | .seriesClosed => 0x04
  | .malformed => 0x05
  | .oversize => 0x06
  | .duplicateKey => 0x07
  | .noSuchDocument => 0x08
  | .seriesMismatch => 0x09
  | .notExposed => 0x0A
  | .retakePending => 0x0B
  | .retakeLimit => 0x0C
  | .directoryFull => 0x0D
  | .noRoom => 0x0E
  | .abandoned => 0x0F
  | .withdrawn => 0x10
  | .overlength => 0x11
  | .shortBody => 0x12
  | .bodyCheck => 0x13
  | .timeout => 0x14

/-- The kind code of a frame the intake sends (section 11.6, "Station frame"). -/
def outKind : OutFrame → Byte
  | .accept _ _ => 0x81
  | .refuse _ _ => 0x82
  | .placed _ => 0x83
  | .hold _ => 0x84
  | .probeReply _ => 0x85

/-- The payload of a frame the intake sends (section 11.6). In a PROBE-REPLY the reception state's byte is 0 for IDLE and
1 for RECEIVING, and its withdrawn flag 1 when set: section 11.6 gives the bytes no codes (DEDUCED; log entry 15). -/
def outPayload : OutFrame → List Byte
  | .accept tag key => bytesOf 2 tag.toNat ++ keyBytes key
  | .refuse tag cause => bytesOf 2 tag.toNat ++ bytesOf 1 (causeCode cause)
  | .placed p =>
    bytesOf 2 p.tag.toNat ++ keyBytes p.key ++ bytesOf 1 p.fiche.series.val ++ bytesOf 2 p.fiche.date ++
      bytesOf 2 p.fiche.sequence ++ p.grid.text ++ bytesOf 1 p.submittedClass ++
      bytesOf 1 ((if p.dose then 1 else 0) + (if p.retake then 2 else 0))
  | .hold q => bytesOf 2 q
  | .probeReply r =>
    bytesOf 1 r.link.val ++ bytesOf 1 (if r.receiving then 1 else 0) ++ [r.withdrawn] ++ bytesOf 2 r.tag.toNat ++
      bytesOf 4 r.expected.toNat ++ bytesOf 4 r.soFar.toNat ++ bytesOf 2 r.quantum

/-- The bytes of a frame the intake sends, its check formed as R106 says. -/
def outBytes (f : OutFrame) : List Byte :=
  let body := outKind f :: bytesOf 2 (outPayload f).length ++ outPayload f
  body ++ bytesOf 2 (frameCheck body).toNat

end Sys2Proof.Machine
end

