-- ==== Sys2Proof/Machine/Staging.lean ====
section
/-! DEFINITION. Shared operations of the links and of staging memory: producing frames (R108), the hold (R133 to R137),
and the allocation and release of blocks (R130, R132). -/

namespace Sys2Proof.Machine

/-- A frame produced for a link is sent when the link is ACTIVE, behind those produced before it; for a link that is
DOWN it is not sent (R108). -/
def State.sendFrame (s : State) (l : Fin 8) (f : OutFrame) : State :=
  s.modLink l fun k => if k.active then { k with outbox := k.outbox ++ [f] } else k

/-- HOLD(Q) is sent on a link, its hold timer is loaded with Q ms and its quantum in force becomes Q (R134). -/
def State.sendHold (s : State) (l : Fin 8) : State :=
  (s.sendFrame l (.hold s.holdQuantum)).modLink l fun k =>
    { k with holdTimer := some s.holdQuantum, quantum := s.holdQuantum }

/-- A link's hold timer is stopped and its quantum in force becomes 0 (R136, R137). -/
def State.stopHoldTimer (s : State) (l : Fin 8) : State :=
  s.modLink l fun k => { k with holdTimer := none, quantum := 0 }

/-- The hold becomes ASSERTED (R134): HOLD(Q) on every link that is ACTIVE; the transition sets HOLD's change bit. -/
def State.assertHold (s : State) : State :=
  allLinks.foldl (fun t l => if t.links[l].active then t.sendHold l else t)
    (({ s with holdAsserted := true } : State).raise .hold)

/-- The hold becomes CLEAR (R136): HOLD(0) on every link whose hold timer runs, and those timers are stopped; the
transition sets HOLD's change bit. -/
def State.clearHold (s : State) : State :=
  allLinks.foldl
    (fun t l => if t.links[l].holdTimer.isSome then (t.sendFrame l (.hold 0)).stopHoldTimer l else t)
    (({ s with holdAsserted := false } : State).raise .hold)

/-- The intake judges the hold after each change of the used count (R133). -/
def State.judgeHold (s : State) : State :=
  if !s.holdAsserted && decide (Config.holdHighMark ≤ s.used.length) then s.assertHold
  else if s.holdAsserted && decide (s.used.length ≤ Config.holdLowMark) then s.clearHold
  else s

/-- The block need of an image of W × H pixels (R129). -/
def blockNeed (width height : Nat) : Nat := ceilDiv (ceilDiv width 8 * height) Config.blockBytes

/-- The `need` lowest-numbered free blocks from block `b` on, of `fuel` blocks looked at. -/
def freeFrom (used : List Nat) : (fuel b need : Nat) → List Nat
  | 0, _, _ => []
  | _, _, 0 => []
  | fuel + 1, b, need + 1 =>
    if used.contains b then freeFrom used fuel (b + 1) (need + 1) else b :: freeFrom used fuel (b + 1) need

/-- The lowest-numbered free blocks of the pool, ascending (R130). -/
def lowestFree (used : List Nat) (need : Nat) : List Nat := freeFrom used Config.blockCount 0 need

/-- A block joins the ascending list of used blocks. -/
def insertBlock (b : Nat) : List Nat → List Nat
  | [] => [b]
  | x :: rest => if b < x then b :: x :: rest else if b = x then x :: rest else x :: insertBlock b rest

/-- The staging memory gives the need's lowest-numbered free blocks and the hold is judged, or answers NO_ROOM
(R130, R133). -/
def State.allocate (s : State) (need : Nat) : Option (List Nat × State) :=
  if Config.blockCount - s.used.length < need then none
  else
    some (lowestFree s.used need,
      ({ s with used := (lowestFree s.used need).foldl (fun u b => insertBlock b u) s.used } : State).judgeHold)

/-- All the blocks of a record's list become free together and the hold is judged (R132, R133). The bytes stay. -/
def State.release (s : State) (blocks : List Nat) : State :=
  ({ s with used := s.used.filter fun b => !blocks.contains b } : State).judgeHold

/-- The blocks of an optional image part. -/
def blocksOf (image : Option Image) : List Nat := (image.map Image.blocks).getD []

end Sys2Proof.Machine
end

