-- ==== Sys2Proof/Machine/Composer.lean ====
section
/-! DEFINITION. Shared operations of the Fiche Composer: the derived quantities of a format (R27), its validity (R28), the
fit (R50 to R53), the search of a cell map (R57, R58), closing and the index build (R70 to R80), the choice of a
head and the opening of a fiche (R44 to R46), and placement (R56 to R62). -/

namespace Sys2Proof.Machine

/-! ### Formats (section 2.1) -/

/-- An undefined format entry reads as 0 (R27). -/
def zeroFormat : Format := ⟨0, 0, 0, 0, 0, 0, 0, 0⟩

/-- The cells of the grid: R × C. -/
def Format.cellCount (f : Format) : Nat := f.rows * f.cols

/-- The index cell count k (R27). -/
def Format.indexCells (f : Format) : Nat := ceilDiv f.cellCount 121

/-- The document cell count R × C - k (R27). -/
def Format.documentCells (f : Format) : Nat := f.cellCount - f.indexCells

/-- The double-cell capacity (R27). -/
def Format.doubleCapacity (f : Format) : Bool := decide (2 ≤ f.cols) && decide (2 ≤ f.documentCells)

/-- The ranges of the eight fields (section 2.1). -/
def Format.inRange (f : Format) : Bool :=
  decide (1 ≤ f.rows) && decide (f.rows ≤ 16) && decide (1 ≤ f.cols) && decide (f.cols ≤ 32) &&
  decide (1000 ≤ f.px) && decide (f.px ≤ 20000) && decide (1000 ≤ f.py) && decide (f.py ≤ 20000) &&
  decide (f.ox ≤ Config.sheetLength) && decide (f.oy ≤ Config.filmWidth) &&
  decide (2000 ≤ f.band) && decide (f.band ≤ 20000) && decide (f.gutter ≤ 500)

/-- The five tests of R28. -/
def Format.valid (f : Format) : Bool :=
  decide (400 ≤ f.ox) && decide (400 ≤ f.oy) &&
  decide (f.ox + f.cols * f.px + 400 ≤ Config.sheetLength) &&
  decide (f.oy + f.band + f.rows * f.py + 400 ≤ Config.filmWidth) &&
  decide (2 * f.gutter + 500 ≤ f.px) && decide (2 * f.gutter + 500 ≤ f.py) &&
  decide (2 ≤ f.cellCount)

/-- The fields of a Format Table entry; an undefined entry's read as 0 (R27). -/
def State.formatAt (s : State) (i : Fin 4) : Format := s.formats[i].getD zeroFormat

/-- The format of a slot's fiche. -/
def State.slotFormat (s : State) (i : Fin 12) : Format := s.formatAt s.slots[i].format

/-- A cell's grid reference in a format (spec/00_scope.md, "Grid reference"). -/
def Format.gridRef (f : Format) (n : Nat) : GridRef := ⟨n / f.cols, n % f.cols⟩

/-! ### The fit (section 3.1) -/

/-- The quantities of one trial of the fit (R50): Aw, Ah, Sx, Sy. -/
structure Trial where
  aw : Nat
  ah : Nat
  sx : Nat
  sy : Nat
  deriving DecidableEq, Repr

/-- A fit (R53, R55): width in cells, drawable area, pitches, scale, drawn size, centring, clamp mark. -/
structure Fit where
  cells : Nat
  trial : Trial
  scale : Nat
  drawnWidth : Nat
  drawnHeight : Nat
  ox : Nat
  oy : Nat
  clamped : Bool
  deriving DecidableEq, Repr

/-- What the composer answers to a request for a fit (R49): a fit, or OVERSIZE with the pitches last tried (R55). -/
inductive FitAnswer where
  | fits (fit : Fit)
  | oversize (sx sy : Nat)
  deriving DecidableEq, Repr

/-- The drawable width at width `w` (section 3.1). -/
def Format.drawableWidth (f : Format) (w : Nat) : Nat := w * f.px - 2 * f.gutter

/-- The drawable height (section 3.1). -/
def Format.drawableHeight (f : Format) : Nat := f.py - 2 * f.gutter

/-- The trial at width `w` (R50). -/
def Format.trial (f : Format) (w width height : Nat) : Trial where
  aw := f.drawableWidth w
  ah := f.drawableHeight
  sx := f.drawableWidth w * 4096 / width
  sy := f.drawableHeight * 4096 / height

/-- Sfit (R50). -/
def Trial.pitch (t : Trial) : Nat := min t.sx t.sy

/-- The X centring of a drawn width (R53). -/
def Format.centreX (f : Format) (w drawnWidth : Nat) : Nat := f.gutter + (f.drawableWidth w - drawnWidth) / 2

/-- The Y centring of a drawn height (R53). -/
def Format.centreY (f : Format) (drawnHeight : Nat) : Nat := f.gutter + (f.drawableHeight - drawnHeight) / 2

/-- The fit with width and scale settled (R53). -/
def Format.settleFit (f : Format) (w width height scale : Nat) (clamped : Bool) : Fit where
  cells := w
  trial := f.trial w width height
  scale := scale
  drawnWidth := ceilDiv (width * scale) 4096
  drawnHeight := ceilDiv (height * scale) 4096
  ox := f.centreX w (ceilDiv (width * scale) 4096)
  oy := f.centreY (ceilDiv (height * scale) 4096)
  clamped := clamped

/-- The fit of an image of W × H pixels (R50 to R53). -/
def Format.fit (f : Format) (width height : Nat) : FitAnswer :=
  let t1 := f.trial 1 width height
  let t2 := f.trial 2 width height
  if 16384 < t1.pitch then .fits (f.settleFit 1 width height 16384 true)
  else if 4096 ≤ t1.pitch then .fits (f.settleFit 1 width height t1.pitch false)
  else if f.doubleCapacity then
    if 4096 ≤ t2.pitch then .fits (f.settleFit 2 width height t2.pitch false) else .oversize t2.sx t2.sy
  else .oversize t1.sx t1.sy

/-! ### Cell maps (section 2.4) -/

/-- A cell map at its creation (R43). -/
def Format.newCells (f : Format) : List Cell :=
  List.replicate f.documentCells ⟨.empty, none, 1, false⟩ ++
    List.replicate f.indexCells ⟨.indexPending, none, 1, false⟩

/-- Change one cell of a slot's map. -/
def State.modCell (s : State) (i : Fin 12) (n : Nat) (f : Cell → Cell) : State :=
  s.modSlot i fun t => { t with cells := t.cells.modify n f }

/-- Change a leading cell, and, when its width is 2, the second half beside it. -/
def State.modCells (s : State) (i : Fin 12) (n width : Nat) (lead second : Cell → Cell) : State :=
  if width = 2 then (s.modCell i n lead).modCell i (n + 1) second else s.modCell i n lead

/-- The cell of a slot's map. -/
def State.cellAt (s : State) (i : Fin 12) (n : Nat) : Option Cell := s.slots[i].cells[n]?

/-- The key written in a cell. -/
def State.keyAt (s : State) (i : Fin 12) (n : Nat) : Option Key := (s.cellAt i n).bind Cell.key

/-- Whether cell n of a map is EMPTY. -/
def emptyAt (cells : List Cell) (n : Nat) : Bool :=
  match cells[n]? with
  | some c => decide (c.state = .empty)
  | none => false

/-- A suitable cell of width 1 (R57) or 2 (R58). -/
def Format.suitable (f : Format) (cells : List Cell) (w n : Nat) : Bool :=
  if w = 2 then
    emptyAt cells n && emptyAt cells (n + 1) && decide (n % f.cols < f.cols - 1) && decide (n + 1 < f.documentCells)
  else emptyAt cells n && decide (n < f.documentCells)

/-- The lowest-numbered suitable cell of a slot (R57, R58). -/
def State.searchCell (s : State) (i : Fin 12) (w : Nat) : Option Nat :=
  (List.range (s.slotFormat i).documentCells).find? ((s.slotFormat i).suitable s.slots[i].cells w)

/-- The number of cells of a map in each of the nine states, in the order of R42's table (R82, R85). -/
def stateCounts (cells : List Cell) : Vector Nat 9 :=
  let count := fun (st : CellState) => cells.countP fun c => decide (c.state = st)
  #v[count .empty, count .held, count .exposed, count .superseded, count .void, count .spoiled, count .trailing,
    count .indexPending, count .indexDone]

/-- The slot that holds the series' OPEN fiche (section 2.2). -/
def State.openSlot (s : State) (c : Fin 32) : Option (Fin 12) :=
  allSlots.find? fun i => decide (s.slots[i].state = .opened) && decide (s.slots[i].fiche.series = c)

/-- The slot that is not FREE whose head, sheet index and fiche identity equal those of a location (R92). -/
def State.slotOfPlace (s : State) (p : Place) : Option (Fin 12) :=
  allSlots.find? fun i =>
    decide (s.slots[i].state ≠ .free) && decide (headOf i = p.head) && decide (s.slots[i].sheet = p.sheet) &&
      decide (s.slots[i].fiche = p.fiche)

/-- The slot of a location's fiche when that slot is OPEN or CLOSING (R92, R94, R23). -/
def State.liveSlotOfPlace (s : State) (p : Place) : Option (Fin 12) :=
  (s.slotOfPlace p).filter fun i => decide (s.slots[i].state = .opened) || decide (s.slots[i].state = .closing)

/-! ### The index build (section 4.3) -/

/-- The cell states that the index lists (R75). -/
def CellState.listed : CellState → Bool
  | .exposed | .superseded | .void | .spoiled => true
  | _ => false

/-- The index entries of a cell map in cell order, cells counted from `n` (R75). -/
def indexEntriesFrom : (n : Nat) → List Cell → List IndexEntry
  | _, [] => []
  | n, c :: rest =>
    match c.key with
    | some k =>
      if c.state.listed && decide (c.width ≠ 0) then ⟨k, n, c.state, c.dose⟩ :: indexEntriesFrom (n + 1) rest
      else indexEntriesFrom (n + 1) rest
    | none => indexEntriesFrom (n + 1) rest

/-- Ascending key order, and ascending cell number among equal keys (R76). -/
def IndexEntry.before (a b : IndexEntry) : Bool :=
  a.key.before b.key || (decide (a.key = b.key) && decide (a.cell < b.cell))

/-- Insert an index entry at its place in the order of R76. -/
def insertIndexEntry (e : IndexEntry) : List IndexEntry → List IndexEntry
  | [] => [e]
  | x :: rest => if e.before x then e :: x :: rest else x :: insertIndexEntry e rest

/-- The built index of a cell map (R75, R76). -/
def buildIndex (cells : List Cell) : List IndexEntry := (indexEntriesFrom 0 cells).foldr insertIndexEntry []

/-- The mark of an index line (R77): space, D, S, V or X. -/
def IndexEntry.mark (e : IndexEntry) : Byte :=
  match e.state with
  | .exposed => if e.dose then 0x44#8 else spaceCode
  | .superseded => 0x53#8
  | .void => 0x56#8
  | .spoiled => 0x58#8
  | _ => spaceCode

/-- An index line of 30 characters (R77). -/
def IndexEntry.line (f : Format) (e : IndexEntry) : Text :=
  digits 5 e.key.date ++ [spaceCode] ++ digits 12 e.key.account ++ [spaceCode] ++ digits 5 e.key.item ++
    [spaceCode] ++ (f.gridRef e.cell).text ++ [spaceCode, e.mark]

/-- The line NO ENTRIES (R78). -/
def noEntriesLine : Text := [0x4E#8, 0x4F#8, 0x20#8, 0x45#8, 0x4E#8, 0x54#8, 0x52#8, 0x49#8, 0x45#8, 0x53#8]

/-- The lines of index part `p` (R76, R78). -/
def indexPartLines (f : Format) (index : List IndexEntry) (p : Nat) : List Text :=
  if index.isEmpty then (if p = 0 then [noEntriesLine] else [])
  else ((index.drop (120 * p)).take 120).map (IndexEntry.line f)

/-! ### Closing (section 4.2) -/

/-- A new entry joins a head's queue (R147). -/
def State.enqueue (s : State) (h : Fin 4) (e : Entry) : State :=
  s.modHead h fun k => { k with queue := joinQueue k.queue e }

/-- The INDEX entries of a fiche, in order of part (R80). -/
def indexQueueEntries (f : Format) (i : Fin 12) : List Entry :=
  (List.range f.indexCells).map fun p => .index i (f.documentCells + p) p

/-- The indexing test of R73: a CLOSING slot with no HELD cell has its index built and its INDEX entries queued, and
becomes INDEXING. -/
def State.indexingTest (s : State) (i : Fin 12) : State :=
  if s.slots[i].state = .closing ∧ s.slots[i].cells.all (fun c => decide (c.state ≠ .held)) then
    (((indexQueueEntries (s.slotFormat i) i).foldl (fun t e => t.enqueue (headOf i) e)
      (s.modSlot i fun t => { t with index := some (buildIndex t.cells) }))).modSlot i
        fun t => { t with state := .indexing }
  else s

/-- A close trigger (R70): a fiche in OPEN becomes CLOSING and the indexing test is made; any other changes nothing. -/
def State.closeFiche (s : State) (i : Fin 12) : State :=
  if s.slots[i].state = .opened then (s.modSlot i fun t => { t with state := .closing }).indexingTest i else s

/-- The cut-off condition is judged for a series (R72). -/
def State.judgeCutOff (s : State) (c : Fin 32) : State :=
  match s.openSlot c with
  | some i => if s.series[c].state = .cutOff ∧ s.pendingCount c = 0 then s.closeFiche i else s
  | none => s

/-! ### Opening a fiche (section 2.5) -/

/-- A head that holds a roll and is neither in NO-ROLL nor in FAULT (R45). -/
def HeadState.holdsRoll : HeadState → Bool
  | .ready | .running | .stopping => true
  | .noRoll | .fault => false

/-- The lowest-numbered FREE slot of a head (R46). -/
def State.freeSlot (s : State) (h : Fin 4) : Option (Fin 12) :=
  (slotsOf h).find? fun i => decide (s.slots[i].state = .free)

/-- A head is eligible to carry a new fiche of a series (R45). -/
def State.eligible (s : State) (c : Fin 32) (h : Fin 4) : Bool :=
  s.series[c].headMask.getLsbD h.val && s.heads[h].state.holdsRoll && (s.freeSlot h).isSome &&
    decide (s.heads[h].nextSheet < s.heads[h].sheets)

/-- Whether head `a` is chosen before head `b` by the first two tests of R45. -/
def State.chosenBefore (s : State) (a b : Fin 4) : Bool :=
  if s.heads[a].dose.degraded = s.heads[b].dose.degraded then
    decide (s.heads[a].queue.length < s.heads[b].queue.length)
  else !s.heads[a].dose.degraded

/-- The head that R45 chooses among the eligible ones; heads come in ascending number, so that a tie keeps the lowest. -/
def State.chooseHead (s : State) (c : Fin 32) : Option (Fin 4) :=
  (allHeads.filter (s.eligible c)).foldl
    (fun best h => match best with
      | none => some h
      | some b => if s.chosenBefore h b then some h else some b) none

/-- Opening a fiche of a series in a FREE slot of a head (R46). -/
def State.openFiche (s : State) (c : Fin 32) (h : Fin 4) (i : Fin 12) : State :=
  let e := s.series[c]
  ((((s.modSlot i fun _ =>
      { state := .opened, fiche := ⟨c, e.date, e.next⟩, format := e.format, sheet := s.heads[h].nextSheet,
        title := false, redraw := false, cells := (s.formatAt e.format).newCells, index := none }).modHead h
      fun k => { k with nextSheet := k.nextSheet + 1 }).modSeries c
      fun v => if v.next = 9999 then { v with exhausted := true } else { v with next := v.next + 1 })).enqueue h
    (.title i)

/-! ### Placement (section 3.2) -/

/-- A request for a cell (section 3.2): key, series, width of the image part, effective class. -/
structure CellRequest where
  key : Key
  series : Fin 32
  width : Nat
  cls : Nat
  deriving DecidableEq, Repr

/-- The composer's answer: the tables as the request left them, the grant if there is one, and whether a fiche was
opened for the request. -/
structure Placement where
  state : State
  granted : Option Reserved
  opened : Bool

/-- The test for a full fiche after a grant (R60). -/
def State.fullTest (s : State) (i : Fin 12) : State :=
  if (s.slots[i].cells.take (s.slotFormat i).documentCells).all (fun c => decide (c.state ≠ .empty)) then
    s.closeFiche i
  else s

/-- Granting cell `n` of a slot (R59), then the test of R60. -/
def State.grantCell (s : State) (q : CellRequest) (i : Fin 12) (n : Nat) (opened : Bool) : Placement where
  state :=
    ((s.modCells i n q.width (fun _ => ⟨.held, some q.key, q.width, false⟩)
      (fun _ => ⟨.trailing, some q.key, 0, false⟩)).enqueue (headOf i) (.cell i n q.cls)).fullTest i
  granted := some ⟨i, ⟨s.slots[i].fiche, headOf i, s.slots[i].sheet, n, q.width⟩⟩
  opened := opened

/-- The opening of a fiche for a request, and the grant that follows it (R44, R46). -/
def State.openAndGrant (s : State) (q : CellRequest) : Placement :=
  if s.series[q.series].state ≠ .undefined ∧ s.series[q.series].exhausted = false then
    match s.chooseHead q.series with
    | some h =>
      match s.freeSlot h with
      | some i =>
        match (s.openFiche q.series h i).searchCell i q.width with
        | some n => (s.openFiche q.series h i).grantCell q i n true
        | none => ⟨s.openFiche q.series h i, none, true⟩
      | none => ⟨s, none, false⟩
    | none => ⟨s, none, false⟩
  else ⟨s, none, false⟩

/-- Normal placement (R56, R61). -/
def State.normalPlacement (s : State) (q : CellRequest) : Placement :=
  match s.openSlot q.series with
  | none => s.openAndGrant q
  | some i =>
    match s.searchCell i q.width with
    | some n => s.grantCell q i n false
    | none => (s.closeFiche i).openAndGrant q

/-- Re-placement of a spoiled record (R62): first the spoiled cell's fiche when it is OPEN, else normal placement. -/
def State.rePlacement (s : State) (i : Fin 12) (q : CellRequest) : Placement :=
  if s.slots[i].state = .opened then
    match s.searchCell i q.width with
    | some n => s.grantCell q i n false
    | none => s.normalPlacement q
  else s.normalPlacement q

end Sys2Proof.Machine
end

