-- ==== Sys2Proof/Machine/Directory.lean ====
section
/-! DEFINITION. Shared operations of the Placement Directory: grants and refusals of cells (R15, R21), acceptance and
serving (R14, R18, R47), reception endings (R13), claims (R10 to R12), and the placement notice (R24, R125). -/

namespace Sys2Proof.Machine

/-! ### Cells for records -/

/-- A record granted a cell (R15, R21): the reserved location is written, and the state becomes RESERVED or
RETAKE-RESERVED. -/
def Record.granted (r : Record) (v : Reserved) : Record :=
  { r with
    reserved := some v
    state := match r.state with
      | .waiting | .exposing => .reserved
      | .retakeWaiting | .retakeExposing => .retakeReserved
      | st => st }

/-- The request for a cell that a record makes (section 3.2). -/
def Record.request (r : Record) : CellRequest where
  key := r.key
  series := r.series
  width := (r.image.map Image.cells).getD 1
  cls := r.source.effectiveClass

/-- The composer's answer to a record's request is settled at the directory. A grant makes the record RESERVED or
RETAKE-RESERVED; the cut-off condition is judged when the grant changed the pending count or followed an opening
(R72). The mark tells whether a cell was granted. -/
def State.settle (r : Record) (p : Placement) : State × Bool :=
  match p.granted with
  | some v =>
    if p.opened ∨ r.state = .waiting then ((p.state.updateRecord r.key (·.granted v)).judgeCutOff r.series, true)
    else (p.state.updateRecord r.key (·.granted v), true)
  | none => (p.state, false)

/-- A WAITING or RETAKE-WAITING record asks for a cell by normal placement (R14, R18). -/
def State.offer (s : State) (r : Record) : State × Bool := State.settle r (s.normalPlacement r.request)

/-- Serving a series' waiting list from the front until a refusal or until it is empty (R18); `fuel` bounds the
records offered, and the list's length is always enough, since each grant takes one record off it. -/
def State.serveFrom (c : Fin 32) : (fuel : Nat) → State → State
  | 0, s => s
  | fuel + 1, s =>
    match s.waiting[c] with
    | [] => s
    | k :: _ =>
      match s.findRecord k with
      | none => s
      | some r =>
        match s.offer r with
        | (t, true) => State.serveFrom c fuel (t.leaveWaiting c k)
        | (t, false) => t

/-- Serving one series' waiting list (R18). -/
def State.serveList (s : State) (c : Fin 32) : State := State.serveFrom c s.waiting[c].length s

/-- One serving pass over all series in series order (R47). -/
def State.servePass (s : State) : State := allSeries.foldl State.serveList s

/-- The state a record takes at the acceptance of its body (R14). -/
def RecordState.accepted : RecordState → RecordState
  | .receiving => .waiting
  | .retakeReceiving => .retakeWaiting
  | st => st

/-- The acceptance of a body (R14): the record waits, and placement is attempted at once. -/
def State.acceptBody (s : State) (k : Key) : State :=
  match s.findRecord k with
  | none => s
  | some r =>
    let s1 := s.updateRecord k fun r => { r with state := r.state.accepted }
    if s.waiting[r.series] = [] then
      match s1.offer { r with state := r.state.accepted } with
      | (t, true) => t
      | (t, false) => t.joinWaiting r.series k
    else (s1.joinWaiting r.series k).serveList r.series

/-! ### The end of an image part -/

/-- A record returned to EXPOSED by a cancelled retake (R13, R90): its current location, superseded list and source
stay. -/
def Record.retakeCancelled (r : Record) : Record :=
  { r with image := none, reserved := none, state := .exposed }

/-- A reception ends without acceptance (R13). -/
def State.endReception (s : State) (k : Key) : State :=
  match s.findRecord k with
  | none => s
  | some r =>
    match r.state with
    | .receiving => ((s.removeRecord k).release (blocksOf r.image)).judgeCutOff r.series
    | .retakeReceiving => (s.updateRecord k Record.retakeCancelled).release (blocksOf r.image)
    | _ => s

/-! ### Claims (section 1.4) -/

/-- A claim (R10): key, series, retake flag, the source of the head, and the head's W, H and fit. -/
structure Claim where
  key : Key
  series : Fin 32
  retake : Bool
  source : Source
  width : Nat
  height : Nat
  fit : Fit
  deriving DecidableEq, Repr

/-- The key checks and the capacity test of a claim (R11, R12): the first failure, or none. -/
def State.claimFailure (s : State) (c : Claim) : Option Cause :=
  match c.retake, s.findRecord c.key with
  | false, some _ => some .duplicateKey
  | false, none => if Config.directoryCapacity ≤ s.records.length then some .directoryFull else none
  | true, none => some .noSuchDocument
  | true, some r =>
    if r.series ≠ c.series then some .seriesMismatch
    else
      match r.state with
      | .receiving | .waiting | .reserved | .exposing => some .notExposed
      | .retakeReceiving | .retakeWaiting | .retakeReserved | .retakeExposing => some .retakePending
      | .exposed => if 3 ≤ r.superseded.length then some .retakeLimit else none

/-- The image part of a claim with its blocks (R5). -/
def Claim.image (c : Claim) (blocks : List Nat) : Image where
  width := c.width
  height := c.height
  cells := c.fit.cells
  scale := c.fit.scale
  drawnWidth := c.fit.drawnWidth
  drawnHeight := c.fit.drawnHeight
  blocks := blocks

/-- The record that a new-key claim creates (R11). -/
def Claim.record (c : Claim) (blocks : List Nat) : Record where
  key := c.key
  series := c.series
  state := .receiving
  source := c.source
  image := some (c.image blocks)
  reserved := none
  current := none
  superseded := []

/-- The record of an admitted retake (R12): current location and superseded list stay. -/
def Record.retaken (r : Record) (c : Claim) (blocks : List Nat) : Record :=
  { r with state := .retakeReceiving, source := c.source, image := some (c.image blocks) }

/-- The directory takes a claim (R10): key checks, capacity, block need; it answers with the first failure, or the
record is created or changed. A new record raises its series' pending count, so the cut-off condition is judged. -/
def State.takeClaim (s : State) (c : Claim) : Except Cause State :=
  match s.claimFailure c with
  | some cause => .error cause
  | none =>
    match s.allocate (blockNeed c.width c.height) with
    | none => .error .noRoom
    | some (blocks, t) =>
      if c.retake then .ok (t.updateRecord c.key fun r => r.retaken c blocks)
      else .ok ((t.addRecord (c.record blocks)).judgeCutOff c.series)

/-! ### Placement notices (R24, R125) -/

/-- A placement notice handed to the intake (R24). -/
structure PlacementNotice where
  source : Source
  key : Key
  fiche : FicheId
  grid : GridRef
  dose : Bool
  retake : Bool
  deriving DecidableEq, Repr

/-- The PLACED frame of a notice (R125). -/
def PlacementNotice.placed (n : PlacementNotice) : Placed where
  tag := n.source.tag
  key := n.key
  fiche := n.fiche
  grid := n.grid
  submittedClass := n.source.submittedClass
  dose := n.dose
  retake := n.retake

/-- The intake decides a placement notice: orphan, lost or sent (R125). -/
def State.placementNotice (s : State) (n : PlacementNotice) : State :=
  let e := s.admission[n.source.entry]
  if e.enabled = false ∨ e.generation ≠ n.source.generation then
    (s.countLink e.link .orphanNotices).raise .orphan
  else if s.links[e.link].active = false then s.countLink e.link .noticesLost
  else (s.sendFrame e.link (.placed n.placed)).countLink e.link .placedSent

/-! ### Exposure completion (section 1.8) -/

/-- A record after a first exposure (R22). -/
def Record.firstExposed (r : Record) (place : Place) (dose : Bool) : Record :=
  { r with current := some ⟨place, dose⟩, reserved := none, image := none, state := .exposed }

/-- A record after a retake completion (R23): the old current location joins the superseded list. -/
def Record.retakeExposed (r : Record) (place : Place) (dose : Bool) : Record :=
  { r with
    superseded := r.superseded ++ r.current.toList
    current := some ⟨place, dose⟩
    reserved := none
    image := none
    state := .exposed }

/-- The old current location's leading cell becomes SUPERSEDED where its fiche is OPEN or CLOSING in a slot (R23). -/
def State.supersedeCell (s : State) (p : Place) : State :=
  match s.liveSlotOfPlace p with
  | some i => s.modCell i p.cell fun c => { c with state := .superseded }
  | none => s

/-- The directory finishes a record at the completion of its exposure (R22, R23): the record, then its blocks, then
the placement notice (R24, R132). -/
def State.finishRecord (s : State) (k : Key) (dose : Bool) : State :=
  match s.findRecord k with
  | none => s
  | some r =>
    match r.reserved with
    | none => s
    | some v =>
      let notice : Bool → PlacementNotice := fun retake =>
        { source := r.source, key := k, fiche := v.place.fiche, grid := (s.slotFormat v.slot).gridRef v.place.cell,
          dose := dose, retake := retake }
      match r.state with
      | .exposing =>
        ((s.updateRecord k (·.firstExposed v.place dose)).release (blocksOf r.image)).placementNotice (notice false)
      | .retakeExposing =>
        let s1 := match r.current with
          | some old => s.supersedeCell old.place
          | none => s
        ((s1.updateRecord k (·.retakeExposed v.place dose)).release (blocksOf r.image)).placementNotice (notice true)
      | _ => s

end Sys2Proof.Machine
end

