-- ==== Sys2Proof/Machine/Intake.lean ====
section
/-! DEFINITION. Shared operations of the Station Intake: refusals and endings of receptions (R108, R115, R120 to R124),
the checks of a SUBMIT-HEAD (R116, R117), the beginning of a reception (R118), and the body (R119). -/

namespace Sys2Proof.Machine

/-- A REFUSE is produced for a link and counted; DIRECTORY_FULL and NO_ROOM are counted for space too (R117, R126). -/
def State.refuse (s : State) (l : Fin 8) (tag : BitVec 16) (cause : Cause) : State :=
  let t := (s.sendFrame l (.refuse tag cause)).countLink l .refused
  if cause = .directoryFull ∨ cause = .noRoom then t.countLink l .refusedForSpace else t

/-- A link's context becomes IDLE and its reception timer is stopped (R114). -/
def State.idleContext (s : State) (l : Fin 8) : State := s.modLink l fun k => { k with reception := none }

/-- A reception ends with a REFUSE (R115, R119 to R122): WITHDRAWN, with nothing reported, when its withdrawn flag is
set; otherwise the cause given, and the ending is reported to the directory (R13). The context becomes IDLE. -/
def State.endWithRefuse (s : State) (l : Fin 8) (r : Reception) (cause : Cause) : State :=
  if r.withdrawn then (s.refuse l r.tag .withdrawn).idleContext l
  else ((s.refuse l r.tag cause).endReception r.key).idleContext l

/-- A reception that runs on a link is ended by a new head, by the timer, or by its own frames. -/
def State.endRunning (s : State) (l : Fin 8) (cause : Cause) : State :=
  match s.links[l].reception with
  | some r => s.endWithRefuse l r cause
  | none => s

/-- The enabled entry with a link and an operator code (R113). -/
def State.matchEntry (s : State) (l : Fin 8) (operator : BitVec 8) : Option (Fin 16) :=
  allEntries.find? fun i =>
    s.admission[i].enabled && decide (s.admission[i].link = l) && decide (s.admission[i].operator = operator)

/-- W, H, class or account number outside its range (R116, check 5). -/
def HeadFields.malformed (d : HeadFields) : Bool :=
  decide (d.width < 64) || decide (8192 < d.width) || decide (d.height < 64) || decide (8192 < d.height) ||
    decide (3 < d.cls) || !d.key.accountInRange

/-- The source part that a head and its matching entry give (R4, R113). -/
def headSource (i : Fin 16) (e : AdmissionEntry) (d : HeadFields) : Source where
  entry := i
  generation := e.generation
  tag := d.tag
  submittedClass := d.cls
  effectiveClass := max d.cls e.floor

/-- Checks 1 to 6 of a SUBMIT-HEAD in their order (R116, R117): the first failure, or the claim to be made (R10). -/
def State.checkHead (s : State) (l : Fin 8) (d : HeadFields) : Except Cause Claim :=
  match s.matchEntry l d.operator with
  | none => .error .unregistered
  | some i =>
    if h : d.series < 32 then
      let c : Fin 32 := ⟨d.series, h⟩
      if s.series[c].state = .undefined then .error .noSeries
      else if s.admission[i].mask.getLsbD d.series = false then .error .notPermitted
      else if s.series[c].state = .cutOff then .error .seriesClosed
      else if d.malformed then .error .malformed
      else
        match (s.formatAt s.series[c].format).fit d.width d.height with
        | .oversize _ _ => .error .oversize
        | .fits fit =>
          .ok { key := d.key, series := c, retake := d.retake, source := headSource i s.admission[i] d,
                width := d.width, height := d.height, fit := fit }
    else .error .noSeries

/-- The reception that an admitted head begins (R118). -/
def HeadFields.reception (d : HeadFields) : Reception where
  tag := d.tag
  key := d.key
  retake := d.retake
  expected := ceilDiv d.width 8 * d.height
  soFar := 0
  check := checkInitial
  withdrawn := false
  timer := Config.receptionMs

/-- The nine checks of a head on a link whose context is IDLE, and what follows them (R116 to R118). -/
def State.admitHead (s : State) (l : Fin 8) (d : HeadFields) : State :=
  match s.checkHead l d with
  | .error cause => s.refuse l d.tag cause
  | .ok claim =>
    match s.takeClaim claim with
    | .error cause => s.refuse l d.tag cause
    | .ok t => t.modLink l fun k => { k with reception := some d.reception }

/-- A SUBMIT-HEAD taken by R107 is counted, and in HEADS_DURING_HOLD too while the hold is ASSERTED (R126, R133). -/
def State.countHeadFrame (s : State) (l : Fin 8) : State :=
  if s.holdAsserted then (s.countLink l .headsReceived).countLink l .headsDuringHold
  else s.countLink l .headsReceived

/-- A SUBMIT-HEAD is taken on an ACTIVE link: a running reception ends first (R115), then the head is checked. -/
def State.takeHead (s : State) (l : Fin 8) (d : HeadFields) : State :=
  ((s.countHeadFrame l).endRunning l .abandoned).admitHead l d

/-- The block list of the record that a reception fills. -/
def State.receptionBlocks (s : State) (k : Key) : List Nat :=
  match s.findRecord k with
  | some r => blocksOf r.image
  | none => []

/-- The bytes of a BODY frame within the count are stored (R119): staging bytes, running check, bytes so far, timer. -/
def State.storeBody (s : State) (l : Fin 8) (r : Reception) (bytes : List Byte) : State :=
  ({ s with mem := writeBody s.mem (s.receptionBlocks r.key) r.soFar bytes } : State).modLink l fun k =>
    { k with reception := some { r with
        soFar := r.soFar + bytes.length, check := checkAdvance r.check bytes, timer := Config.receptionMs } }

/-- A BODY frame on an ACTIVE link (R119, R122, R123). -/
def State.takeBody (s : State) (l : Fin 8) (bytes : List Byte) : State :=
  match s.links[l].reception with
  | none => s.countLink l .strayFrames
  | some r =>
    if r.withdrawn then s
    else if r.soFar + bytes.length ≤ r.expected then s.storeBody l r bytes
    else s.endWithRefuse l r .overlength

/-- A reception is accepted (R120): ACCEPT is sent and counted, and the acceptance is reported to the directory (R14). -/
def State.acceptReception (s : State) (l : Fin 8) (r : Reception) : State :=
  (((s.sendFrame l (.accept r.tag r.key)).countLink l .accepted).idleContext l).acceptBody r.key

/-- A SUBMIT-END on an ACTIVE link (R120, R122, R123). -/
def State.takeEnd (s : State) (l : Fin 8) (check : BitVec 32) : State :=
  match s.links[l].reception with
  | none => s.countLink l .strayFrames
  | some r =>
    if r.withdrawn then s.endWithRefuse l r .withdrawn
    else if r.soFar < r.expected then s.endWithRefuse l r .shortBody
    else if check ≠ checkValue r.check then s.endWithRefuse l r .bodyCheck
    else s.acceptReception l r

/-- The reply to a PROBE (R109). Of a context that is IDLE the manual states no tag, withdrawn flag, expected byte
count or bytes so far: those fields hold free values (log entry 12). -/
def State.probeAnswer (s : State) (l : Fin 8) : ProbeReply :=
  match s.links[l].reception with
  | some r =>
    { link := l, receiving := true, withdrawn := if r.withdrawn then 1 else 0, tag := r.tag,
      expected := BitVec.ofNat 32 r.expected, soFar := BitVec.ofNat 32 r.soFar, quantum := s.links[l].quantum }
  | none =>
    { link := l, receiving := false,
      withdrawn := (Config.freeWord s.freeCount).setWidth 8,
      tag := (Config.freeWord (s.freeCount + 1)).setWidth 16,
      expected := Config.freeWord (s.freeCount + 2),
      soFar := Config.freeWord (s.freeCount + 3), quantum := s.links[l].quantum }

/-- A PROBE on an ACTIVE link is answered at once (R109). The counter of free values moves past those it used. -/
def State.takeProbe (s : State) (l : Fin 8) : State :=
  ({ s with freeCount := s.freeCount + 4 } : State).sendFrame l (.probeReply (s.probeAnswer l))

/-- A frame of a fixed-length kind is taken when its check is good and its length is the kind's; else it is discarded
and counted (R106, R107). -/
def State.takeFixed (s : State) (l : Fin 8) (kind : Byte) (length : Nat) (f : Frame) (take : State → State) : State :=
  if s.links[l].active then
    if frameGood kind f then
      if f.length.toNat = length then take s else s.countLink l .strayFrames
    else s.countLink l .checkErrors
  else s

/-- The link whose context is RECEIVING with a key and the withdrawn flag clear (R122). -/
def State.receivingLink (s : State) (k : Key) : Option (Fin 8) :=
  allLinks.find? fun l =>
    match s.links[l].reception with
    | some r => decide (r.key = k) && !r.withdrawn
    | none => false

/-- The intake marks withdrawn the reception that carries a key (R122). -/
def State.markWithdrawn (s : State) (k : Key) : State :=
  match s.receivingLink k with
  | some l => s.modLink l fun v => { v with reception := v.reception.map fun r => { r with withdrawn := true } }
  | none => s

end Sys2Proof.Machine
end

