-- ==== Sys2Proof/Machine/Heads.lean ====
section
/-! DEFINITION. Shared operations of the exposure heads: positions (R63 to R68, R80), the phases (R148 to R152), the
tracker's tests (R160 to R167), returns, spoils and faults (R20, R21, R102, R154 to R156), the dose monitor
(R173 to R180), and the completion of an entry (R153). -/

namespace Sys2Proof.Machine

/-! ### Positions -/

/-- The corner of a cell nearest the sheet's corner (section 3.3). -/
def Format.cellOrigin (f : Format) (n : Nat) : Int × Int :=
  (((f.ox + n % f.cols * f.px : Nat) : Int), ((f.oy + f.band + n / f.cols * f.py : Nat) : Int))

/-- The record whose key is written in a cell (section 1.7). -/
def State.recordAt (s : State) (i : Fin 12) (n : Nat) : Option Record := (s.keyAt i n).bind s.findRecord

/-- The image of the record whose key is written in a cell. -/
def State.imageAt (s : State) (i : Fin 12) (n : Nat) : Option Image := (s.recordAt i n).bind Record.image

/-- An entry's position without the held offset (R63, R66). -/
def State.basePosition (s : State) (e : Entry) : Int × Int :=
  let f := s.slotFormat e.slot
  match e with
  | .title _ => ((f.ox : Int), (f.oy : Int))
  | .cell i n _ =>
    match s.imageAt i n with
    | some m =>
      ((f.cellOrigin n).1 + (f.centreX m.cells m.drawnWidth : Nat), (f.cellOrigin n).2 + (f.centreY m.drawnHeight : Nat))
    | none => f.cellOrigin n
  | .index _ n _ => ((f.cellOrigin n).1 + f.gutter, (f.cellOrigin n).2 + f.gutter)

/-- An entry's position with the tracker's held offset added (R63, R64, R66). -/
def State.position (s : State) (h : Fin 4) (e : Entry) : Int × Int :=
  ((s.basePosition e).1 + s.heads[h].tracker.dx, (s.basePosition e).2 + s.heads[h].tracker.dy)

/-- The sheet reference position (R161). -/
def referencePosition : Int × Int := (74000, 200)

/-! ### What is drawn (R152) -/

/-- The title text of a fiche (R67): template, a space when the template is not empty, date code, solidus, sequence. -/
def titleText (template : Text) (f : FicheId) : Text :=
  (if template.isEmpty then [] else template ++ [spaceCode]) ++ digits 5 f.date ++ [solidusCode] ++ digits 4 f.sequence

/-- What the writer is given to draw for an entry at a head's draw position (R65, R67, R68, R77, R78, R80). -/
def State.drawOf (s : State) (h : Fin 4) (e : Entry) : Option Draw :=
  let f := s.slotFormat e.slot
  let p := s.position h e
  match e with
  | .title i =>
    some (.title p.1 p.2 (f.cols * f.px / 39) (f.band / 4) (f.band / 2)
      (titleText s.series[s.slots[i].fiche.series].template s.slots[i].fiche))
  | .cell i n _ =>
    (s.imageAt i n).map fun m =>
      .image p.1 p.2 m.width m.height m.scale (readBody s.mem m.blocks (ceilDiv m.width 8 * m.height))
  | .index i _ part =>
    some (.index p.1 p.2 (f.drawableHeight / 120) (f.drawableWidth 1 / 30)
      (indexPartLines f (s.slots[i].index.getD []) part))

/-- Whether pixel i of row j of an image of W × H pixels is exposed (R65): its bit is 1, the first pixel of a row in the
most significant bit of the row's first byte. The bits beyond the W-th pixel of a row are not drawn, nor is a row
beyond the H-th. -/
def pixelExposed (width height : Nat) (body : List Byte) (i j : Nat) : Bool :=
  decide (i < width) && decide (j < height) && (body.getD (j * ceilDiv width 8 + i / 8) 0).getLsbD (7 - i % 8)

/-- The extent of pixel number i along an axis from a draw position at a scale (R65). -/
def pixelExtent (start : Int) (scale i : Nat) : Int × Int :=
  (start + (i * scale / 4096 : Nat), start + ((i + 1) * scale / 4096 : Nat))

/-- The box of character number m of a drawn title (R68): left, top, width, height. -/
def titleBox (x y : Int) (charWidth charTop charHeight m : Nat) : Int × Int × Nat × Nat :=
  (x + (m * charWidth : Nat), y + charTop, charWidth, charHeight)

/-- The box of character number m of line j of a drawn index part (R80): left, top, width, height. -/
def indexBox (x y : Int) (lineHeight charWidth j m : Nat) : Int × Int × Nat × Nat :=
  (x + (m * charWidth : Nat), y + (j * lineHeight : Nat), charWidth, lineHeight)

/-- What the writer exposes for pixel i of row j of an image that it is given (R65): the pixel's extents along X and Y
from the draw position, or nothing for a bit that is 0 or is not drawn. -/
def Draw.pixelArea (d : Draw) (i j : Nat) : Option ((Int × Int) × (Int × Int)) :=
  match d with
  | .image x y width height scale body =>
    if pixelExposed width height body i j then some (pixelExtent x scale i, pixelExtent y scale j) else none
  | .title _ _ _ _ _ _ | .index _ _ _ _ _ => none

/-- Where the writer draws character m of line j of a text that it is given (R68, R80), and which character: a title has
line 0 alone; the positions after a line's last character are left unexposed. -/
def Draw.characterBox (d : Draw) (j m : Nat) : Option ((Int × Int × Nat × Nat) × Byte) :=
  match d with
  | .title x y charWidth charTop charHeight text =>
    if j = 0 then text[m]?.map fun c => (titleBox x y charWidth charTop charHeight m, c) else none
  | .index x y lineHeight charWidth lines =>
    (lines[j]?.bind fun text => text[m]?).map fun c => (indexBox x y lineHeight charWidth j m, c)
  | .image _ _ _ _ _ _ => none

/-! ### Phases (section 8.4) -/

/-- The entry in flight goes to a phase. -/
def State.setPhase (s : State) (h : Fin 4) (p : Phase) : State :=
  s.modHead h fun k => { k with inFlight := k.inFlight.map fun e => { e with phase := p } }

/-- The stage is driven to a position under its 1000 ms limit, the motion carrying the head's next number (R150, R151,
R154). -/
def State.driveStage (s : State) (h : Fin 4) (p : Int × Int) : State :=
  s.modHead h fun k =>
    { k with
      stageOrder := some ⟨k.nextMotion, p.1, p.2⟩
      stageLimit := some Config.stageMs
      awaited := some k.nextMotion
      nextMotion := k.nextMotion + 1 }

/-- ACQUIRING: a new acquisition run, and the stage driven to the reference position (R150, R161). -/
def State.enterAcquiring (s : State) (h : Fin 4) : State :=
  ((s.setPhase h .acquiring).modHead h fun k => { k with tracker := { k.tracker with run := some ⟨0, none⟩ } }).driveStage
    h referencePosition

/-- POSITIONING: the stage driven to the entry's position with the held offset then current (R63, R66, R151). -/
def State.enterPositioning (s : State) (h : Fin 4) (e : Entry) : State :=
  (s.setPhase h .positioning).driveStage h (s.position h e)

/-- ADVANCING: the transport asked for the entry's sheet under its 8000 ms limit (R149). -/
def State.enterAdvancing (s : State) (h : Fin 4) (sheet : Nat) : State :=
  (s.setPhase h .advancing).modHead h fun k =>
    { k with
      transportOrder := some ⟨k.nextMotion, sheet⟩
      transportLimit := some Config.transportMs
      awaited := some k.nextMotion
      nextMotion := k.nextMotion + 1 }

/-- DRAWING: the writer is given the entry's draw at the position with the offset held after the reading (R64, R152). -/
def State.enterDrawing (s : State) (h : Fin 4) (e : Entry) : State :=
  (s.setPhase h .drawing).modHead h fun k => { k with draw := s.drawOf h e }

/-- The first phase that a taken entry needs (R148). -/
def State.firstPhase (s : State) (h : Fin 4) (e : Entry) : State :=
  if s.heads[h].stageSheet ≠ some s.slots[e.slot].sheet then s.enterAdvancing h s.slots[e.slot].sheet
  else if s.heads[h].tracker.locked = false then s.enterAcquiring h
  else s.enterPositioning h e

/-- The record of an entry's held cell changes (section 1.7); a TITLE or INDEX entry has none. -/
def State.modEntryRecord (s : State) (e : Entry) (f : Record → Record) : State :=
  match e with
  | .cell i n _ =>
    match s.keyAt i n with
    | some k => s.updateRecord k f
    | none => s
  | _ => s

/-- A head's take moves the record to EXPOSING or RETAKE-EXPOSING (R19). -/
def Record.taken (r : Record) : Record :=
  { r with state := match r.state with
      | .reserved => .exposing
      | .retakeReserved => .retakeExposing
      | st => st }

/-- A return moves the record back to RESERVED or RETAKE-RESERVED (R20). -/
def Record.returned (r : Record) : Record :=
  { r with state := match r.state with
      | .exposing => .reserved
      | .retakeExposing => .retakeReserved
      | st => st }

/-- An entry is taken (R148): it leaves the front of the queue for flight, and the directory takes the take. -/
def State.takeEntry (s : State) (h : Fin 4) (e : Entry) (rest : List Entry) : State :=
  ((s.modHead h fun k => { k with queue := rest, inFlight := some ⟨e, .advancing⟩ }).modEntryRecord e
    Record.taken).firstPhase h e

/-- A pass owed for a slot of the head that its last completion freed comes before the head's next take (R82, R153;
log entry 7). -/
def State.passOwed (s : State) (h : Fin 4) : Bool :=
  s.retryEvents.any fun e => match e with
    | .slotFree i => decide (headOf i = h)
    | _ => false

/-! ### The end of an entry -/

/-- An entry is returned to the front of its class, its record to RESERVED or RETAKE-RESERVED (R20, R147). -/
def State.returnEntry (s : State) (h : Fin 4) (e : Entry) : State :=
  (s.modHead h fun k => { k with queue := returnQueue k.queue e, inFlight := none }).modEntryRecord e Record.returned

/-- An entry in flight ends without a fault: a STOPPING head goes to READY and raises STOPPED (R145, R153). -/
def State.endEntry (s : State) (h : Fin 4) : State :=
  let t := s.modHead h fun k => { k with inFlight := none }
  if s.heads[h].state = .stopping then (t.modHead h fun k => { k with state := .ready }).raise (.stopped h) else t

/-- A spoiled record without a cell waits (R21, R102, R103). -/
def Record.spoiledWaiting (r : Record) : Record :=
  { r with state := match r.state with
      | .exposing => .waiting
      | .retakeExposing => .retakeWaiting
      | st => st }

/-- The spoil of a CELL entry in the order of R102 (R103 for a retake's replacement). -/
def State.spoil (s : State) (i : Fin 12) (n : Nat) : State :=
  let width := ((s.cellAt i n).map Cell.width).getD 1
  let t := (s.modCells i n width (fun c => { c with state := .spoiled, dose := false })
    (fun c => { c with state := .spoiled, dose := false })).indexingTest i
  match s.recordAt i n with
  | none => t
  | some r =>
    match State.settle r ((t.updateRecord r.key fun x => { x with reserved := none }).rePlacement i r.request) with
    | (u, true) => u
    | (u, false) =>
      let v := (u.updateRecord r.key Record.spoiledWaiting).joinWaiting r.series r.key
      if r.state = .exposing then v.judgeCutOff r.series else v

/-- An entry interrupted at or after drawing (R156): a CELL entry is spoiled, a TITLE or INDEX entry goes to the front
of class 4 for redraw. -/
def State.interruptEntry (s : State) (h : Fin 4) (e : Entry) : State :=
  match e with
  | .cell i n _ => ((s.modHead h fun k => { k with inFlight := none }).spoil i n).countHead h .spoiledExposures
  | .title i | .index i _ _ => (s.returnEntry h e).modSlot i fun t => { t with redraw := true }

/-- The fault kinds after which the film's position is not known (R154). -/
def FaultKind.losesSheet : FaultKind → Bool
  | .transportTimeout | .transportJam | .sheetMismatch | .sheetUnreadable => true
  | .stageTimeout | .registrationFailed | .lampFailure => false

/-- A head enters FAULT, in the order of R154. -/
def State.enterFault (s : State) (h : Fin 4) (kind : FaultKind) : State :=
  let t := ((s.modHead h fun k =>
    { k with
      state := .fault
      faultKind := some kind
      stageSheet := if kind.losesSheet then none else k.stageSheet
      transportLimit := none
      stageLimit := none
      awaited := none
      codeReads := none
      tracker := { k.tracker with run := none } }).countHead h .faults).raise (.fault h)
  match s.heads[h].inFlight with
  | none => t
  | some e => if e.phase = .drawing then t.interruptEntry h e.entry else t.returnEntry h e.entry

/-! ### The tracker (spec/09) -/

/-- The tracker goes to ACQUIRE (R159, R170): error count 0, offset and option kept; leaving LOCKED sets LOCKED's
change bit. -/
def State.trackerAcquire (s : State) (h : Fin 4) : State :=
  let t := s.modHead h fun k => { k with tracker := { k.tracker with locked := false, errors := 0, run := none } }
  if s.heads[h].tracker.locked then t.raise (.locked h) else t

/-- Within capture (R160). -/
def withinCapture : Reading → Bool
  | .missing => false
  | .offset ex ey => decide (ex.natAbs ≤ Config.capture) && decide (ey.natAbs ≤ Config.capture)

/-- Two readings of a run agree (R162): both within capture, and no more than 10 µm apart along each axis. -/
def readingsAgree : Reading → Reading → Bool
  | .offset ax ay, .offset cx cy =>
    withinCapture (.offset ax ay) && withinCapture (.offset cx cy) &&
      decide ((ax - cx).natAbs ≤ 10) && decide ((ay - cy).natAbs ≤ 10)
  | _, _ => false

/-- A reading given to a LOCKED tracker is good (R164): within capture and no more than 40 µm from the held offset. -/
def Tracker.good (t : Tracker) : Reading → Bool
  | .missing => false
  | .offset ex ey =>
    withinCapture (.offset ex ey) && decide ((ex - t.dx).natAbs ≤ 40) && decide ((ey - t.dy).natAbs ≤ 40)

/-- The held offset replaced by a reading, the error count cleared, the tracker LOCKED (R162, R164). -/
def Tracker.hold (t : Tracker) : Reading → Tracker
  | .offset ex ey => { t with locked := true, dx := ex, dy := ey, errors := 0, run := none }
  | .missing => t

/-- A reading of an acquisition run (R162, R163): lock and go to POSITIONING, go on, or fail at the eighth. -/
def State.acquisitionReading (s : State) (h : Fin 4) (e : Entry) (run : Run) (r : Reading) : State :=
  if (run.previous.map fun p => readingsAgree p r).getD false then
    ((s.modHead h fun k => { k with tracker := k.tracker.hold r }).raise (.locked h)).enterPositioning h e
  else if run.taken + 1 < Config.runReadings then
    (s.modHead h fun k => { k with tracker := { k.tracker with run := some ⟨run.taken + 1, some r⟩ } }).driveStage h
      referencePosition
  else s.enterFault h .registrationFailed

/-- A reading of POSITIONING given to a LOCKED tracker (R164 to R167, R151). -/
def State.positioningReading (s : State) (h : Fin 4) (e : Entry) (r : Reading) : State :=
  let t := s.heads[h].tracker
  if t.good r then (s.modHead h fun k => { k with tracker := k.tracker.hold r }).enterDrawing h e
  else if t.errors + 1 < 3 ∨ t.holdLock then
    (s.modHead h fun k => { k with tracker := { k.tracker with errors := min (k.tracker.errors + 1) 3 } }).enterDrawing
      h e
  else
    (((s.trackerAcquire h).countHead h .registrationLosses).returnEntry h e).endEntry h

/-! ### Sheet codes (section 9.5) -/

/-- The code that a sheet of a coded roll carries (section 9.5). -/
def Head.sheetCode (k : Head) (sheet : Nat) : BitVec 16 := k.firstCode + BitVec.ofNat 16 sheet

/-- What the reads made so far of a sheet code decide (R171): `some (some v)` a code taken, `some none` no code can be
taken, `none` a further read. -/
def codeOutcome (reads : List (Option (BitVec 16))) : Option (Option (BitVec 16)) :=
  match reads.reverse with
  | some a :: some b :: _ => if a = b then some (some a) else if 4 ≤ reads.length then some none else none
  | _ => if 4 ≤ reads.length then some none else none

/-- The entry's sheet becomes the stage sheet, and the head goes to ACQUIRING (R149, R172). -/
def State.sheetReached (s : State) (h : Fin 4) (sheet : Nat) : State :=
  (s.modHead h fun k => { k with stageSheet := some sheet, codeReads := none }).enterAcquiring h

/-! ### The dose monitor (spec/10) -/

/-- A dose integral above 0 is a deviation when |M - T| × 8 is greater than T (R175). -/
def Dose.deviates (d : Dose) (m : Nat) : Bool := decide (d.target < ((m : Int) - d.target).natAbs * 8)

/-- A window step (R177) with the window's end at the 256th (R178). -/
def Dose.step (d : Dose) (deviation : Bool) : Dose :=
  let count := if deviation then d.deviations + 1 else d.deviations
  let degraded := d.degraded || (deviation && decide (d.threshold ≤ count))
  if d.position + 1 = Config.windowDraws then
    { d with deviations := 0, position := 0, degraded := degraded && decide (d.threshold ≤ count) }
  else { d with deviations := count, position := d.position + 1, degraded := degraded }

/-- The DEGRADED flag after step 2 of R177, before the window's end. -/
def Dose.degradedMid (d : Dose) (deviation : Bool) : Bool :=
  d.degraded || (deviation && decide (d.threshold ≤ (if deviation then d.deviations + 1 else d.deviations)))

/-- The draw is judged and the window stepped (R175, R177, R178): DOSE_DEVIATIONS counted at a deviation, DEGRADED's
change bit set at each setting and clearing of the flag (R188). -/
def State.judgeDose (s : State) (h : Fin 4) (m : Nat) : State :=
  let d := s.heads[h].dose
  let dev := d.deviates m
  let t := s.modHead h fun k => { k with dose := (k.dose.step dev) }
  let u := if dev then t.countHead h .doseDeviations else t
  if d.degraded ≠ d.degradedMid dev ∨ d.degradedMid dev ≠ (d.step dev).degraded then u.raise (.degraded h) else u

/-! ### Completion (R153) -/

/-- A FICHE-CLOSED notice is put on the queue, or dropped when it is full (R191). -/
def State.putNotice (s : State) (n : Notice) : State :=
  if s.port.notices.length < Config.noticeCapacity then
    if s.port.notices = [] then (s.modPort fun p => { p with notices := [n] }).raise .notice
    else s.modPort fun p => { p with notices := p.notices ++ [n] }
  else s.raise .noticeOverflow

/-- The notice of a fiche whose index is on film (R82). -/
def State.closedNotice (s : State) (i : Fin 12) : Notice where
  fiche := s.slots[i].fiche
  head := headOf i
  sheet := s.slots[i].sheet
  redraw := s.slots[i].redraw
  counts := stateCounts s.slots[i].cells

/-- A fiche leaves the table (R82): the notice, the FREE slot, the retry event. -/
def State.leaveTable (s : State) (i : Fin 12) : State :=
  ((s.putNotice (s.closedNotice i)).modSlot i fun _ => Slot.reset).retry (.slotFree i)

/-- An index cell is on film (R81); with the last of them the fiche leaves the table (R82). -/
def State.completeIndex (s : State) (i : Fin 12) (n : Nat) : State :=
  let t := s.modCell i n fun c => { c with state := .indexDone }
  if t.slots[i].cells.all (fun c => decide (c.state ≠ .indexPending)) then t.leaveTable i else t

/-- A document cell is on film (R153): the cell, the record, the indexing test. -/
def State.completeCell (s : State) (i : Fin 12) (n : Nat) (dose : Bool) : State :=
  let t := s.modCell i n fun c => { c with state := .exposed, dose := dose }
  match s.keyAt i n with
  | some k => (t.finishRecord k dose).indexingTest i
  | none => t.indexingTest i

/-- The completion of an entry by its kind (R153), counted. -/
def State.complete (s : State) (h : Fin 4) (e : Entry) (dose : Bool) : State :=
  match e with
  | .cell i n _ => (s.completeCell i n dose).countHead h .cellExposures
  | .title i => (s.modSlot i fun t => { t with title := true }).countHead h .titleExposures
  | .index i n _ => (s.completeIndex i n).countHead h .indexExposures

end Sys2Proof.Machine
end

