-- ==== Sys2Proof/Machine/Port.lean ====
section
/-! DEFINITION. The request port: request codes and lengths, status codes, response messages (section 11.6, R193), the
request cycle (R184 to R187), and the one shape that every host request has. -/

namespace Sys2Proof.Machine

/-- The status codes of section 11.6, in the order of their codes. -/
inductive Status where
  | ok | badRequest | badArgument | notFound | inExposure | exposedRecord | notExposed | retakePending | ficheClosed
  | duplicateKey | receiving | ficheOpen | badFormat | formatInUse | seriesBusy | seriesClosed | seriesActive
  | noSeries | headState | duplicateEntry | oversize | noticeEmpty
  deriving DecidableEq, Repr

/-- The code of a status (section 11.6, "Status codes"). -/
def statusCode : Status → Nat
  | .ok => 0x0000
  | .badRequest => 0x0001
  | .badArgument => 0x0002
  | .notFound => 0x0003
  | .inExposure => 0x0004
  | .exposedRecord => 0x0005
  | .notExposed => 0x0006
  | .retakePending => 0x0007
  | .ficheClosed => 0x0008
  | .duplicateKey => 0x0009
  | .receiving => 0x000A
  | .ficheOpen => 0x000B
  | .badFormat => 0x000C
  | .formatInUse => 0x000D
  | .seriesBusy => 0x000E
  | .seriesClosed => 0x000F
  | .seriesActive => 0x0010
  | .noSeries => 0x0011
  | .headState => 0x0012
  | .duplicateEntry => 0x0013
  | .oversize => 0x0014
  | .noticeEmpty => 0x0015

/-- An owner's answer to a request: its status and the words that follow the response header. -/
structure Response where
  status : Status
  body : List Word
  deriving DecidableEq, Repr

/-- An answer that is the header alone (R186). -/
def refusal (st : Status) : Response := ⟨st, []⟩

/-- The answer OK with fields. -/
def okWith (body : List Word) : Response := ⟨.ok, body⟩

/-- The response header (section 11.6): status code, length in words with the header, bits 7 to 0 of the code answered. -/
def responseHeader (codeByte : Nat) (r : Response) : Word :=
  word (statusCode r.status + (r.body.length + 1) * 65536 + codeByte * 16777216)

/-- The words of a response message. -/
def responseWords (codeByte : Nat) (r : Response) : List Word := responseHeader codeByte r :: r.body

/-- Write words into a buffer from its start; words beyond them keep their former contents (R184). -/
def overwrite {n : Nat} (buffer : Vector Word n) (words : List Word) : Vector Word n :=
  Vector.ofFn fun i => words.getD i.val buffer[i]

/-- The request codes with their lengths in words, header included (section 11.6, "Request codes"). -/
def requestCodes : List (Nat × Nat) :=
  [(0x0010, 4), (0x0011, 4), (0x0012, 4), (0x0013, 4), (0x0014, 7), (0x0015, 4),
   (0x0020, 10), (0x0021, 2), (0x0022, 4), (0x0023, 13), (0x0024, 2), (0x0025, 2), (0x0026, 2), (0x0027, 3),
   (0x0030, 2), (0x0031, 4),
   (0x0040, 7), (0x0041, 2), (0x0042, 2), (0x0043, 2), (0x0044, 1),
   (0x0050, 5), (0x0051, 2), (0x0052, 2), (0x0053, 2), (0x0054, 2), (0x0055, 2), (0x0056, 3), (0x0057, 2),
   (0x0058, 4), (0x0059, 2),
   (0x0060, 1), (0x0061, 2), (0x0062, 2), (0x0063, 1), (0x0064, 3)]

/-- The length that the table gives for a code, when the code is one of the table's. -/
def requestLength (code : Nat) : Option Nat := (requestCodes.find? fun c => decide (c.1 = code)).map Prod.snd

/-- The code, length and high byte of a request header (section 11.6). -/
def headerCode (header : Word) : Nat := header.toNat % 65536
def headerLength (header : Word) : Nat := header.toNat / 65536 % 256
def headerHighByte (header : Word) : Nat := header.toNat / 16777216

/-- The three tests of R186 on a request header. -/
def headerPasses (header : Word) : Bool :=
  match requestLength (headerCode header) with
  | some n => decide (headerLength header = n) && decide (headerHighByte header = 0)
  | none => false

/-- The code byte of a BAD_REQUEST answer: bits 7 to 0 of the code, and 0 for an unknown code (section 11.6). -/
def badRequestByte (header : Word) : Nat :=
  match requestLength (headerCode header) with
  | some _ => headerCode header % 256
  | none => 0

/-- The end of the request in execution (R184, steps 4 and 5): the response is written in one act, the port becomes IDLE
and DONE is set; where a Port Clear was taken meanwhile, nothing is written and DONE stays (R187). -/
def State.finishRequest (s : State) (codeByte : Nat) (r : Response) : State :=
  s.modPort fun p =>
    match p.execution with
    | none => p
    | some e =>
      if e.cleared then { p with execution := none }
      else
        { p with
          responseBuffer := overwrite p.responseBuffer (responseWords codeByte r)
          execution := none
          done := true }

/-- A GO taken by an IDLE port (R184, steps 1 and 2): DONE is cleared, the port becomes BUSY, the buffer is copied. -/
def State.startRequest (s : State) : State :=
  s.modPort fun p => { p with done := false, execution := some ⟨p.requestBuffer, false⟩ }

/-- The host's writes of words into the request buffer, in any port state (R183). -/
def State.writeRequest (s : State) (words : List Word) : State :=
  s.modPort fun p => { p with requestBuffer := overwrite p.requestBuffer words }

/-- The request header of a code and length (section 11.6). -/
def requestHeader (code length : Nat) : Word := word (code + length * 65536)

/-- The request message of a code and body (section 11.6). -/
def requestMessage (code : Nat) (body : List Word) : List Word := requestHeader code (body.length + 1) :: body

/-- Whether a copied request buffer begins with a message. -/
def carries (request : Vector Word 16) (message : List Word) : Bool :=
  decide (request.toList.take message.length = message)

/-- A host request (log entry 1). With the port IDLE it is the whole request: the host writes the message and strikes GO
(R183, R184), the owner answers, and the response is written. With the port BUSY with this very message in execution,
as a GO left it, it is the owner's answer to it. With the port BUSY with another request, the host writes the message
and its GO is not taken: OVERRUN (R185). -/
def State.request (s : State) (code : Nat) (body : List Word) (owner : State → State × Response) : State :=
  match s.port.execution with
  | none =>
    let t := owner ((s.writeRequest (requestMessage code body)).startRequest)
    t.1.finishRequest (code % 256) t.2
  | some e =>
    if carries e.request (requestMessage code body) then (owner s).1.finishRequest (code % 256) (owner s).2
    else (s.writeRequest (requestMessage code body)).raise .overrun

/-! ### Words of answers (R193) -/

/-- Positions of the values of enumerated fields in the tables that list them (R193). -/
def recordStateCode : RecordState → Nat
  | .receiving => 0
  | .waiting => 1
  | .reserved => 2
  | .exposing => 3
  | .exposed => 4
  | .retakeReceiving => 5
  | .retakeWaiting => 6
  | .retakeReserved => 7
  | .retakeExposing => 8

def seriesStateCode : SeriesState → Nat
  | .undefined => 0
  | .active => 1
  | .cutOff => 2

def slotStateCode : SlotState → Nat
  | .free => 0
  | .opened => 1
  | .closing => 2
  | .indexing => 3

def cellStateCode : CellState → Nat
  | .empty => 0
  | .held => 1
  | .exposed => 2
  | .superseded => 3
  | .void => 4
  | .spoiled => 5
  | .trailing => 6
  | .indexPending => 7
  | .indexDone => 8

def headStateCode : HeadState → Nat
  | .noRoll => 0
  | .ready => 1
  | .running => 2
  | .stopping => 3
  | .fault => 4

/-- The fault kind's values are "none, or one of the seven kinds of R154" (R140): none is 0 (DEDUCED; log entry 15). -/
def faultKindCode : Option FaultKind → Nat
  | none => 0
  | some .transportTimeout => 1
  | some .stageTimeout => 2
  | some .transportJam => 3
  | some .sheetMismatch => 4
  | some .sheetUnreadable => 5
  | some .registrationFailed => 6
  | some .lampFailure => 7

def phaseCode : Phase → Nat
  | .advancing => 0
  | .acquiring => 1
  | .positioning => 2
  | .drawing => 3

def entryKindCode : Entry → Nat
  | .title _ => 0
  | .cell _ _ _ => 1
  | .index _ _ _ => 2

/-- The word of the cell number an entry names; a TITLE entry names none (R147), and the manual states no value for its
word, which is free (log entry 17). -/
def entryCell (free : Word) : Entry → Word
  | .title _ => free
  | .cell _ n _ => word n
  | .index _ n _ => word n

/-- A fiche identity takes three words. -/
def ficheWords (f : FicheId) : List Word := [word f.series.val, word f.date, word f.sequence]

/-- A place takes seven words. -/
def placeWords (p : Place) : List Word :=
  ficheWords p.fiche ++ [word p.head.val, word p.sheet, word p.cell, word p.width]

/-- A location takes eight words, with its dose flag. -/
def locationWords (l : Location) : List Word := placeWords l.place ++ [flagWord l.dose]

/-- An optional part: its presence mark and its words, or zeros. -/
def optionalWords (count : Nat) (part : Option (List Word)) : List Word :=
  match part with
  | some ws => 1 :: ws
  | none => List.replicate (count + 1) 0

/-- The image part's words in a Find answer (R25). -/
def imageWords (m : Image) : List Word :=
  [word m.width, word m.height, word m.cells, word m.scale, word m.drawnWidth, word m.drawnHeight,
    word m.blocks.length, word (m.blocks.headD 0), word (m.blocks.getLastD 0)]

/-- The reserved location's words, preceded by its slot. -/
def reservedWords (v : Reserved) : List Word := word v.slot.val :: placeWords v.place

/-- The 63 words that follow the header of a Find answer (R25, R193). -/
def recordWords (r : Record) : List Word :=
  keyWords r.key ++ [word r.series.val, word (recordStateCode r.state)] ++
  [word r.source.entry.val, word r.source.generation.toNat, word r.source.tag.toNat,
    word r.source.submittedClass, word r.source.effectiveClass] ++
  optionalWords 9 (r.image.map imageWords) ++ optionalWords 8 (r.reserved.map reservedWords) ++
  optionalWords 8 (r.current.map locationWords) ++ [word r.superseded.length] ++
  (r.superseded.flatMap locationWords ++ List.replicate 24 0).take 24

/-- The three words of a cell in a Fiche Status answer (section 11.6, "Key and cell words"). -/
def cellWords (c : Cell) : List Word :=
  let k := c.key.getD ⟨0, 0, 0⟩
  [word (k.date * 65536 + k.account / 4294967296 * 256 + cellStateCode c.state * 16 + c.width * 4 +
      (if c.dose then 2 else 0) + (if c.key.isSome then 1 else 0)),
    word k.account, word k.item]

end Sys2Proof.Machine
end

