-- ==== Sys2Proof/Machine/PortCommands.lean ====
section
/-! DEFINITION. POWER_ON, GO and PORT_CLEAR, and the host requests on events, notices and statistics (spec/11). -/

namespace Sys2Proof.Machine

/-- What `exec` answers. -/
abbrev Result := Host.Outcome State Fault Refusal

/-! ### POWER_ON, GO, PORT_CLEAR -/

/-- A carrier appears (R105, R137): the link becomes ACTIVE with its context IDLE, and is sent HOLD(Q) at once while the
hold is ASSERTED. A link that is ACTIVE has its carrier already: nothing changes (log entry 8). -/
def State.carrierAppears (s : State) (l : Fin 8) : State :=
  if s.links[l].active then s
  else
    let t := s.modLink l fun k => { k with active := true, reception := none, outbox := [] }
    if s.holdAsserted then t.sendHold l else t

/-- POWER_ON (R183, R105): every block takes its power-on values, and a link whose carrier is present at the end of the
reset becomes ACTIVE. The model's own fields stay. -/
def execPowerOn (carriers : BitVec 8) (s : State) : Result :=
  .next (allLinks.foldl (fun t l => if carriers.getLsbD l.val then t.carrierAppears l else t)
    { State.reset with pending := s.pending, freeCount := s.freeCount })

/-- GO (R184 to R186): the buffer stands as the host wrote it. On a BUSY port the strobe is not taken and OVERRUN's
change bit is set; on an IDLE port the request starts, and a header that fails R186's tests is answered BAD_REQUEST. -/
def execGo (buffer : Vector Word 16) (s : State) : Result :=
  let t := s.modPort fun p => { p with requestBuffer := buffer }
  match s.port.execution with
  | some _ => .next (t.raise .overrun)
  | none =>
    if headerPasses buffer[0] then .next t.startRequest
    else .next (t.startRequest.finishRequest (badRequestByte buffer[0]) (refusal .badRequest))

/-- PORT_CLEAR (R187). -/
def execPortClear (s : State) : Result :=
  .next (s.modPort fun p =>
    { p with
      done := false
      doneEnable := false
      changes := 0
      enables := 0
      notices := []
      execution := p.execution.map fun e => { e with cleared := true } })

/-! ### Events (R189) -/

/-- Read Events (R189). -/
def readEventsOwner (s : State) : State × Response :=
  (s, okWith [(conditionBits s).setWidth 32, s.port.changes.setWidth 32,
    s.port.enables.setWidth 32 ||| (if s.port.doneEnable then 0x80000000#32 else 0)])

/-- READ_EVENTS (R189). -/
def execReadEvents (s : State) : Result := .next (s.request 0x0060 [] readEventsOwner)

/-- Set Event Enables (R189): bits 0 to 20 are the enables, bit 31 the DONE enable. -/
def setEventEnablesOwner (w : Word) (s : State) : State × Response :=
  if w.extractLsb' 21 10 ≠ 0 then (s, refusal .badArgument)
  else (s.modPort fun p => { p with enables := w.setWidth 21, doneEnable := w.msb }, okWith [])

/-- SET_EVENT_ENABLES (R189). -/
def execSetEventEnables (w : Word) (s : State) : Result := .next (s.request 0x0061 [w] (setEventEnablesOwner w))

/-- Acknowledge Events (R189): the change bits marked are cleared. -/
def acknowledgeEventsOwner (w : Word) (s : State) : State × Response :=
  if w.extractLsb' 21 11 ≠ 0 then (s, refusal .badArgument)
  else (s.modPort fun p => { p with changes := p.changes &&& ~~~(w.setWidth 21) }, okWith [])

/-- ACKNOWLEDGE_EVENTS (R189). -/
def execAcknowledgeEvents (w : Word) (s : State) : Result :=
  .next (s.request 0x0062 [w] (acknowledgeEventsOwner w))

/-! ### The notice queue (R191) -/

/-- The eleven words that follow the header of a Read Notice answer (R191, R193). -/
def noticeWords (n : Notice) : List Word :=
  ficheWords n.fiche ++ [word n.head.val, word n.sheet, flagWord n.redraw] ++ packPairs n.counts.toList

/-- Read Notice (R191): the oldest notice is removed; emptying the queue clears NOTICE's condition value, a transition. -/
def readNoticeOwner (s : State) : State × Response :=
  match s.port.notices with
  | [] => (s, refusal .noticeEmpty)
  | n :: rest =>
    let t := s.modPort fun p => { p with notices := rest }
    (if rest = [] then t.raise .notice else t, okWith (noticeWords n))

/-- READ_NOTICE (R191). -/
def execReadNotice (s : State) : Result := .next (s.request 0x0063 [] readNoticeOwner)

/-! ### Statistics (R192) -/

/-- Read Statistics (R192): kind 0 a link, kind 1 a head; the group's counters are read and cleared in one act. -/
def readStatisticsOwner (kind number : Word) (s : State) : State × Response :=
  if kind = 0 then
    match indexOf 8 number with
    | some l => (s.modLink l fun k => { k with counters := Vector.replicate 11 0 },
        okWith (s.links[l].counters.toList.map word))
    | none => (s, refusal .badArgument)
  else if kind = 1 then
    match indexOf 4 number with
    | some h => (s.modHead h fun k => { k with counters := Vector.replicate 7 0 },
        okWith (s.heads[h].counters.toList.map word))
    | none => (s, refusal .badArgument)
  else (s, refusal .badArgument)

/-- READ_STATISTICS (R192). -/
def execReadStatistics (kind number : Word) (s : State) : Result :=
  .next (s.request 0x0064 [kind, number] (readStatisticsOwner kind number))

end Sys2Proof.Machine
end

