-- ==== Sys2Proof/Machine/DirectoryRequests.lean ====
section
/-! DEFINITION. The host requests on records: Find, Find Next, Withdraw, Void, Rekey, Retire Fiche (spec/01, spec/05). -/

namespace Sys2Proof.Machine

/-! ### Find and Find Next (R25, R26) -/

/-- Find (R25). -/
def findOwner (k : Key) (s : State) : State × Response :=
  if !k.accountInRange then (s, refusal .badArgument)
  else
    match s.findRecord k with
    | none => (s, refusal .notFound)
    | some r => (s, okWith (recordWords r))

/-- FIND (R25). -/
def execFind (k1 k2 k3 : Word) (s : State) : Result :=
  .next (s.request 0x0010 [k1, k2, k3] (findOwner (keyOf k1 k2 k3)))

/-- Find Next (R26): an account number of 0 is taken. -/
def findNextOwner (k : Key) (s : State) : State × Response :=
  if Config.accountLimit < k.account then (s, refusal .badArgument)
  else
    match s.findNextRecord k with
    | none => (s, refusal .notFound)
    | some r => (s, okWith (recordWords r))

/-- FIND_NEXT (R26). -/
def execFindNext (k1 k2 k3 : Word) (s : State) : Result :=
  .next (s.request 0x0011 [k1, k2, k3] (findNextOwner (keyOf k1 k2 k3)))

/-! ### Withdraw (R86 to R90) -/

/-- The queue entry of a reserved location leaves its head's queue, and its cells return to EMPTY (R89, steps 1 and 2). -/
def State.freeReserved (s : State) (v : Reserved) : State :=
  (s.modHead v.place.head fun k => { k with queue := dropCellEntry k.queue v.slot v.place.cell }).modCells v.slot
    v.place.cell v.place.width (fun _ => ⟨.empty, none, 1, false⟩) (fun _ => ⟨.empty, none, 1, false⟩)

/-- A Withdraw of a record in RECEIVING (R87). -/
def State.withdrawReceiving (s : State) (r : Record) : State :=
  (((s.markWithdrawn r.key).release (blocksOf r.image)).removeRecord r.key).judgeCutOff r.series

/-- A Withdraw of a record in WAITING (R88). -/
def State.withdrawWaiting (s : State) (r : Record) : State :=
  (((s.leaveWaiting r.series r.key).release (blocksOf r.image)).removeRecord r.key).judgeCutOff r.series

/-- A Withdraw of a record in RESERVED (R89). -/
def State.withdrawReserved (s : State) (r : Record) : State :=
  match r.reserved with
  | some v => (((s.freeReserved v).release (blocksOf r.image)).removeRecord r.key).indexingTest v.slot
  | none => (s.release (blocksOf r.image)).removeRecord r.key

/-- The end of a cancelled retake's image part (R90). -/
def State.cancelRetake (s : State) (r : Record) : State :=
  (s.release (blocksOf r.image)).updateRecord r.key Record.retakeCancelled

/-- A Withdraw of a record in RETAKE-RESERVED (R90). -/
def State.withdrawRetakeReserved (s : State) (r : Record) : State :=
  match r.reserved with
  | some v => ((s.freeReserved v).cancelRetake r).indexingTest v.slot
  | none => s.cancelRetake r

/-- The answer to a Withdraw that is taken (R86): the state found, and 0 for a removal or 1 for a cancelled retake. -/
def withdrawAnswer (st : RecordState) : Response :=
  okWith [word (recordStateCode st), flagWord st.retake]

/-- Withdraw (R86). -/
def withdrawOwner (k : Key) (s : State) : State × Response :=
  if !k.accountInRange then (s, refusal .badArgument)
  else
    match s.findRecord k with
    | none => (s, refusal .notFound)
    | some r =>
      match r.state with
      | .exposing | .retakeExposing => (s, refusal .inExposure)
      | .exposed => (s, refusal .exposedRecord)
      | .receiving => (s.withdrawReceiving r, withdrawAnswer .receiving)
      | .waiting => (s.withdrawWaiting r, withdrawAnswer .waiting)
      | .reserved => (s.withdrawReserved r, withdrawAnswer .reserved)
      | .retakeReceiving => ((s.markWithdrawn r.key).cancelRetake r, withdrawAnswer .retakeReceiving)
      | .retakeWaiting => ((s.leaveWaiting r.series r.key).cancelRetake r, withdrawAnswer .retakeWaiting)
      | .retakeReserved => (s.withdrawRetakeReserved r, withdrawAnswer .retakeReserved)

/-- WITHDRAW (R86). -/
def execWithdraw (k1 k2 k3 : Word) (s : State) : Result :=
  .next (s.request 0x0012 [k1, k2, k3] (withdrawOwner (keyOf k1 k2 k3)))

/-! ### Void (R92, R93) -/

/-- The word of a grid reference in a response; the manual gives its three characters no place in the word (log entry 13). -/
def gridWord (g : GridRef) : Word := Config.gridReferenceWord (BitVec.ofNat 24 (numberOf g.text))

/-- Void (R92, R93). -/
def voidOwner (k : Key) (s : State) : State × Response :=
  if !k.accountInRange then (s, refusal .badArgument)
  else
    match s.findRecord k with
    | none => (s, refusal .notFound)
    | some r =>
      match r.state with
      | .receiving | .waiting | .reserved | .exposing => (s, refusal .notExposed)
      | .retakeReceiving | .retakeWaiting | .retakeReserved | .retakeExposing => (s, refusal .retakePending)
      | .exposed =>
        match r.current with
        | none => (s, refusal .ficheClosed)
        | some l =>
          match s.liveSlotOfPlace l.place with
          | none => (s, refusal .ficheClosed)
          | some i =>
            ((s.modCell i l.place.cell fun c => { c with state := .void }).removeRecord k,
              okWith (ficheWords l.place.fiche ++ [gridWord ((s.slotFormat i).gridRef l.place.cell)]))

/-- VOID (R92). -/
def execVoid (k1 k2 k3 : Word) (s : State) : Result :=
  .next (s.request 0x0013 [k1, k2, k3] (voidOwner (keyOf k1 k2 k3)))

/-! ### Rekey (R94, R95) -/

/-- Every location of a list names a fiche in a slot in OPEN or CLOSING (R94, test 6). -/
def State.allLive (s : State) (ps : List Place) : Bool := ps.all fun p => (s.liveSlotOfPlace p).isSome

/-- The places of a record's current and superseded locations. -/
def Record.filmPlaces (r : Record) : List Place := (r.current.toList ++ r.superseded).map Location.place

/-- The new key is written in a place's leading cell and its second half (R95). -/
def State.rekeyPlace (new : Key) (s : State) (p : Place) : State :=
  match s.liveSlotOfPlace p with
  | some i => s.modCells i p.cell p.width (fun c => { c with key := some new }) (fun c => { c with key := some new })
  | none => s

/-- The new key is written in a held cell and its second half (R95). -/
def State.rekeyReserved (s : State) (new : Key) (v : Reserved) : State :=
  s.modCells v.slot v.place.cell v.place.width (fun c => { c with key := some new })
    (fun c => { c with key := some new })

/-- The changes of a Rekey that passes its tests (R95): the record moves to the new key's place in key order, keeps its
place on its waiting list, and its cells take the new key. -/
def State.rekeyRecord (s : State) (r : Record) (new : Key) : State :=
  let t := ((s.removeRecord r.key).addRecord { r with key := new }).modWaiting r.series
    fun ks => ks.map fun x => if x = r.key then new else x
  match r.state with
  | .reserved =>
    match r.reserved with
    | some v => t.rekeyReserved new v
    | none => t
  | .exposed => r.filmPlaces.foldl (State.rekeyPlace new) t
  | _ => t

/-- Rekey (R94, R95). -/
def rekeyOwner (old new : Key) (s : State) : State × Response :=
  if !(old.accountInRange && new.accountInRange) then (s, refusal .badArgument)
  else
    match s.findRecord old with
    | none => (s, refusal .notFound)
    | some r =>
      match r.state with
      | .receiving => (s, refusal .receiving)
      | .exposing | .retakeExposing => (s, refusal .inExposure)
      | .retakeReceiving | .retakeWaiting | .retakeReserved => (s, refusal .retakePending)
      | .waiting | .reserved | .exposed =>
        if !s.allLive r.filmPlaces then (s, refusal .ficheClosed)
        else if (s.findRecord new).isSome then (s, refusal .duplicateKey)
        else (s.rekeyRecord r new, okWith [])

/-- REKEY (R94). -/
def execRekey (o1 o2 o3 n1 n2 n3 : Word) (s : State) : Result :=
  .next (s.request 0x0014 [o1, o2, o3, n1, n2, n3] (rekeyOwner (keyOf o1 o2 o3) (keyOf n1 n2 n3)))

/-! ### Retire Fiche (R97) -/

/-- Whether a record's current location names a fiche. -/
def Record.liesOn (r : Record) (f : FicheId) : Bool :=
  match r.current with
  | some l => decide (l.place.fiche = f)
  | none => false

/-- The record is removed by Retire Fiche (R97): EXPOSED, with its current location on the fiche. -/
def Record.retired (r : Record) (f : FicheId) : Bool := r.liesOn f && decide (r.state = .exposed)

/-- The record is kept and counted by Retire Fiche (R97): in a RETAKE state, with its current location on the fiche. -/
def Record.keptAtRetire (r : Record) (f : FicheId) : Bool := r.liesOn f && r.state.retake

/-- A slot that is not FREE holds a fiche of the identity (R97). -/
def State.ficheInSlot (s : State) (f : FicheId) : Bool :=
  allSlots.any fun i => decide (s.slots[i].state ≠ .free) && decide (s.slots[i].fiche = f)

/-- Retire Fiche (R97). -/
def retireOwner (series date sequence : Word) (s : State) : State × Response :=
  match indexOf 32 series with
  | none => (s, refusal .badArgument)
  | some c =>
    if 65535 < date.toNat ∨ sequence.toNat = 0 ∨ 9999 < sequence.toNat then (s, refusal .badArgument)
    else
      let f : FicheId := ⟨c, date.toNat, sequence.toNat⟩
      if s.ficheInSlot f then (s, refusal .ficheOpen)
      else
        ({ s with records := s.records.filter fun r => !r.retired f },
          okWith [word (s.records.countP fun r => r.retired f), word (s.records.countP fun r => r.keptAtRetire f)])

/-- RETIRE_FICHE (R97). -/
def execRetireFiche (series date sequence : Word) (s : State) : Result :=
  .next (s.request 0x0015 [series, date, sequence] (retireOwner series date sequence))

end Sys2Proof.Machine
end

