-- ==== Sys2Proof/Machine/ComposerRequests.lean ====
section
/-! DEFINITION. The host requests on formats, series and slots: Set Format to Fiche Status (spec/02, spec/03, spec/04). -/

namespace Sys2Proof.Machine

/-! ### The Format Table (R29, R30) and Try Fit (R55) -/

/-- The format of the eight words of a Set Format request. -/
def formatOf (rows cols px py ox oy band gutter : Word) : Format :=
  ⟨rows.toNat, cols.toNat, px.toNat, py.toNat, ox.toNat, oy.toNat, band.toNat, gutter.toNat⟩

/-- A series in ACTIVE or CUT-OFF names a format index (R29). -/
def State.formatInUse (s : State) (i : Fin 4) : Bool :=
  allSeries.any fun c => decide (s.series[c].state ≠ .undefined) && decide (s.series[c].format = i)

/-- Set Format (R29). -/
def setFormatOwner (index : Word) (f : Format) (s : State) : State × Response :=
  match indexOf 4 index with
  | none => (s, refusal .badArgument)
  | some i =>
    if !f.inRange then (s, refusal .badArgument)
    else if s.formatInUse i then (s, refusal .formatInUse)
    else if !f.valid then (s, refusal .badFormat)
    else (s.setFormatEntry i f, okWith [word f.indexCells, word f.documentCells])

/-- SET_FORMAT (R29). -/
def execSetFormat (index rows cols px py ox oy band gutter : Word) (s : State) : Result :=
  .next (s.request 0x0020 [index, rows, cols, px, py, ox, oy, band, gutter]
    (setFormatOwner index (formatOf rows cols px py ox oy band gutter)))

/-- The fields of a format and its derived quantities (R30). -/
def formatWords (f : Format) : List Word :=
  [1, word f.rows, word f.cols, word f.px, word f.py, word f.ox, word f.oy, word f.band, word f.gutter,
    word f.indexCells, word f.documentCells, flagWord f.doubleCapacity]

/-- Read Format (R30). -/
def readFormatOwner (index : Word) (s : State) : State × Response :=
  match indexOf 4 index with
  | none => (s, refusal .badArgument)
  | some i =>
    match s.formats[i] with
    | some f => (s, okWith (formatWords f))
    | none => (s, okWith (List.replicate 12 0))

/-- READ_FORMAT (R30). -/
def execReadFormat (index : Word) (s : State) : Result :=
  .next (s.request 0x0021 [index] (readFormatOwner index))

/-- The words of a fit (R55). -/
def fitWords (f : Fit) : List Word :=
  [word f.cells, word f.trial.aw, word f.trial.ah, word f.trial.sx, word f.trial.sy, word f.scale,
    word f.drawnWidth, word f.drawnHeight, word f.ox, word f.oy, flagWord f.clamped]

/-- Try Fit (R55). -/
def tryFitOwner (index width height : Word) (s : State) : State × Response :=
  match indexOf 4 index with
  | none => (s, refusal .badArgument)
  | some i =>
    if width.toNat < 64 ∨ 8192 < width.toNat ∨ height.toNat < 64 ∨ 8192 < height.toNat then
      (s, refusal .badArgument)
    else
      match s.formats[i] with
      | none => (s, refusal .badFormat)
      | some f =>
        match f.fit width.toNat height.toNat with
        | .fits fit => (s, okWith (fitWords fit))
        | .oversize sx sy => (s, ⟨.oversize, [word sx, word sy]⟩)

/-- TRY_FIT (R55). -/
def execTryFit (index width height : Word) (s : State) : Result :=
  .next (s.request 0x0022 [index, width, height] (tryFitOwner index width height))

/-! ### The Series Table (R33 to R39) -/

/-- Any slot that is not FREE holds a fiche of the series (R33, R35). -/
def State.seriesInSlot (s : State) (c : Fin 32) : Bool :=
  allSlots.any fun i => decide (s.slots[i].state ≠ .free) && decide (s.slots[i].fiche.series = c)

/-- The directory holds a record of the series in RETAKE-RECEIVING or RETAKE-WAITING (R33). -/
def State.retakeUnplaced (s : State) (c : Fin 32) : Bool :=
  s.records.any fun r =>
    decide (r.series = c) && (decide (r.state = .retakeReceiving) || decide (r.state = .retakeWaiting))

/-- SERIES_BUSY of Set Series (R33, test 4), for an ACTIVE series. -/
def State.seriesBusy (s : State) (c : Fin 32) : Bool :=
  s.seriesInSlot c || decide (0 < s.pendingCount c) || s.retakeUnplaced c

/-- The fields that a Set Series gives a series (R33). -/
structure SeriesFields where
  format : Fin 4
  headMask : BitVec 4
  template : Text
  date : Nat
  deriving DecidableEq, Repr

/-- The fields of a Set Series request when they pass test 1 of R33. -/
def seriesFields (format mask length : Word) (text : Vector Word 7) (date : Word) : Option SeriesFields :=
  match indexOf 4 format with
  | none => none
  | some f =>
    if mask = 0 ∨ 15 < mask.toNat ∨ 65535 < date.toNat ∨ 28 < length.toNat ∨
        (templateText length text).all templateChar = false then none
    else some ⟨f, mask.setWidth 4, templateText length text, date.toNat⟩

/-- The entry that a Set Series which passes gives (R33, R34): the sequence restarts on an UNDEFINED series and at a
change of date code. -/
def Series.rewritten (v : Series) (d : SeriesFields) : Series where
  state := .active
  format := d.format
  headMask := d.headMask
  template := d.template
  date := d.date
  next := if v.state = .active ∧ v.date = d.date then v.next else 1
  exhausted := if v.state = .active ∧ v.date = d.date then v.exhausted else false

/-- Set Series (R33, R34). R47 names "a series' date code changes" a retry event, and R34 says so of an ACTIVE series. Of a
Set Series that defines an UNDEFINED series with a date code other than the 0 it held R33 is silent: it is taken as no
retry event here (DESIGN CHOICE, unsafe; log entry 26). -/
def setSeriesOwner (series format mask length : Word) (text : Vector Word 7) (date : Word) (s : State) :
    State × Response :=
  match indexOf 32 series, seriesFields format mask length text date with
  | some c, some d =>
    if s.series[c].state = .cutOff then (s, refusal .seriesClosed)
    else if s.formats[d.format] = none then (s, refusal .badFormat)
    else if s.series[c].state = .active ∧ s.seriesBusy c then (s, refusal .seriesBusy)
    else
      let t := s.modSeries c (·.rewritten d)
      (if s.series[c].state = .active ∧ s.series[c].date ≠ d.date then t.retry (.dateCodeChanged c) else t,
        okWith [])
  | _, _ => (s, refusal .badArgument)

/-- SET_SERIES (R33). -/
def execSetSeries (series format mask length : Word) (text : Vector Word 7) (date : Word) (s : State) : Result :=
  .next (s.request 0x0023 ([series, format, mask, length] ++ text.toList ++ [date])
    (setSeriesOwner series format mask length text date))

/-- The characters of a template followed by free values up to 28: the manual states no value for the characters beyond
the template's length (log entry 12). -/
def paddedTemplate (t : Text) (freeCount : Nat) : Text :=
  t ++ (List.range (28 - t.length)).map fun i => (Config.freeWord (freeCount + i)).setWidth 8

/-- The nineteen words that follow the header of a Read Series answer (R39). -/
def seriesWords (s : State) (c : Fin 32) : List Word :=
  let v := s.series[c]
  [word (seriesStateCode v.state), word v.format.val, v.headMask.setWidth 32, word v.template.length] ++
  packText (paddedTemplate v.template s.freeCount) ++
  [word v.date, word v.next, flagWord v.exhausted] ++
  optionalWords 1 ((s.openSlot c).map fun i => [word i.val]) ++
  [word (s.recordCount c), word (s.pendingCount c), word s.waiting[c].length]

/-- Read Series (R39). The counter of free values moves past those it used. -/
def readSeriesOwner (series : Word) (s : State) : State × Response :=
  match indexOf 32 series with
  | none => (s, refusal .badArgument)
  | some c => ({ s with freeCount := s.freeCount + 28 }, okWith (seriesWords s c))

/-- READ_SERIES (R39). -/
def execReadSeries (series : Word) (s : State) : Result :=
  .next (s.request 0x0024 [series] (readSeriesOwner series))

/-- Clear Series (R35). -/
def clearSeriesOwner (series : Word) (s : State) : State × Response :=
  match indexOf 32 series with
  | none => (s, refusal .badArgument)
  | some c =>
    if s.series[c].state = .undefined then (s, okWith [])
    else if 0 < s.recordCount c ∨ s.seriesInSlot c then (s, refusal .seriesBusy)
    else (s.modSeries c fun _ => Series.reset, okWith [])

/-- CLEAR_SERIES (R35). -/
def execClearSeries (series : Word) (s : State) : Result :=
  .next (s.request 0x0025 [series] (clearSeriesOwner series))

/-- Cut Off Series (R36): the cut-off condition is judged at once after the change. -/
def cutOffOwner (series : Word) (s : State) : State × Response :=
  match indexOf 32 series with
  | none => (s, refusal .badArgument)
  | some c =>
    match s.series[c].state with
    | .undefined => (s, refusal .noSeries)
    | .cutOff => (s, okWith [])
    | .active => ((s.modSeries c fun v => { v with state := .cutOff }).judgeCutOff c, okWith [])

/-- CUT_OFF_SERIES (R36). -/
def execCutOffSeries (series : Word) (s : State) : Result :=
  .next (s.request 0x0026 [series] (cutOffOwner series))

/-- Reopen Series (R37): a retry event even when the date code is the same. -/
def reopenOwner (series date : Word) (s : State) : State × Response :=
  match indexOf 32 series with
  | none => (s, refusal .badArgument)
  | some c =>
    if 65535 < date.toNat then (s, refusal .badArgument)
    else
      match s.series[c].state with
      | .undefined => (s, refusal .noSeries)
      | .active => (s, refusal .seriesActive)
      | .cutOff =>
        if (s.openSlot c).isSome then (s, refusal .seriesBusy)
        else
          ((s.modSeries c fun v =>
            { v with state := .active, date := date.toNat, next := 1, exhausted := false }).retry (.dateCodeChanged c),
            okWith [])

/-- REOPEN_SERIES (R37). -/
def execReopenSeries (series date : Word) (s : State) : Result :=
  .next (s.request 0x0027 [series, date] (reopenOwner series date))

/-! ### The Fiche Table (R71, R85) -/

/-- Close Fiche (R71). -/
def closeFicheOwner (slot : Word) (s : State) : State × Response :=
  match indexOf 12 slot with
  | none => (s, refusal .badArgument)
  | some i =>
    match s.slots[i].state with
    | .free => (s, refusal .headState)
    | .opened | .closing | .indexing =>
      (s.closeFiche i, okWith [word (slotStateCode (s.closeFiche i).slots[i].state)])

/-- CLOSE_FICHE (R71). -/
def execCloseFiche (slot : Word) (s : State) : Result :=
  .next (s.request 0x0030 [slot] (closeFicheOwner slot))

/-- The number of index entries of a slot in INDEXING (R85). -/
def Slot.indexCount (t : Slot) : Option Nat :=
  match t.state with
  | .indexing => some (t.index.getD []).length
  | _ => none

/-- The words of a slot that is not FREE that precede its cells in a Fiche Status answer (R85, R193). -/
def slotWords (i : Fin 12) (t : Slot) : List Word :=
  [word (slotStateCode t.state)] ++ ficheWords t.fiche ++
  [word (headOf i).val, word t.sheet, word t.format.val,
    word ((if t.title then 1 else 0) + (if t.redraw then 2 else 0))] ++
  packPairs (stateCounts t.cells).toList ++ optionalWords 1 (t.indexCount.map fun e => [word e])

/-- The cells of a row from a first column to the smaller of that column plus 15 and C - 1 (R85). -/
def rowCells (f : Format) (cells : List Cell) (row column : Nat) : List Cell :=
  (cells.drop (row * f.cols + column)).take (min 16 (f.cols - column))

/-- Fiche Status (R85). -/
def ficheStatusOwner (slot row column : Word) (s : State) : State × Response :=
  match indexOf 12 slot with
  | none => (s, refusal .badArgument)
  | some i =>
    if s.slots[i].state = .free then (s, okWith (List.replicate 15 0))
    else if (s.slotFormat i).rows ≤ row.toNat ∨ (s.slotFormat i).cols ≤ column.toNat then
      (s, refusal .badArgument)
    else
      (s, okWith (slotWords i s.slots[i] ++
        (rowCells (s.slotFormat i) s.slots[i].cells row.toNat column.toNat).flatMap cellWords))

/-- FICHE_STATUS (R85). -/
def execFicheStatus (slot row column : Word) (s : State) : Result :=
  .next (s.request 0x0031 [slot, row, column] (ficheStatusOwner slot row column))

end Sys2Proof.Machine
end

