-- ==== Sys2Proof/Machine/IntakeRequests.lean ====
section
/-! DEFINITION. The host requests on the Admission Table, the links, the hold and the pool: Set Admission to Staging
Status (spec/06, spec/07). -/

namespace Sys2Proof.Machine

/-- Another enabled entry with the same link and operator code (R111). -/
def State.duplicateEntry (s : State) (i : Fin 16) (l : Fin 8) (operator : BitVec 8) : Bool :=
  allEntries.any fun j =>
    decide (j ≠ i) && s.admission[j].enabled && decide (s.admission[j].link = l) &&
      decide (s.admission[j].operator = operator)

/-- Set Admission (R111): the generation advances by one modulo 256 and is answered. -/
def setAdmissionOwner (index enabled link operator floor mask : Word) (s : State) : State × Response :=
  match indexOf 16 index, indexOf 8 link with
  | some i, some l =>
    if 1 < enabled.toNat ∨ 255 < operator.toNat ∨ 3 < floor.toNat then (s, refusal .badArgument)
    else if enabled = 1 ∧ s.duplicateEntry i l (operator.setWidth 8) then (s, refusal .duplicateEntry)
    else
      (s.modAdmission i fun e =>
        { enabled := decide (enabled = 1), link := l, operator := operator.setWidth 8, floor := floor.toNat,
          mask := mask, generation := e.generation + 1 },
        okWith [word (s.admission[i].generation + 1).toNat])
  | _, _ => (s, refusal .badArgument)

/-- SET_ADMISSION (R111). -/
def execSetAdmission (index enabled link operator floor mask : Word) (s : State) : Result :=
  .next (s.request 0x0040 [index, enabled, link, operator, floor, mask]
    (setAdmissionOwner index enabled link operator floor mask))

/-- The six fields of an admission entry (R112). -/
def admissionWords (e : AdmissionEntry) : List Word :=
  [flagWord e.enabled, word e.link.val, word e.operator.toNat, word e.floor, e.mask, word e.generation.toNat]

/-- Read Admission (R112). -/
def readAdmissionOwner (index : Word) (s : State) : State × Response :=
  match indexOf 16 index with
  | none => (s, refusal .badArgument)
  | some i => (s, okWith (admissionWords s.admission[i]))

/-- READ_ADMISSION (R112). -/
def execReadAdmission (index : Word) (s : State) : Result :=
  .next (s.request 0x0041 [index] (readAdmissionOwner index))

/-- The fields of a RECEIVING context that Link Status gives (R127). -/
def receptionWords (r : Reception) : List Word :=
  [word r.tag.toNat] ++ keyWords r.key ++
  [flagWord r.retake, word r.expected, word r.soFar, flagWord r.withdrawn]

/-- Link Status (R127); the fields of a RECEIVING context are an optional part (R193; log entry 14). -/
def linkStatusOwner (link : Word) (s : State) : State × Response :=
  match indexOf 8 link with
  | none => (s, refusal .badArgument)
  | some l =>
    (s, okWith ([flagWord s.links[l].active, flagWord s.links[l].reception.isSome] ++
      optionalWords 8 (s.links[l].reception.map receptionWords) ++ [flagWord s.links[l].holdTimer.isSome]))

/-- LINK_STATUS (R127). -/
def execLinkStatus (link : Word) (s : State) : Result :=
  .next (s.request 0x0042 [link] (linkStatusOwner link))

/-- Set Hold (R138). -/
def setHoldOwner (quantum : Word) (s : State) : State × Response :=
  if quantum.toNat < 10 ∨ 60000 < quantum.toNat then (s, refusal .badArgument)
  else ({ s with holdQuantum := quantum.toNat }, okWith [])

/-- SET_HOLD (R138). -/
def execSetHold (quantum : Word) (s : State) : Result :=
  .next (s.request 0x0043 [quantum] (setHoldOwner quantum))

/-- The 22 words that follow the header of a Staging Status answer (R139). -/
def stagingWords (s : State) : List Word :=
  [word s.used.length, word (Config.blockCount - s.used.length)] ++
  optionalWords 1 ((lowestFree s.used 1).head?.map fun b => [word b]) ++
  [flagWord s.holdAsserted, word s.holdQuantum] ++
  allLinks.flatMap fun l => [flagWord s.links[l].holdTimer.isSome, word s.links[l].quantum]

/-- Staging Status (R139). -/
def stagingStatusOwner (s : State) : State × Response := (s, okWith (stagingWords s))

/-- STAGING_STATUS (R139). -/
def execStagingStatus (s : State) : Result := .next (s.request 0x0044 [] stagingStatusOwner)

end Sys2Proof.Machine
end

