-- ==== Sys2Proof/Machine/HeadRequests.lean ====
section
/-! DEFINITION. The host requests on heads: Load Roll to Dose Status (spec/08, spec/09, spec/10). -/

namespace Sys2Proof.Machine

/-! ### Rolls (R142, R143) -/

/-- The roll context that a Load Roll gives a head in NO-ROLL (R142). -/
def Head.rollLoaded (k : Head) (sheets code : Nat) (coded : Bool) : Head :=
  { k with
    sheets := sheets
    firstCode := BitVec.ofNat 16 code
    coded := coded
    nextSheet := 0
    stageSheet := none
    state := .ready }

/-- Load Roll (R142): a retry event. -/
def loadRollOwner (head sheets code coded : Word) (s : State) : State × Response :=
  match indexOf 4 head with
  | none => (s, refusal .badArgument)
  | some h =>
    if sheets.toNat = 0 ∨ 250 < sheets.toNat ∨ 65535 < code.toNat ∨ 1 < coded.toNat then (s, refusal .badArgument)
    else if s.heads[h].state ≠ .noRoll then (s, refusal .headState)
    else
      (((s.modHead h fun k => k.rollLoaded sheets.toNat code.toNat (decide (coded = 1))).trackerAcquire h).retry
        (.rollLoaded h), okWith [])

/-- LOAD_ROLL (R142). -/
def execLoadRoll (head sheets code coded : Word) (s : State) : Result :=
  .next (s.request 0x0050 [head, sheets, code, coded] (loadRollOwner head sheets code coded))

/-- A head unloaded (R143): counters, tracker and dose monitor are kept. -/
def Head.rollUnloaded (k : Head) : Head :=
  { k with
    state := .noRoll
    faultKind := none
    sheets := 0
    firstCode := 0
    coded := false
    nextSheet := 0
    stageSheet := none }

/-- Any of the head's three slots is not FREE (R143). -/
def State.headInUse (s : State) (h : Fin 4) : Bool := (slotsOf h).any fun i => decide (s.slots[i].state ≠ .free)

/-- Unload Roll (R143): a departure from FAULT sets FAULT's change bit (R188). -/
def unloadRollOwner (head : Word) (s : State) : State × Response :=
  match indexOf 4 head with
  | none => (s, refusal .badArgument)
  | some h =>
    match s.heads[h].state with
    | .noRoll | .running | .stopping => (s, refusal .headState)
    | .ready =>
      if s.headInUse h then (s, refusal .ficheOpen) else (s.modHead h Head.rollUnloaded, okWith [])
    | .fault =>
      if s.headInUse h then (s, refusal .ficheOpen)
      else ((s.modHead h Head.rollUnloaded).raise (.fault h), okWith [])

/-- UNLOAD_ROLL (R143). -/
def execUnloadRoll (head : Word) (s : State) : Result :=
  .next (s.request 0x0051 [head] (unloadRollOwner head))

/-! ### Starting, stopping and resetting (R144 to R146) -/

/-- Head Start (R144). The take that follows is ENTRY_TAKE. -/
def headStartOwner (head : Word) (s : State) : State × Response :=
  match indexOf 4 head with
  | none => (s, refusal .badArgument)
  | some h =>
    match s.heads[h].state with
    | .ready | .stopping => (s.modHead h fun k => { k with state := .running }, okWith [])
    | .running => (s, okWith [])
    | .fault | .noRoll => (s, refusal .headState)

/-- HEAD_START (R144). -/
def execHeadStart (head : Word) (s : State) : Result :=
  .next (s.request 0x0052 [head] (headStartOwner head))

/-- Head Stop (R145). -/
def headStopOwner (head : Word) (s : State) : State × Response :=
  match indexOf 4 head with
  | none => (s, refusal .badArgument)
  | some h =>
    match s.heads[h].state with
    | .running =>
      (s.modHead h fun k => { k with state := if k.inFlight.isSome then .stopping else .ready }, okWith [])
    | .ready | .stopping => (s, okWith [])
    | .fault | .noRoll => (s, refusal .headState)

/-- HEAD_STOP (R145). -/
def execHeadStop (head : Word) (s : State) : Result :=
  .next (s.request 0x0053 [head] (headStopOwner head))

/-- The head's part of a Head Reset (R146). -/
def State.resetHead (s : State) (h : Fin 4) : State :=
  (s.modHead h fun k => { k with state := .ready, faultKind := none }).trackerAcquire h

/-- Head Reset (R146): leaving FAULT is a retry event and sets FAULT's change bit. -/
def headResetOwner (head : Word) (s : State) : State × Response :=
  match indexOf 4 head with
  | none => (s, refusal .badArgument)
  | some h =>
    match s.heads[h].state with
    | .fault => (((s.resetHead h).raise (.fault h)).retry (.faultLeft h), okWith [])
    | .ready => (s.resetHead h, okWith [])
    | .running | .stopping | .noRoll => (s, refusal .headState)

/-- HEAD_RESET (R146). -/
def execHeadReset (head : Word) (s : State) : Result :=
  .next (s.request 0x0054 [head] (headResetOwner head))

/-! ### Head Status (R158) -/

/-- The entry in flight's words (R158). -/
def inFlightWords (free : Word) (e : InFlight) : List Word :=
  [word (entryKindCode e.entry), word e.entry.slot.val, entryCell free e.entry, word e.entry.cls,
    word (phaseCode e.phase)]

/-- The tracker's state and held offset (R158, R168). -/
def trackerWords (t : Tracker) : List Word := [flagWord t.locked, signedWord t.dx, signedWord t.dy]

/-- The 24 words that follow the header of a Head Status answer (R158). -/
def headWords (free : Word) (k : Head) : List Word :=
  [word (headStateCode k.state), word (faultKindCode k.faultKind), word k.sheets, word k.firstCode.toNat,
    flagWord k.coded, word k.nextSheet] ++
  optionalWords 1 (k.stageSheet.map fun n => [word n]) ++
  [word k.queue.length] ++ (List.range 5).map (fun c => word (k.queue.countP fun e => decide (e.cls = c))) ++
  optionalWords 5 (k.inFlight.map (inFlightWords free)) ++ trackerWords k.tracker ++ [flagWord k.dose.degraded]

/-- Head Status (R158). The counter of free values moves past the one it used. -/
def headStatusOwner (head : Word) (s : State) : State × Response :=
  match indexOf 4 head with
  | none => (s, refusal .badArgument)
  | some h => ({ s with freeCount := s.freeCount + 1 }, okWith (headWords (Config.freeWord s.freeCount) s.heads[h]))

/-- HEAD_STATUS (R158). -/
def execHeadStatus (head : Word) (s : State) : Result :=
  .next (s.request 0x0055 [head] (headStatusOwner head))

/-! ### The tracker (R168) -/

/-- Set Tracker (R168). -/
def setTrackerOwner (head option : Word) (s : State) : State × Response :=
  match indexOf 4 head with
  | none => (s, refusal .badArgument)
  | some h =>
    if 1 < option.toNat then (s, refusal .badArgument)
    else (s.modHead h fun k => { k with tracker := { k.tracker with holdLock := decide (option = 1) } }, okWith [])

/-- SET_TRACKER (R168). -/
def execSetTracker (head option : Word) (s : State) : Result :=
  .next (s.request 0x0056 [head, option] (setTrackerOwner head option))

/-- The readings taken in the present run, while the head is in ACQUIRING (R168). -/
def Head.runTaken (k : Head) : Option Nat :=
  match k.inFlight with
  | some e => if e.phase = .acquiring then k.tracker.run.map Run.taken else none
  | none => none

/-- Tracker Status (R168); the readings of the present run are an optional part (R193; log entry 14). -/
def trackerStatusOwner (head : Word) (s : State) : State × Response :=
  match indexOf 4 head with
  | none => (s, refusal .badArgument)
  | some h =>
    (s, okWith (trackerWords s.heads[h].tracker ++
      [word s.heads[h].tracker.errors, flagWord s.heads[h].tracker.holdLock] ++
      optionalWords 1 (s.heads[h].runTaken.map fun n => [word n])))

/-- TRACKER_STATUS (R168). -/
def execTrackerStatus (head : Word) (s : State) : Result :=
  .next (s.request 0x0057 [head] (trackerStatusOwner head))

/-! ### The dose monitor (R179, R182) -/

/-- Set Dose (R179). -/
def setDoseOwner (head target threshold : Word) (s : State) : State × Response :=
  match indexOf 4 head with
  | none => (s, refusal .badArgument)
  | some h =>
    if target.toNat = 0 ∨ 65535 < target.toNat ∨ threshold.toNat = 0 ∨ 255 < threshold.toNat then
      (s, refusal .badArgument)
    else
      (s.modHead h fun k => { k with dose := { k.dose with target := target.toNat, threshold := threshold.toNat } },
        okWith [])

/-- SET_DOSE (R179). -/
def execSetDose (head target threshold : Word) (s : State) : Result :=
  .next (s.request 0x0058 [head, target, threshold] (setDoseOwner head target threshold))

/-- The dose monitor's words (R182). -/
def doseWords (d : Dose) : List Word :=
  [word d.target, word d.threshold, word d.position, word d.deviations, flagWord d.degraded, word d.last]

/-- Dose Status (R182). -/
def doseStatusOwner (head : Word) (s : State) : State × Response :=
  match indexOf 4 head with
  | none => (s, refusal .badArgument)
  | some h => (s, okWith (doseWords s.heads[h].dose))

/-- DOSE_STATUS (R182). -/
def execDoseStatus (head : Word) (s : State) : Result :=
  .next (s.request 0x0059 [head] (doseStatusOwner head))

end Sys2Proof.Machine
end

