-- ==== Sys2Proof/Machine/LinkEvents.lean ====
section
/-! DEFINITION. The events of the station links: carriers, frames and the links' timers (spec/06, spec/07). -/

namespace Sys2Proof.Machine

/-- LINK_ACTIVE (R105, R137). -/
def execLinkActive (l : Fin 8) (s : State) : Result := .next (s.carrierAppears l)

/-- A link becomes DOWN: its hold timer is stopped, and what it had still to send is dropped (R105, R108, R137). -/
def State.carrierLost (s : State) (l : Fin 8) : State :=
  s.modLink l fun k => { k with active := false, holdTimer := none, quantum := 0, outbox := [] }

/-- The reception of a link that has gone DOWN ends without a frame (R124); with the withdrawn flag set, nothing is
reported. -/
def State.endWithCarrier (s : State) (l : Fin 8) (r : Reception) : State :=
  let t := s.countLink l .carrierLostReceptions
  if r.withdrawn then t.idleContext l else (t.endReception r.key).idleContext l

/-- LINK_DOWN (R124, R105, R137). A link that is DOWN has no carrier to lose (log entry 8). -/
def execLinkDown (l : Fin 8) (s : State) : Result :=
  if s.links[l].active then
    match s.links[l].reception with
    | none => .next (s.carrierLost l)
    | some r => .next ((s.carrierLost l).endWithCarrier l r)
  else .next s

/-- SUBMIT_HEAD (R106, R107, R115 to R118): a frame of kind 01H, of length 19. -/
def execSubmitHead (l : Fin 8) (f : Frame) (s : State) : Result :=
  .next (s.takeFixed l 0x01#8 19 f fun t => t.takeHead l (headFields f.payload))

/-- BODY (R106, R107, R119, R122, R123): a frame of kind 02H, of any length; a kind that no station sends is stray. -/
def execBody (l : Fin 8) (kind : Byte) (f : Frame) (s : State) : Result :=
  if s.links[l].active then
    if frameGood kind f then
      if kind = 0x02#8 then .next (s.takeBody l f.payload) else .next (s.countLink l .strayFrames)
    else .next (s.countLink l .checkErrors)
  else .next s

/-- SUBMIT_END (R106, R107, R120, R122, R123): a frame of kind 03H, of length 4. -/
def execSubmitEnd (l : Fin 8) (f : Frame) (s : State) : Result :=
  .next (s.takeFixed l 0x03#8 4 f fun t => t.takeEnd l (BitVec.ofNat 32 (numberOf f.payload)))

/-- PROBE (R106, R107, R109): a frame of kind 04H, of length 0. -/
def execProbe (l : Fin 8) (f : Frame) (s : State) : Result :=
  .next (s.takeFixed l 0x04#8 0 f fun t => t.takeProbe l)

/-- RECEPTION_TIMER_EXPIRY (R121, R122). The timer of an IDLE context is stopped and does not expire (log entry 8). -/
def execReceptionTimerExpiry (l : Fin 8) (s : State) : Result :=
  if s.links[l].active then .next (s.endRunning l .timeout) else .next s

/-- HOLD_TIMER_EXPIRY (R135). A stopped timer does not expire (log entry 8). The manual stops every hold timer when the
hold clears (R136); an expiry under a CLEAR hold, which no run reaches, leaves the timer stopped (log entry 23). -/
def execHoldTimerExpiry (l : Fin 8) (s : State) : Result :=
  if s.links[l].holdTimer.isSome then
    if s.holdAsserted then .next (s.sendHold l) else .next (s.stopHoldTimer l)
  else .next s

end Sys2Proof.Machine
end

