-- ==== Sys2Proof/Machine/HeadEvents.lean ====
section
/-! DEFINITION. The composer's serving pass and the events of the heads: takes, reports, time limits, jams (spec/02,
spec/08, spec/09, spec/10). -/

namespace Sys2Proof.Machine

/-- SERVE_WAITING_LISTS (R47): the pass of the oldest retry event taken; with none, there is no pass to make. -/
def execServeWaitingLists (s : State) : Result :=
  match s.retryEvents with
  | [] => .next s
  | _ :: rest => .next ({ s with retryEvents := rest } : State).servePass

/-- ENTRY_TAKE (R148): a RUNNING head with no entry in flight takes the front entry of its queue. It waits while a pass
is owed for a slot that its last completion freed (R153; log entry 7). -/
def execEntryTake (h : Fin 4) (s : State) : Result :=
  if s.heads[h].state = .running ∧ s.heads[h].inFlight = none ∧ s.passOwed h = false then
    match s.heads[h].queue with
    | [] => .next s
    | e :: rest => .next (s.takeEntry h e rest)
  else .next s

/-- TRANSPORT_ARRIVAL (R149, R169, R171): of the motion the head awaits in ADVANCING; any other is disregarded (R154).
The tracker goes to ACQUIRE; on a coded roll the sheet-code read begins. -/
def execTransportArrival (h : Fin 4) (motion : Nat) (s : State) : Result :=
  match s.heads[h].inFlight with
  | none => .next s
  | some e =>
    if e.phase = .advancing ∧ s.heads[h].transportLimit.isSome ∧ s.heads[h].awaited = some motion then
      let t := (s.modHead h fun k => { k with transportLimit := none, awaited := none }).trackerAcquire h
      if s.heads[h].coded then .next (t.modHead h fun k => { k with codeReads := some [] })
      else .next (t.sheetReached h s.slots[e.entry.slot].sheet)
    else .next s

/-- SHEET_CODE_READ (R171, R172). An answer when no read is awaited is disregarded (log entry 10). -/
def execSheetCodeRead (h : Fin 4) (value : Option (BitVec 16)) (s : State) : Result :=
  match s.heads[h].inFlight, s.heads[h].codeReads with
  | some e, some reads =>
    if e.phase = .advancing then
      match codeOutcome (reads ++ [value]) with
      | none => .next (s.modHead h fun k => { k with codeReads := some (reads ++ [value]) })
      | some none => .next (s.enterFault h .sheetUnreadable)
      | some (some code) =>
        if code = s.heads[h].sheetCode s.slots[e.entry.slot].sheet then
          .next (s.sheetReached h s.slots[e.entry.slot].sheet)
        else .next (s.enterFault h .sheetMismatch)
    else .next s
  | _, _ => .next s

/-- TRANSPORT_TIMEOUT (R149): the transport time limit expires in ADVANCING. A stopped limit does not expire. -/
def execTransportTimeout (h : Fin 4) (s : State) : Result :=
  if s.heads[h].transportLimit.isSome then .next (s.enterFault h .transportTimeout) else .next s

/-- STAGE_TIMEOUT (R150, R151): a stage time limit expires. A stopped limit does not expire. -/
def execStageTimeout (h : Fin 4) (s : State) : Result :=
  if s.heads[h].stageLimit.isSome then .next (s.enterFault h .stageTimeout) else .next s

/-- STAGE_COMPLETION (R151, R160 to R167): of the motion the head awaits; any other is disregarded (R154). -/
def execStageCompletion (h : Fin 4) (motion : Nat) (reading : Reading) (s : State) : Result :=
  match s.heads[h].inFlight with
  | none => .next s
  | some e =>
    if s.heads[h].stageLimit.isSome ∧ s.heads[h].awaited = some motion then
      let t := s.modHead h fun k => { k with stageLimit := none, awaited := none }
      match e.phase with
      | .acquiring => .next (t.acquisitionReading h e.entry (s.heads[h].tracker.run.getD ⟨0, none⟩) reading)
      | .positioning => .next (t.positioningReading h e.entry reading)
      | .advancing | .drawing => .next s
    else .next s

/-- A draw with M above 0 (R174): judged and stepped, then the completion, the end of the entry (R153), and, when the
step cleared DEGRADED, the retry event behind the completion (R178). -/
def State.drawEnds (s : State) (h : Fin 4) (e : Entry) (m : Nat) : State :=
  let t := (((s.judgeDose h m).complete h e (s.heads[h].dose.deviates m)).endEntry h)
  if s.heads[h].dose.degraded && !(s.judgeDose h m).heads[h].dose.degraded then t.retry (.degradedCleared h) else t

/-- PHOTOCELL_REPORT (R174, R180): with no entry in DRAWING it is disregarded. A report carries no number that tells whose
draw it is of, so with an entry in DRAWING every report is taken as that draw's, a late one of a draw that a jam
interrupted (R152) among them (DESIGN CHOICE; log entry 27). -/
def execPhotocellReport (h : Fin 4) (m : BitVec 16) (s : State) : Result :=
  match s.heads[h].inFlight with
  | none => .next s
  | some e =>
    if e.phase = .drawing then
      let t := s.modHead h fun k => { k with dose := { k.dose with last := m.toNat } }
      if m = 0 then .next (t.enterFault h .lampFailure) else .next (t.drawEnds h e.entry m.toNat)
    else .next s

/-- JAM (R154): in FAULT and in NO-ROLL it changes nothing. -/
def execJam (h : Fin 4) (s : State) : Result :=
  match s.heads[h].state with
  | .ready | .running | .stopping => .next (s.enterFault h .transportJam)
  | .fault | .noRoll => .next s

end Sys2Proof.Machine
end

