-- ==== Sys2Proof/Machine/Dispatch.lean ====
section
/-! DEFINITION. One arm for each command of the table, each a direct call of its meaning. -/

namespace Sys2Proof.Machine

-- The effect of a command on everything but the queue of waiting commands.
def exec (i : Instr) (s : State) : Host.Outcome State Fault Refusal :=
  match i with
  | .powerOn a => Sys2Proof.Machine.execPowerOn a s
  | .go a => Sys2Proof.Machine.execGo a s
  | .portClear => Sys2Proof.Machine.execPortClear s
  | .find a b c => Sys2Proof.Machine.execFind a b c s
  | .findNext a b c => Sys2Proof.Machine.execFindNext a b c s
  | .withdraw a b c => Sys2Proof.Machine.execWithdraw a b c s
  | .void a b c => Sys2Proof.Machine.execVoid a b c s
  | .rekey a b c d e f => Sys2Proof.Machine.execRekey a b c d e f s
  | .retireFiche a b c => Sys2Proof.Machine.execRetireFiche a b c s
  | .setFormat a b c d e f g k m => Sys2Proof.Machine.execSetFormat a b c d e f g k m s
  | .readFormat a => Sys2Proof.Machine.execReadFormat a s
  | .tryFit a b c => Sys2Proof.Machine.execTryFit a b c s
  | .setSeries a b c d e f => Sys2Proof.Machine.execSetSeries a b c d e f s
  | .readSeries a => Sys2Proof.Machine.execReadSeries a s
  | .clearSeries a => Sys2Proof.Machine.execClearSeries a s
  | .cutOffSeries a => Sys2Proof.Machine.execCutOffSeries a s
  | .reopenSeries a b => Sys2Proof.Machine.execReopenSeries a b s
  | .closeFiche a => Sys2Proof.Machine.execCloseFiche a s
  | .ficheStatus a b c => Sys2Proof.Machine.execFicheStatus a b c s
  | .setAdmission a b c d e f => Sys2Proof.Machine.execSetAdmission a b c d e f s
  | .readAdmission a => Sys2Proof.Machine.execReadAdmission a s
  | .linkStatus a => Sys2Proof.Machine.execLinkStatus a s
  | .setHold a => Sys2Proof.Machine.execSetHold a s
  | .stagingStatus => Sys2Proof.Machine.execStagingStatus s
  | .loadRoll a b c d => Sys2Proof.Machine.execLoadRoll a b c d s
  | .unloadRoll a => Sys2Proof.Machine.execUnloadRoll a s
  | .headStart a => Sys2Proof.Machine.execHeadStart a s
  | .headStop a => Sys2Proof.Machine.execHeadStop a s
  | .headReset a => Sys2Proof.Machine.execHeadReset a s
  | .headStatus a => Sys2Proof.Machine.execHeadStatus a s
  | .setTracker a b => Sys2Proof.Machine.execSetTracker a b s
  | .trackerStatus a => Sys2Proof.Machine.execTrackerStatus a s
  | .setDose a b c => Sys2Proof.Machine.execSetDose a b c s
  | .doseStatus a => Sys2Proof.Machine.execDoseStatus a s
  | .readEvents => Sys2Proof.Machine.execReadEvents s
  | .setEventEnables a => Sys2Proof.Machine.execSetEventEnables a s
  | .acknowledgeEvents a => Sys2Proof.Machine.execAcknowledgeEvents a s
  | .readNotice => Sys2Proof.Machine.execReadNotice s
  | .readStatistics a b => Sys2Proof.Machine.execReadStatistics a b s
  | .linkActive a => Sys2Proof.Machine.execLinkActive a s
  | .linkDown a => Sys2Proof.Machine.execLinkDown a s
  | .submitHead a b => Sys2Proof.Machine.execSubmitHead a b s
  | .body a b c => Sys2Proof.Machine.execBody a b c s
  | .submitEnd a b => Sys2Proof.Machine.execSubmitEnd a b s
  | .probe a b => Sys2Proof.Machine.execProbe a b s
  | .receptionTimerExpiry a => Sys2Proof.Machine.execReceptionTimerExpiry a s
  | .holdTimerExpiry a => Sys2Proof.Machine.execHoldTimerExpiry a s
  | .serveWaitingLists => Sys2Proof.Machine.execServeWaitingLists s
  | .entryTake a => Sys2Proof.Machine.execEntryTake a s
  | .transportArrival a b => Sys2Proof.Machine.execTransportArrival a b s
  | .sheetCodeRead a b => Sys2Proof.Machine.execSheetCodeRead a b s
  | .transportTimeout a => Sys2Proof.Machine.execTransportTimeout a s
  | .stageTimeout a => Sys2Proof.Machine.execStageTimeout a s
  | .stageCompletion a b c => Sys2Proof.Machine.execStageCompletion a b c s
  | .photocellReport a b => Sys2Proof.Machine.execPhotocellReport a b s
  | .jam a => Sys2Proof.Machine.execJam a s

end Sys2Proof.Machine
end

