-- ==== Sys2Proof/Safety.lean ====
section
/-! DEFINITION. The terms in which statements about the block are made: the host requests as one table, the state after
an answered request, and the invariants that every step keeps. -/

namespace Sys2Proof.Machine

/-! ### Host requests -/

/-- A host request: its code and body words (section 11.6, R193), and what its owner does with it. -/
structure HostRequest where
  code : Nat
  body : List Word
  owner : State → State × Response

/-- The host request that a command is; the port strobes and the events of the other lines are none. -/
def requestOf : Instr → Option HostRequest
  | .find a b c => some ⟨0x0010, [a, b, c], findOwner (keyOf a b c)⟩
  | .findNext a b c => some ⟨0x0011, [a, b, c], findNextOwner (keyOf a b c)⟩
  | .withdraw a b c => some ⟨0x0012, [a, b, c], withdrawOwner (keyOf a b c)⟩
  | .void a b c => some ⟨0x0013, [a, b, c], voidOwner (keyOf a b c)⟩
  | .rekey a b c d e f => some ⟨0x0014, [a, b, c, d, e, f], rekeyOwner (keyOf a b c) (keyOf d e f)⟩
  | .retireFiche a b c => some ⟨0x0015, [a, b, c], retireOwner a b c⟩
  | .setFormat i r c px py ox oy h g =>
    some ⟨0x0020, [i, r, c, px, py, ox, oy, h, g], setFormatOwner i (formatOf r c px py ox oy h g)⟩
  | .readFormat a => some ⟨0x0021, [a], readFormatOwner a⟩
  | .tryFit a b c => some ⟨0x0022, [a, b, c], tryFitOwner a b c⟩
  | .setSeries a b c d e f => some ⟨0x0023, [a, b, c, d] ++ e.toList ++ [f], setSeriesOwner a b c d e f⟩
  | .readSeries a => some ⟨0x0024, [a], readSeriesOwner a⟩
  | .clearSeries a => some ⟨0x0025, [a], clearSeriesOwner a⟩
  | .cutOffSeries a => some ⟨0x0026, [a], cutOffOwner a⟩
  | .reopenSeries a b => some ⟨0x0027, [a, b], reopenOwner a b⟩
  | .closeFiche a => some ⟨0x0030, [a], closeFicheOwner a⟩
  | .ficheStatus a b c => some ⟨0x0031, [a, b, c], ficheStatusOwner a b c⟩
  | .setAdmission a b c d e f => some ⟨0x0040, [a, b, c, d, e, f], setAdmissionOwner a b c d e f⟩
  | .readAdmission a => some ⟨0x0041, [a], readAdmissionOwner a⟩
  | .linkStatus a => some ⟨0x0042, [a], linkStatusOwner a⟩
  | .setHold a => some ⟨0x0043, [a], setHoldOwner a⟩
  | .stagingStatus => some ⟨0x0044, [], stagingStatusOwner⟩
  | .loadRoll a b c d => some ⟨0x0050, [a, b, c, d], loadRollOwner a b c d⟩
  | .unloadRoll a => some ⟨0x0051, [a], unloadRollOwner a⟩
  | .headStart a => some ⟨0x0052, [a], headStartOwner a⟩
  | .headStop a => some ⟨0x0053, [a], headStopOwner a⟩
  | .headReset a => some ⟨0x0054, [a], headResetOwner a⟩
  | .headStatus a => some ⟨0x0055, [a], headStatusOwner a⟩
  | .setTracker a b => some ⟨0x0056, [a, b], setTrackerOwner a b⟩
  | .trackerStatus a => some ⟨0x0057, [a], trackerStatusOwner a⟩
  | .setDose a b c => some ⟨0x0058, [a, b, c], setDoseOwner a b c⟩
  | .doseStatus a => some ⟨0x0059, [a], doseStatusOwner a⟩
  | .readEvents => some ⟨0x0060, [], readEventsOwner⟩
  | .setEventEnables a => some ⟨0x0061, [a], setEventEnablesOwner a⟩
  | .acknowledgeEvents a => some ⟨0x0062, [a], acknowledgeEventsOwner a⟩
  | .readNotice => some ⟨0x0063, [], readNoticeOwner⟩
  | .readStatistics a b => some ⟨0x0064, [a, b], readStatisticsOwner a b⟩
  | .powerOn _ | .go _ | .portClear | .linkActive _ | .linkDown _ | .submitHead _ _ | .body _ _ _ | .submitEnd _ _
  | .probe _ _ | .receptionTimerExpiry _ | .holdTimerExpiry _ | .serveWaitingLists | .entryTake _
  | .transportArrival _ _ | .sheetCodeRead _ _ | .transportTimeout _ | .stageTimeout _ | .stageCompletion _ _ _
  | .photocellReport _ _ | .jam _ => none

/-- The state after an IDLE port has carried a whole request (R184): the message stands in the request buffer, the
answer in the response buffer, the port is IDLE and DONE is set; every other part is as in `s`. -/
def State.answered (s : State) (code : Nat) (body : List Word) (r : Response) : State :=
  { s with
    port := { s.port with
      done := true
      execution := none
      requestBuffer := overwrite s.port.requestBuffer (requestMessage code body)
      responseBuffer := overwrite s.port.responseBuffer (responseWords (code % 256) r) } }

/-- A link with one event counted (R126). -/
def Link.counted (k : Link) (c : LinkCounter) : Link :=
  { k with counters := k.counters.set (linkCounterIndex c) (countUp k.counters[linkCounterIndex c]) }

/-- A head with one event counted (R157). -/
def Head.counted (k : Head) (c : HeadCounter) : Head :=
  { k with counters := k.counters.set (headCounterIndex c) (countUp k.counters[headCounterIndex c]) }

/-- A slot that is not FREE lies where a location lies: its head, its sheet and its fiche (R92). -/
abbrev State.slotMatches (s : State) (i : Fin 12) (p : Place) : Prop :=
  s.slots[i].state ≠ .free ∧ headOf i = p.head ∧ s.slots[i].sheet = p.sheet ∧ s.slots[i].fiche = p.fiche

/-- A slot is the only one that matches a location, and it is OPEN or CLOSING. -/
abbrev State.liveOnly (s : State) (i : Fin 12) (p : Place) : Prop :=
  (s.slots[i].state = .opened ∨ s.slots[i].state = .closing) ∧ s.slotMatches i p ∧ ∀ j, s.slotMatches j p → j = i

/-- A cell number is a place's leading cell or its second half (spec/00_scope.md, "Single and double cells"). -/
abbrev Place.covers (p : Place) (n : Nat) : Prop := n = p.cell ∨ (p.width = 2 ∧ n = p.cell + 1)

/-! ### Invariants -/

/-- The staging bytes are in their canonical form. -/
abbrev State.memoryCanonical (s : State) : Prop := Memory.wf s.mem

/-- The directory is in strictly ascending key order and holds at most 16,384 records (R1). -/
abbrev State.directoryOrdered (s : State) : Prop :=
  s.records.Pairwise (fun a b => a.key.before b.key = true) ∧ s.records.length ≤ Config.directoryCapacity

/-- The used blocks are blocks 0 to 4095, each listed once, in ascending order (R128). -/
abbrev State.poolOrdered (s : State) : Prop :=
  s.used.Pairwise (· < ·) ∧ ∀ b ∈ s.used, b < Config.blockCount

/-- The entry in flight agrees with the head state (R141) and with the tracker: an entry that is positioned or drawn finds
it LOCKED, one in ACQUIRING in ACQUIRE (R151, R160); a LOCKED tracker has no acquisition run (R161, R162); and a sheet
code is read in ADVANCING alone, with the tracker in ACQUIRE (R171). -/
abbrev Head.flightAgrees (k : Head) : Prop :=
  (k.inFlight.isSome = true → k.state = .running ∨ k.state = .stopping) ∧
  (k.state = .stopping → k.inFlight.isSome = true) ∧
  (∀ e ∈ k.inFlight, e.phase = .positioning ∨ e.phase = .drawing → k.tracker.locked = true) ∧
  (∀ e ∈ k.inFlight, e.phase = .acquiring → k.tracker.locked = false) ∧
  (k.tracker.locked = true → k.tracker.run = none) ∧
  (k.codeReads.isSome = true → k.tracker.locked = false ∧ ∃ e ∈ k.inFlight, e.phase = .advancing)

/-- Every head's entry in flight agrees with its state and tracker. -/
abbrev State.flightsAgree (s : State) : Prop := ∀ h : Fin 4, s.heads[h].flightAgrees

/-- A DOWN link carries no reception, has its hold timer stopped and nothing still to send (R105, R108, R124, R137); a
stopped hold timer has a quantum in force of 0 (R134). -/
abbrev Link.restsDown (k : Link) : Prop :=
  (k.active = false → k.reception = none ∧ k.holdTimer = none ∧ k.outbox = []) ∧ (k.holdTimer = none → k.quantum = 0)

/-- Every link rests while it is DOWN. -/
abbrev State.linksRest (s : State) : Prop := ∀ l : Fin 8, s.links[l].restsDown

/-- Every exposure queue is in descending class (R147). -/
abbrev State.queuesDescend (s : State) : Prop :=
  ∀ h : Fin 4, s.heads[h].queue.Pairwise fun a b => b.cls ≤ a.cls

/-- Every defined format is valid (R29); a series that is not UNDEFINED names a defined one (R33); a slot that is not FREE
holds a fiche of such a series, with that series' format and a cell map of R × C cells (R43, R46). -/
abbrev State.slotsFit (s : State) : Prop :=
  (∀ i : Fin 4, ∀ f ∈ s.formats[i], f.inRange = true ∧ f.valid = true) ∧
  (∀ c : Fin 32, s.series[c].state ≠ .undefined → s.formats[s.series[c].format] ≠ none) ∧
  ∀ i : Fin 12, s.slots[i].state ≠ .free →
    s.series[s.slots[i].fiche.series].state ≠ .undefined ∧
    s.slots[i].format = s.series[s.slots[i].fiche.series].format ∧
    s.slots[i].cells.length = (s.slotFormat i).cellCount

/-- The limits on the slots (R41, R143): a series has at most one OPEN fiche; the fiche of one head lie on distinct sheets,
each below that head's next sheet index, which is at most its sheet count; and a head without a roll carries none. -/
abbrev State.slotsLimited (s : State) : Prop :=
  (∀ i j : Fin 12, s.slots[i].state = .opened → s.slots[j].state = .opened →
    s.slots[i].fiche.series = s.slots[j].fiche.series → i = j) ∧
  (∀ i j : Fin 12, s.slots[i].state ≠ .free → s.slots[j].state ≠ .free → headOf i = headOf j →
    s.slots[i].sheet = s.slots[j].sheet → i = j) ∧
  (∀ i : Fin 12, s.slots[i].state ≠ .free →
    s.slots[i].sheet < s.heads[headOf i].nextSheet ∧ s.heads[headOf i].state ≠ .noRoll) ∧
  ∀ h : Fin 4, s.heads[h].nextSheet ≤ s.heads[h].sheets

/-- A record has an image part in every state but EXPOSED, and the part's blocks are as many as the image needs, in
ascending order (R5, R129, R130). -/
abbrev Record.imageFits (r : Record) : Prop :=
  (r.image ≠ none ↔ r.state ≠ .exposed) ∧
  ∀ m ∈ r.image, m.blocks.Pairwise (· < ·) ∧ m.blocks.length = blockNeed m.width m.height

/-- The used blocks are those on the records' block lists, and no block stands on two lists (R128, R131). -/
abbrev State.blocksOwned (s : State) : Prop :=
  (∀ r ∈ s.records, r.imageFits) ∧
  (∀ b, b ∈ s.used ↔ ∃ r ∈ s.records, b ∈ blocksOf r.image) ∧
  s.records.Pairwise fun x y => ∀ b ∈ blocksOf x.image, b ∉ blocksOf y.image

/-- A record has the locations that its state gives it (R6 to R9): a reserved one in the RESERVED and EXPOSING states, a
current one in EXPOSED and in the RETAKE states, and at most three superseded ones, two while a retake is pending. -/
abbrev Record.partsFit (r : Record) : Prop :=
  (r.reserved ≠ none ↔ r.state ∈ [RecordState.reserved, .exposing, .retakeReserved, .retakeExposing]) ∧
  (r.current ≠ none ↔ r.state = .exposed ∨ r.state.retake = true) ∧
  (r.current = none → r.superseded = []) ∧ r.superseded.length ≤ 3 ∧
  (r.state.retake = true → r.superseded.length ≤ 2) ∧
  ∀ m ∈ r.image, m.cells = 1 ∨ m.cells = 2

/-- A series' waiting list names its WAITING and RETAKE-WAITING records, each once (R17). -/
abbrev State.waitingAgrees (s : State) : Prop :=
  ∀ c : Fin 32, s.waiting[c].Nodup ∧
    (∀ k ∈ s.waiting[c], ∃ r ∈ s.records, r.key = k ∧ r.series = c ∧ (r.state = .waiting ∨ r.state = .retakeWaiting)) ∧
    ∀ r ∈ s.records, r.series = c → r.state = .waiting ∨ r.state = .retakeWaiting → r.key ∈ s.waiting[c]

/-- Receptions run on ACTIVE links; those that are not withdrawn and the RECEIVING and RETAKE-RECEIVING records belong
together one to one (R9, R114, R122). -/
abbrev State.receptionsAgree (s : State) : Prop :=
  (∀ l : Fin 8, ∀ c ∈ s.links[l].reception, s.links[l].active = true ∧
    (c.withdrawn = false →
      (∃ r ∈ s.records, r.key = c.key ∧ r.state = if c.retake then .retakeReceiving else .receiving) ∧
      ∀ m : Fin 8, ∀ d ∈ s.links[m].reception, d.key = c.key → d.withdrawn = false → m = l)) ∧
  ∀ r ∈ s.records, r.state = .receiving ∨ r.state = .retakeReceiving →
    ∃ l : Fin 8, ∃ c ∈ s.links[l].reception, c.key = r.key ∧ c.withdrawn = false

/-- A reserved location names a HELD document cell of an OPEN or CLOSING fiche, with the record's key and width and a clear
dose flag, and a TRAILING second half beside a double (R6, R59). -/
abbrev State.heldBy (s : State) (r : Record) (v : Reserved) : Prop :=
  (s.slots[v.slot].state = .opened ∨ s.slots[v.slot].state = .closing) ∧ v.place.head = headOf v.slot ∧
  v.place.fiche = s.slots[v.slot].fiche ∧ v.place.sheet = s.slots[v.slot].sheet ∧
  v.place.cell < (s.slotFormat v.slot).documentCells ∧ v.place.width = (r.image.map Image.cells).getD 1 ∧
  s.slots[v.slot].cells[v.place.cell]? = some ⟨.held, some r.key, v.place.width, false⟩ ∧
  (v.place.width = 2 → s.slots[v.slot].cells[v.place.cell + 1]? = some ⟨.trailing, some r.key, 0, false⟩)

/-- Reserved locations and HELD cells belong together one to one (R6, R42). -/
abbrev State.holdsAgree (s : State) : Prop :=
  (∀ r ∈ s.records, ∀ v ∈ r.reserved, s.heldBy r v) ∧
  ∀ i : Fin 12, ∀ n < s.slots[i].cells.length, ∀ c ∈ s.slots[i].cells[n]?, c.state = .held →
    ∃ r ∈ s.records, ∃ v ∈ r.reserved, v.slot = i ∧ v.place.cell = n

/-- An entry of a head names what it draws: a CELL entry the reserved location of a record in one of the states given, with
that record's effective class (R59), an INDEX entry an INDEX-PENDING cell of an INDEXING fiche of the head (R80). -/
abbrev State.entryAgrees (s : State) (h : Fin 4) (states : List RecordState) (e : Entry) : Prop :=
  headOf e.slot = h ∧
  match e with
  | .title _ => True
  | .cell i n c => ∃ r ∈ s.records, r.state ∈ states ∧ r.source.effectiveClass = c ∧
      ∃ v ∈ r.reserved, v.slot = i ∧ v.place.cell = n
  | .index i n part => s.slots[i].state = .indexing ∧ n = (s.slotFormat i).documentCells + part ∧
      ∃ c ∈ s.slots[i].cells[n]?, c.state = .indexPending

/-- The CELL entries queued are those of the RESERVED and RETAKE-RESERVED records and those in flight those of the EXPOSING
and RETAKE-EXPOSING ones; no CELL or INDEX entry of a head stands twice (R19 to R21, R59, R80, R147). -/
abbrev State.entriesAgree (s : State) : Prop :=
  (∀ h : Fin 4,
    (∀ e ∈ s.heads[h].queue, s.entryAgrees h [.reserved, .retakeReserved] e) ∧
    (∀ f ∈ s.heads[h].inFlight, s.entryAgrees h [.exposing, .retakeExposing] f.entry ∧
      ∀ e ∈ s.heads[h].queue, e = f.entry → ∃ i, e = .title i) ∧
    s.heads[h].queue.Pairwise fun a b => a = b → ∃ i, a = .title i) ∧
  ∀ r ∈ s.records, ∀ v ∈ r.reserved,
    (r.state = .reserved ∨ r.state = .retakeReserved →
      .cell v.slot v.place.cell r.source.effectiveClass ∈ s.heads[headOf v.slot].queue) ∧
    (r.state = .exposing ∨ r.state = .retakeExposing →
      ∃ f ∈ s.heads[headOf v.slot].inFlight, f.entry = .cell v.slot v.place.cell r.source.effectiveClass)

/-- The index cells of an OPEN or CLOSING fiche are INDEX-PENDING (R43), and an OPEN one holds an EMPTY document cell (R57,
R60). -/
abbrev State.fichesAgree (s : State) : Prop :=
  ∀ i : Fin 12,
    (s.slots[i].state = .opened ∨ s.slots[i].state = .closing → ∀ n < s.slots[i].cells.length,
      (s.slotFormat i).documentCells ≤ n → ∀ c ∈ s.slots[i].cells[n]?, c.state = .indexPending) ∧
    (s.slots[i].state = .opened → ∃ n < (s.slotFormat i).documentCells, emptyAt s.slots[i].cells n = true)

/-- Records, waiting lists, receptions, cells and queues agree. -/
abbrev State.recordsAgree (s : State) : Prop :=
  (∀ r ∈ s.records, r.partsFit) ∧ s.waitingAgrees ∧ s.receptionsAgree ∧ s.holdsAgree ∧ s.entriesAgree ∧ s.fichesAgree

/-- A current or superseded location that a slot matches names an EXPOSED or SUPERSEDED cell there, and a TRAILING second
half beside a double (R7, R8). The steps do not keep this in general: under a date code used again a series numbers its
fiche from 1 again (R38), and on a new roll such a fiche may be taken for the old one (R92). -/
abbrev State.filmAgrees (s : State) : Prop :=
  ∀ r ∈ s.records, ∀ l ∈ r.current.toList ++ r.superseded, ∀ i : Fin 12, s.slotMatches i l.place →
    (∃ c ∈ s.slots[i].cells[l.place.cell]?, c.state = .exposed ∨ c.state = .superseded) ∧
    (l.place.width = 2 → ∃ c ∈ s.slots[i].cells[l.place.cell + 1]?, c.state = .trailing)

/-- The ranges of a tracker (R159). -/
abbrev Tracker.inRange (t : Tracker) : Prop :=
  t.dx.natAbs ≤ 400 ∧ t.dy.natAbs ≤ 400 ∧ t.errors ≤ 3 ∧ ∀ r ∈ t.run, r.taken < Config.runReadings

/-- The ranges of a dose monitor (R173). -/
abbrev Dose.inRange (d : Dose) : Prop :=
  1 ≤ d.target ∧ d.target ≤ 65535 ∧ 1 ≤ d.threshold ∧ d.threshold ≤ 255 ∧ d.position < Config.windowDraws ∧
  d.deviations ≤ d.position ∧ d.last ≤ 65535

/-- The ranges of a head: its tracker and dose monitor, its roll context (R140) and its counters (R157). -/
abbrev Head.inRange (k : Head) : Prop :=
  k.tracker.inRange ∧ k.dose.inRange ∧ k.sheets ≤ 250 ∧
  ∀ c : Fin 7, k.counters[c] ≤ Config.counterLimit

/-- The ranges of the heads, of the links' counters (R126, R157) and of the notice queue (R191). -/
abbrev State.inRange (s : State) : Prop :=
  (∀ h : Fin 4, s.heads[h].inRange) ∧ (∀ (l : Fin 8) (c : Fin 11), s.links[l].counters[c] ≤ Config.counterLimit) ∧
  s.port.notices.length ≤ Config.noticeCapacity

end Sys2Proof.Machine
end

