-- ==== Sys2Proof/WellFormed.lean ====
section
/-! DEFINITION. Which commands the outside can send. The types of the operands rule out every link, head, word and
dose integral that the part's connections cannot carry; what is left is checked here. -/

namespace Sys2Proof

/-- A frame whose length field gives the number of its payload bytes (R106). -/
def Frame.wellFormed (f : Frame) : Bool := f.payload.length == f.length.toNat

/-- The kinds of frame that have a row of their own beside BODY: SUBMIT-HEAD, SUBMIT-END and PROBE (section 11.6). -/
def kindHasOtherRow (kind : Byte) : Bool := kind == 0x01#8 || kind == 0x03#8 || kind == 0x04#8

/-- A command that the outside can send: a frame's length field counts its payload (R106), and the BODY row carries
no frame of a kind that has a row of its own. -/
def Instr.wellFormed : Instr → Bool
  | .submitHead _ f => f.wellFormed
  | .body _ kind f => f.wellFormed && !kindHasOtherRow kind
  | .submitEnd _ f => f.wellFormed
  | .probe _ f => f.wellFormed
  | .powerOn _ | .go _ | .portClear => true
  | .find _ _ _ | .findNext _ _ _ | .withdraw _ _ _ | .void _ _ _ => true
  | .rekey _ _ _ _ _ _ | .retireFiche _ _ _ => true
  | .setFormat _ _ _ _ _ _ _ _ _ | .readFormat _ | .tryFit _ _ _ => true
  | .setSeries _ _ _ _ _ _ | .readSeries _ | .clearSeries _ | .cutOffSeries _ | .reopenSeries _ _ => true
  | .closeFiche _ | .ficheStatus _ _ _ => true
  | .setAdmission _ _ _ _ _ _ | .readAdmission _ | .linkStatus _ | .setHold _ | .stagingStatus => true
  | .loadRoll _ _ _ _ | .unloadRoll _ | .headStart _ | .headStop _ | .headReset _ | .headStatus _ => true
  | .setTracker _ _ | .trackerStatus _ | .setDose _ _ _ | .doseStatus _ => true
  | .readEvents | .setEventEnables _ | .acknowledgeEvents _ | .readNotice | .readStatistics _ _ => true
  | .linkActive _ | .linkDown _ | .receptionTimerExpiry _ | .holdTimerExpiry _ => true
  | .serveWaitingLists | .entryTake _ | .transportArrival _ _ | .sheetCodeRead _ _ => true
  | .transportTimeout _ | .stageTimeout _ | .stageCompletion _ _ _ | .photocellReport _ _ | .jam _ => true

end Sys2Proof
end

