-- ==== Sys2Proof/Certificates/Slice0/Obligations.lean ====
section
/-! DEFINITION. The statements for the provers. A statement whose conclusion is `exec … = .next t` with `t` written as
`{ s with … }` says of every part that it does not name, each staging byte included, that the command leaves it. -/

open Sys2Proof Sys2Proof.Machine

/-! ### Steps, power-on and the port -/

/-- One step takes the command at the front of the queue and runs it with the queue's rest.

On an empty queue a step idles (the model's choice, log entry 5).

Every command answers a next state in every state: none faults, none is refused. That this holds in the states that no run
reaches, too, is the model's choice (log entry 23): the manual says nothing of them. -/
def Obligations.StepsRunCommands : Prop :=
  (∀ (c : Instr) (rest : List Instr) (s : State),
     step { s with pending := c :: rest } = exec c { s with pending := rest }) ∧
  (∀ s : State, s.pending = [] → step s = .next s) ∧
  (∀ (i : Instr) (s : State), ∃ t, exec i s = .next t)

/-- The values that the manual gives the parts at power-on (R1, R27, R31, R40, R105, R110, R114, R126, R128, R133,
R134, R138, R140, R157, R159, R173, R183).

POWER_ON gives every part its power-on value and makes ACTIVE the links whose carrier is present (R105). Of what it leaves,
these are the model's choices and no rule's: the queue of waiting commands and the counter of free values, the model's own
fields, stay (log entry 4); motions are numbered from 0 (log entry 9); the staging bytes are erased and read 00H (log
entry 11); no frame waits on a link (log entry 19); and no order stands on a head's lines (log entry 20). -/
def Obligations.PowerOn : Prop :=
  (State.reset.records = [] ∧ (∀ c : Fin 32, State.reset.waiting[c] = []) ∧ (∀ i : Fin 4, State.reset.formats[i] = none) ∧
   (∀ c : Fin 32, State.reset.series[c] =
     { state := .undefined, format := 0, headMask := 0, template := [], date := 0, next := 1, exhausted := false }) ∧
   (∀ i : Fin 12, State.reset.slots[i].state = .free ∧ State.reset.slots[i].cells = [] ∧
     State.reset.slots[i].fiche = ⟨0, 0, 0⟩ ∧ State.reset.slots[i].format = 0 ∧ State.reset.slots[i].sheet = 0 ∧
     State.reset.slots[i].title = false ∧ State.reset.slots[i].redraw = false ∧ State.reset.slots[i].index = none) ∧
   (∀ l : Fin 8, State.reset.links[l].active = false ∧ State.reset.links[l].reception = none ∧
     State.reset.links[l].holdTimer = none ∧ State.reset.links[l].quantum = 0 ∧
     State.reset.links[l].counters = Vector.replicate 11 0) ∧
   (∀ i : Fin 16, State.reset.admission[i] =
     { enabled := false, link := 0, operator := 0, floor := 0, mask := 0, generation := 0 }) ∧
   State.reset.used = [] ∧ State.reset.holdAsserted = false ∧ State.reset.holdQuantum = 500 ∧
   (∀ h : Fin 4, State.reset.heads[h].state = .noRoll ∧ State.reset.heads[h].faultKind = none ∧
     State.reset.heads[h].sheets = 0 ∧ State.reset.heads[h].firstCode = 0 ∧ State.reset.heads[h].coded = false ∧
     State.reset.heads[h].nextSheet = 0 ∧ State.reset.heads[h].stageSheet = none ∧ State.reset.heads[h].queue = [] ∧
     State.reset.heads[h].inFlight = none ∧ State.reset.heads[h].counters = Vector.replicate 7 0 ∧
     State.reset.heads[h].tracker =
       { locked := false, dx := 0, dy := 0, errors := 0, holdLock := false, run := none } ∧
     State.reset.heads[h].dose =
       { target := 32768, threshold := 16, position := 0, deviations := 0, degraded := false, last := 0 }) ∧
   State.reset.port =
     { done := false, doneEnable := false, requestBuffer := Vector.replicate 16 0,
       responseBuffer := Vector.replicate 64 0, execution := none, changes := 0, enables := 0, notices := [] }) ∧
  (∀ (carriers : BitVec 8) (s : State),
     exec (.powerOn carriers) s =
       .next { State.reset with
         links := Vector.ofFn fun l => { Link.reset with active := carriers.getLsbD l.val }
         pending := s.pending
         freeCount := s.freeCount })

/-- A GO on an IDLE port (R184, R186): a header whose code is in the table, whose length is the table's and whose high byte
is zero starts the request; any other header is answered BAD_REQUEST at once. The operand is the buffer that the host
has written (log entry 2). The table has the code and length of every host request, and no others. The code byte of a BAD_REQUEST answer is bits 7 to 0
of a code in the table and 00H for any other (section 11.6).

A GO on a BUSY port is not taken and sets OVERRUN's change bit; the request in execution, DONE and the response buffer
stay (R185; log entry 2). -/
def Obligations.GoStrobe : Prop :=
  (∀ code n, (code, n) ∈ requestCodes ↔
    ∃ i q, requestOf i = some q ∧ q.code = code ∧ q.body.length + 1 = n) ∧
  (∀ w : Word,
    ((∃ n, (w.toNat % 65536, n) ∈ requestCodes) → badRequestByte w = w.toNat % 256) ∧
    ((∀ n, (w.toNat % 65536, n) ∉ requestCodes) → badRequestByte w = 0)) ∧
  ((∀ w : Word, headerPasses w = true ↔
     ∃ n, (w.toNat % 65536, n) ∈ requestCodes ∧ w.toNat / 65536 % 256 = n ∧ w.toNat / 16777216 = 0) ∧
   ∀ (buffer : Vector Word 16) (s : State), s.port.execution = none →
     (headerPasses buffer[0] = true → exec (.go buffer) s =
       .next { s with port := { s.port with
         requestBuffer := buffer, done := false, execution := some ⟨buffer, false⟩ } }) ∧
     (headerPasses buffer[0] = false → exec (.go buffer) s =
       .next { s with port := { s.port with
         requestBuffer := buffer
         done := true
         responseBuffer := overwrite s.port.responseBuffer
           [responseHeader (badRequestByte buffer[0]) (refusal .badRequest)] } })) ∧
  (∀ (buffer : Vector Word 16) (s : State) (e : Execution), s.port.execution = some e →
     exec (.go buffer) s =
       .next { s with port := { s.port with
         requestBuffer := buffer, changes := s.port.changes ||| 1#21 <<< 19 } })

/-- Port Clear (R187): DONE, the change bits, the enables and the notice queue are cleared, the interrupt line falls, every
condition value but NOTICE's goes on, and a request in execution runs on without an answer to come. -/
def Obligations.PortClearClearsPort : Prop :=
  ∀ s : State, ∃ t, exec .portClear s = .next t ∧
    t = { s with port := t.port } ∧
    t.port.done = false ∧ t.port.doneEnable = false ∧ t.port.changes = 0 ∧ t.port.enables = 0 ∧ t.port.notices = [] ∧
    t.port.requestBuffer = s.port.requestBuffer ∧ t.port.responseBuffer = s.port.responseBuffer ∧
    t.port.execution = s.port.execution.map (fun e => { e with cleared := true }) ∧
    interruptLine t = false ∧ conditionValue t .notice = false ∧
    ∀ i, i ≠ .notice → conditionValue t i = conditionValue s i

/-- A host request on an IDLE port is the whole request cycle of R184: its owner answers it against the state with the
message written and the port BUSY, then the answer is written over the response buffer, the port is IDLE and DONE is
set. On a BUSY port that has another request in execution it is not taken (R185). The row's form on either port is the
model's choice (log entry 1).

With the very request in execution, the command is its owner's answer to it (log entry 1): written with DONE set (R184),
or, when a Port Clear was taken meanwhile, without writing the response buffer and without setting DONE (R187). What the
owner does to the port's change bits, enables and notices stands. -/
def Obligations.RequestCycle : Prop :=
  (∀ (request : Vector Word 16) (message : List Word), carries request message = true ↔ message <+: request.toList) ∧
  (∀ (s : State) (message : List Word), (s.writeRequest message).startRequest = { s with port := { s.port with
     done := false
     requestBuffer := overwrite s.port.requestBuffer message
     execution := some ⟨overwrite s.port.requestBuffer message, false⟩ } }) ∧
  (∀ (i : Instr) (q : HostRequest) (s : State), requestOf i = some q →
     (s.port.execution = none →
       ∀ u r, q.owner ((s.writeRequest (requestMessage q.code q.body)).startRequest) = (u, r) →
         exec i s = .next { u with port := { u.port with
           done := true
           execution := none
           requestBuffer := overwrite s.port.requestBuffer (requestMessage q.code q.body)
           responseBuffer := overwrite s.port.responseBuffer (responseWords (q.code % 256) r) } }) ∧
     (∀ e, s.port.execution = some e → carries e.request (requestMessage q.code q.body) = false →
       exec i s = .next { s with port := { s.port with
         requestBuffer := overwrite s.port.requestBuffer (requestMessage q.code q.body)
         changes := s.port.changes ||| 1#21 <<< 19 } })) ∧
  (∀ (i : Instr) (q : HostRequest) (s : State) (e : Execution), requestOf i = some q →
     s.port.execution = some e → carries e.request (requestMessage q.code q.body) = true →
     let u := (q.owner s).1
     (e.cleared = false → exec i s = .next { u with port := { u.port with
       done := true
       execution := none
       responseBuffer := overwrite s.port.responseBuffer (responseWords (q.code % 256) (q.owner s).2) } }) ∧
     (e.cleared = true → exec i s = .next { u with port := { u.port with execution := none } }) ∧
     u.port.done = s.port.done ∧ u.port.requestBuffer = s.port.requestBuffer ∧
     u.port.responseBuffer = s.port.responseBuffer)

/-- A request that its owner answers with any status but OK leaves every part as it was, and its answer is the header
alone, but for Try Fit's OVERSIZE (R186). -/
def Obligations.RefusedRequestChangesNothing : Prop :=
  ∀ (i : Instr) (q : HostRequest) (s : State), requestOf i = some q → (q.owner s).2.status ≠ .ok →
    (q.owner s).1 = s ∧ ((q.owner s).2.status ≠ .oversize → (q.owner s).2.body = [])

/-- A response in the buffer (R184, section 11.6): its words stand from the start, the header first with the status code in
bits 15 to 0, the length in words in bits 23 to 16 and the code byte in bits 31 to 24; words beyond it keep their
former contents.

The numbers of a key, of a frame's fields and of a template read back as they were written (section 11.6, R193), and
keys compare by date code, then account number, then item sequence.

The states of records, series, slots, cells and heads, the phases and the kinds of entries carry their positions in the
tables that list them (R193); statuses and refuse causes have the codes of section 11.6. A fault kind's code is its
position behind "none" (the model's reading, log entry 15).

A request message is its header and its body; the port status word shows BUSY, DONE and the interrupt line's level;
that its other bits read as 0 is the model's choice (log entry 28).

A frame that the intake sends (R106, R108, section 11.6): kind, payload length, payload, and the frame check over them;
each payload field by field, numbers most significant byte first. The codes of a PROBE-REPLY's reception state are the
model's reading (log entry 15). -/
def Obligations.MessageLayouts : Prop :=
  (∀ (n : Nat) (buffer : Vector Word n) (words : List Word) (j : Nat) (hj : j < n),
     (overwrite buffer words)[j] = words.getD j buffer[j]) ∧
  (∀ (buffer : Vector Word 64) (codeByte : Nat) (r : Response), codeByte < 256 → r.body.length < 64 →
     ((overwrite buffer (responseWords codeByte r))[0].extractLsb' 0 16 = BitVec.ofNat 16 (statusCode r.status)) ∧
     ((overwrite buffer (responseWords codeByte r))[0].extractLsb' 16 8 = BitVec.ofNat 8 (r.body.length + 1)) ∧
     ((overwrite buffer (responseWords codeByte r))[0].extractLsb' 24 8 = BitVec.ofNat 8 codeByte) ∧
     (∀ (j : Nat) (h : j < r.body.length) (hj : j + 1 < 64),
       (overwrite buffer (responseWords codeByte r))[j + 1] = r.body[j]) ∧
     (∀ (j : Nat) (hj : j < 64), r.body.length < j → (overwrite buffer (responseWords codeByte r))[j] = buffer[j])) ∧
  ((∀ k : Key, k.date < 65536 → k.account ≤ 999999999999 → k.item < 65536 →
     ∃ a b c, keyWords k = [a, b, c] ∧ keyOf a b c = k ∧ a.toNat = k.date * 65536 + k.item ∧
       b.toNat = k.account / 4294967296 ∧ c.toNat = k.account % 4294967296 ∧ (keyBytes k).length = 9 ∧
       numberOf ((keyBytes k).take 2) = k.date ∧ numberOf (((keyBytes k).drop 2).take 5) = k.account ∧
       numberOf ((keyBytes k).drop 7) = k.item) ∧
   (∀ w n, numberOf (bytesOf w n) = n % 256 ^ w ∧ (bytesOf w n).length = w ∧
     ∀ j < w, (bytesOf w n)[j]? = some (BitVec.ofNat 8 (n / 256 ^ (w - 1 - j)))) ∧
   (∀ (a b c d : Byte) (rest : Text), ∃ w, packText (a :: b :: c :: d :: rest) = w :: packText rest ∧
     w.extractLsb' 24 8 = a ∧ w.extractLsb' 16 8 = b ∧ w.extractLsb' 8 8 = c ∧ w.extractLsb' 0 8 = d) ∧
   (∀ (t : Text) (words : Vector Word 7) (n : Nat), t.length = 28 → n ≤ 28 → words.toList = packText t →
     templateText (word n) words = t.take n) ∧
   ∀ a b : Key, a.before b = true ↔
     a.date < b.date ∨ (a.date = b.date ∧ (a.account < b.account ∨ (a.account = b.account ∧ a.item < b.item)))) ∧
  [RecordState.receiving, .waiting, .reserved, .exposing, .exposed, .retakeReceiving, .retakeWaiting, .retakeReserved,
    .retakeExposing].map recordStateCode = List.range 9 ∧
  [SeriesState.undefined, .active, .cutOff].map seriesStateCode = List.range 3 ∧
  [SlotState.free, .opened, .closing, .indexing].map slotStateCode = List.range 4 ∧
  [CellState.empty, .held, .exposed, .superseded, .void, .spoiled, .trailing, .indexPending, .indexDone].map
    cellStateCode = List.range 9 ∧
  [HeadState.noRoll, .ready, .running, .stopping, .fault].map headStateCode = List.range 5 ∧
  [Phase.advancing, .acquiring, .positioning, .drawing].map phaseCode = List.range 4 ∧
  (∀ i n c, [Entry.title i, .cell i n c, .index i n c].map entryKindCode = List.range 3) ∧
  [none, some FaultKind.transportTimeout, some .stageTimeout, some .transportJam, some .sheetMismatch,
    some .sheetUnreadable, some .registrationFailed, some .lampFailure].map faultKindCode = List.range 8 ∧
  [Status.ok, .badRequest, .badArgument, .notFound, .inExposure, .exposedRecord, .notExposed, .retakePending, .ficheClosed,
    .duplicateKey, .receiving, .ficheOpen, .badFormat, .formatInUse, .seriesBusy, .seriesClosed, .seriesActive, .noSeries,
    .headState, .duplicateEntry, .oversize, .noticeEmpty].map statusCode = List.range 22 ∧
  [Cause.unregistered, .noSeries, .notPermitted, .seriesClosed, .malformed, .oversize, .duplicateKey, .noSuchDocument,
    .seriesMismatch, .notExposed, .retakePending, .retakeLimit, .directoryFull, .noRoom, .abandoned, .withdrawn,
    .overlength, .shortBody, .bodyCheck, .timeout].map causeCode = List.range' 1 20 ∧
  (∀ (code : Nat) (body : List Word), code < 65536 → body.length < 255 →
    ∃ w, requestMessage code body = w :: body ∧ w.extractLsb' 0 16 = BitVec.ofNat 16 code ∧
      w.extractLsb' 16 8 = BitVec.ofNat 8 (body.length + 1) ∧ w.extractLsb' 24 8 = 0) ∧
  (∀ s : State, (portStatusWord s).getLsbD 0 = s.port.execution.isSome ∧ (portStatusWord s).getLsbD 1 = s.port.done ∧
    (portStatusWord s).getLsbD 2 = interruptLine s ∧ ∀ n, 3 ≤ n → (portStatusWord s).getLsbD n = false) ∧
  (∀ f : OutFrame,
    let said := outKind f :: bytesOf 2 (outPayload f).length ++ outPayload f
    outBytes f = said ++ bytesOf 2 (frameCheck said).toNat) ∧
  (∀ tag key, outKind (.accept tag key) = 0x81#8 ∧ outPayload (.accept tag key) = bytesOf 2 tag.toNat ++ keyBytes key) ∧
  (∀ tag cause, outKind (.refuse tag cause) = 0x82#8 ∧
    outPayload (.refuse tag cause) = bytesOf 2 tag.toNat ++ [BitVec.ofNat 8 (causeCode cause)]) ∧
  (∀ p : Placed, outKind (.placed p) = 0x83#8 ∧ (outPayload (.placed p)).length = 21 ∧
    outPayload (.placed p) = bytesOf 2 p.tag.toNat ++ keyBytes p.key ++ [BitVec.ofNat 8 p.fiche.series.val] ++
      bytesOf 2 p.fiche.date ++ bytesOf 2 p.fiche.sequence ++
      ([BitVec.ofNat 8 (0x41 + p.grid.row)] ++ digits 2 (p.grid.column + 1)) ++ [BitVec.ofNat 8 p.submittedClass] ++
      [(if p.dose then 1#8 else 0) ||| (if p.retake then 2#8 else 0)]) ∧
  (∀ q, outKind (.hold q) = 0x84#8 ∧ outPayload (.hold q) = bytesOf 2 q) ∧
  ∀ p : ProbeReply, outKind (.probeReply p) = 0x85#8 ∧
    outPayload (.probeReply p) = [BitVec.ofNat 8 p.link.val, if p.receiving then 1 else 0, p.withdrawn] ++
      bytesOf 2 p.tag.toNat ++ bytesOf 4 p.expected.toNat ++ bytesOf 4 p.soFar.toNat ++ bytesOf 2 p.quantum

/-- The interrupt line is asserted exactly while DONE and the DONE enable are both set or some indication's change bit and
enable are both set (R190). -/
def Obligations.InterruptLineLevel : Prop :=
  ∀ s : State, interruptLine s = true ↔
    (s.port.done = true ∧ s.port.doneEnable = true) ∨
      ∃ i : Indication, s.port.changes.getLsbD (indicationBit i) = true ∧
        s.port.enables.getLsbD (indicationBit i) = true

/-- Each indication has its own bit (section 11.6): its condition value stands there in the condition word, raising it sets
that change bit and no other, and it changes no enable and no condition value (R188). The condition values themselves: a
head in FAULT, its DEGRADED flag, its tracker LOCKED, the hold ASSERTED, the notice queue not empty; the indications that
are events alone, STOPPED, NOTICE_OVERFLOW, OVERRUN and ORPHAN, have none and read as 0.

The three requests on the indications, on an IDLE port (R189; log entry 1). -/
def Obligations.IndicationsAndEvents : Prop :=
  ((∀ i j : Indication, indicationBit i = indicationBit j → i = j) ∧
   ∀ (s : State) (i : Indication),
     (conditionBits s).getLsbD (indicationBit i) = conditionValue s i ∧
     (∀ j, (s.raise i).port.changes.getLsbD (indicationBit j) =
       (decide (j = i) || s.port.changes.getLsbD (indicationBit j))) ∧
     (s.raise i).port.enables = s.port.enables ∧ conditionBits (s.raise i) = conditionBits s) ∧
  (∀ s : State,
     (∀ h : Fin 4, (conditionValue s (.fault h) = true ↔ s.heads[h].state = .fault) ∧
       conditionValue s (.degraded h) = s.heads[h].dose.degraded ∧
       conditionValue s (.locked h) = s.heads[h].tracker.locked ∧ conditionValue s (.stopped h) = false ∧
       indicationBit (.fault h) = 4 * h.val ∧ indicationBit (.degraded h) = 4 * h.val + 1 ∧
       indicationBit (.locked h) = 4 * h.val + 2 ∧ indicationBit (.stopped h) = 4 * h.val + 3) ∧
     conditionValue s .hold = s.holdAsserted ∧ (conditionValue s .notice = true ↔ s.port.notices ≠ []) ∧
     conditionValue s .noticeOverflow = false ∧ conditionValue s .overrun = false ∧ conditionValue s .orphan = false ∧
     [Indication.hold, .notice, .noticeOverflow, .overrun, .orphan].map indicationBit = [16, 17, 18, 19, 20]) ∧
  (∀ s : State, s.port.execution = none →
     exec .readEvents s = .next (s.answered 0x0060 [] (okWith
       [(conditionBits s).setWidth 32, s.port.changes.setWidth 32,
         s.port.enables.setWidth 32 ||| (if s.port.doneEnable then 0x80000000#32 else 0)])) ∧
     ∀ w : Word,
       ((∃ n, 21 ≤ n ∧ n ≤ 30 ∧ w.getLsbD n = true) →
         exec (.setEventEnables w) s = .next (s.answered 0x0061 [w] (refusal .badArgument))) ∧
       ((∀ n, 21 ≤ n → n ≤ 30 → w.getLsbD n = false) →
         exec (.setEventEnables w) s = .next (State.answered
           { s with port := { s.port with enables := w.setWidth 21, doneEnable := w.getLsbD 31 } }
           0x0061 [w] (okWith []))) ∧
       ((∃ n, 21 ≤ n ∧ n ≤ 31 ∧ w.getLsbD n = true) →
         exec (.acknowledgeEvents w) s = .next (s.answered 0x0062 [w] (refusal .badArgument))) ∧
       ((∀ n, 21 ≤ n → n ≤ 31 → w.getLsbD n = false) →
         exec (.acknowledgeEvents w) s = .next (State.answered
           { s with port := { s.port with changes := s.port.changes &&& ~~~(w.setWidth 21) } }
           0x0062 [w] (okWith []))))

/-- The notice queue (R191): a notice joins at the end of a queue that holds fewer than 32 and is dropped with
NOTICE_OVERFLOW at a full one; Read Notice, on an IDLE port (log entry 1), removes the oldest, and answers NOTICE_EMPTY
on an empty queue. NOTICE's change bit is set when the queue leaves or becomes empty. The words of a notice: fiche identity,
head, sheet index, redraw flag, and the nine cell counts two to a word, the first of each pair in bits 15 to 0 (R193). -/
def Obligations.NoticeQueue : Prop :=
  (∀ n : Notice, noticeWords n =
    [word n.fiche.series.val, word n.fiche.date, word n.fiche.sequence, word n.head.val, word n.sheet,
      if n.redraw then 1 else 0, word (n.counts[0] % 65536 + n.counts[1] * 65536),
      word (n.counts[2] % 65536 + n.counts[3] * 65536), word (n.counts[4] % 65536 + n.counts[5] * 65536),
      word (n.counts[6] % 65536 + n.counts[7] * 65536), word n.counts[8]]) ∧
  (∀ (s : State) (n : Notice), s.port.notices.length < 32 →
    s.putNotice n = { s with port := { s.port with
      notices := s.port.notices ++ [n]
      changes := if s.port.notices = [] then s.port.changes ||| 1#21 <<< 17 else s.port.changes } }) ∧
  (∀ (s : State) (n : Notice), 32 ≤ s.port.notices.length →
    s.putNotice n = { s with port := { s.port with changes := s.port.changes ||| 1#21 <<< 18 } }) ∧
  (∀ s : State, s.port.execution = none → s.port.notices = [] →
    exec .readNotice s = .next (s.answered 0x0063 [] (refusal .noticeEmpty))) ∧
  ∀ (s : State) (n : Notice) (rest : List Notice), s.port.execution = none → s.port.notices = n :: rest →
    exec .readNotice s = .next (State.answered
      { s with port := { s.port with
        notices := rest
        changes := if rest = [] then s.port.changes ||| 1#21 <<< 17 else s.port.changes } }
      0x0063 [] (okWith (noticeWords n)))

/-- Read Statistics, on an IDLE port (R192; log entry 1): the group's counters are answered in the order of their table
(R126 for a link, R157 for a head) and become 0 in the same act; a kind or a number outside its range is answered BAD_ARGUMENT. A counter stops at 65535. -/
def Obligations.ReadStatistics : Prop :=
  (∀ n, countUp n = if n < 65535 then n + 1 else 65535) ∧
  [LinkCounter.headsReceived, .accepted, .refused, .refusedForSpace, .checkErrors, .strayFrames, .headsDuringHold,
    .placedSent, .orphanNotices, .noticesLost, .carrierLostReceptions].map linkCounterIndex = List.finRange 11 ∧
  [HeadCounter.cellExposures, .titleExposures, .indexExposures, .spoiledExposures, .faults, .doseDeviations,
    .registrationLosses].map headCounterIndex = List.finRange 7 ∧
  ∀ (s : State) (kind number : Word), s.port.execution = none →
    (∀ l : Fin 8, kind = 0 → number.toNat = l.val →
      exec (.readStatistics kind number) s = .next (State.answered
        { s with links := s.links.set l { s.links[l] with counters := Vector.replicate 11 0 } }
        0x0064 [kind, number] (okWith (s.links[l].counters.toList.map word)))) ∧
    (∀ h : Fin 4, kind = 1 → number.toNat = h.val →
      exec (.readStatistics kind number) s = .next (State.answered
        { s with heads := s.heads.set h { s.heads[h] with counters := Vector.replicate 7 0 } }
        0x0064 [kind, number] (okWith (s.heads[h].counters.toList.map word)))) ∧
    ((1 < kind.toNat ∨ (kind = 0 ∧ 7 < number.toNat) ∨ (kind = 1 ∧ 3 < number.toNat)) →
      exec (.readStatistics kind number) s =
        .next (s.answered 0x0064 [kind, number] (refusal .badArgument)))

/-! ### The placement directory -/

/-- Find, on an IDLE port (R25; log entry 1): BAD_ARGUMENT for an account number outside 1 to 999,999,999,999, NOT_FOUND when
no record has the key, else the 63 words of the record that has it. The directory is in ascending key order (R1).

The 63 words (R25, R193): key, series and state; source; the image part behind its presence mark, with the number of its
blocks and the first and last of them; the reserved location and the current location behind theirs; the superseded
count and locations. A part that is absent reads as zeros.

Find Next, on an IDLE port (R26; log entry 1): the record of the smallest key greater than the one given, whose account
number may be 0; NOT_FOUND when no record has a greater key. -/
def Obligations.FindAndFindNext : Prop :=
  (∀ (s : State) (k : Key) (r : Record), s.directoryOrdered →
     (s.findRecord k = some r ↔ r ∈ s.records ∧ r.key = k)) ∧
  ((∀ r : Record,
     let place := fun p : Place =>
       [word p.fiche.series.val, word p.fiche.date, word p.fiche.sequence, word p.head.val, word p.sheet, word p.cell,
         word p.width]
     let location := fun l : Location => place l.place ++ [if l.dose then 1 else 0]
     (recordWords r).length = 63 ∧
     recordWords r =
       [word (r.key.date * 65536 + r.key.item), word (r.key.account / 4294967296), word r.key.account,
         word r.series.val, word (recordStateCode r.state), word r.source.entry.val, word r.source.generation.toNat,
         word r.source.tag.toNat, word r.source.submittedClass, word r.source.effectiveClass] ++
       (match r.image with
         | some m => [1, word m.width, word m.height, word m.cells, word m.scale, word m.drawnWidth, word m.drawnHeight,
             word m.blocks.length, word (m.blocks.headD 0), word (m.blocks.getLastD 0)]
         | none => List.replicate 10 0) ++
       (match r.reserved with | some v => [1, word v.slot.val] ++ place v.place | none => List.replicate 9 0) ++
       (match r.current with | some l => 1 :: location l | none => List.replicate 9 0) ++
       [word r.superseded.length] ++ (r.superseded.flatMap location ++ List.replicate 24 0).take 24) ∧
   ∀ (k1 k2 k3 : Word) (s : State), s.port.execution = none → s.directoryOrdered →
     (((keyOf k1 k2 k3).account = 0 ∨ 999999999999 < (keyOf k1 k2 k3).account) →
       exec (.find k1 k2 k3) s = .next (s.answered 0x0010 [k1, k2, k3] (refusal .badArgument))) ∧
     (1 ≤ (keyOf k1 k2 k3).account → (keyOf k1 k2 k3).account ≤ 999999999999 →
       ((∀ r ∈ s.records, r.key ≠ keyOf k1 k2 k3) →
         exec (.find k1 k2 k3) s = .next (s.answered 0x0010 [k1, k2, k3] (refusal .notFound))) ∧
       ∀ r ∈ s.records, r.key = keyOf k1 k2 k3 →
         exec (.find k1 k2 k3) s = .next (s.answered 0x0010 [k1, k2, k3] (okWith (recordWords r))))) ∧
  (∀ (k1 k2 k3 : Word) (s : State), s.port.execution = none → s.directoryOrdered →
     (999999999999 < (keyOf k1 k2 k3).account →
       exec (.findNext k1 k2 k3) s = .next (s.answered 0x0011 [k1, k2, k3] (refusal .badArgument))) ∧
     ((keyOf k1 k2 k3).account ≤ 999999999999 →
       ((∀ r ∈ s.records, (keyOf k1 k2 k3).before r.key = false) →
         exec (.findNext k1 k2 k3) s = .next (s.answered 0x0011 [k1, k2, k3] (refusal .notFound))) ∧
       ∀ r ∈ s.records, (keyOf k1 k2 k3).before r.key = true →
         (∀ x ∈ s.records, (keyOf k1 k2 k3).before x.key = true → x = r ∨ r.key.before x.key = true) →
         exec (.findNext k1 k2 k3) s = .next (s.answered 0x0011 [k1, k2, k3] (okWith (recordWords r)))))

/-- The tests of Withdraw, on an IDLE port (R86; log entry 1): what it is answered when it takes nothing.

The tests of Rekey in their order, on an IDLE port (R94; log entry 1), over the places of the current and superseded
locations: each must lie on a fiche that is OPEN or CLOSING in a slot. -/
def Obligations.WithdrawAndRekeyRefusals : Prop :=
  (∀ st : RecordState, st.retake = true ↔
    st ∈ [RecordState.retakeReceiving, .retakeWaiting, .retakeReserved, .retakeExposing]) ∧
  (∀ k : Key, k.accountInRange = true ↔ 1 ≤ k.account ∧ k.account ≤ 999999999999) ∧
  (∀ (r : Record) (p : Place), p ∈ r.filmPlaces ↔ ∃ l, (r.current = some l ∨ l ∈ r.superseded) ∧ l.place = p) ∧
  (∀ (s : State) (p : Place),
    ((∀ i, s.slotMatches i p → s.slots[i].state = .indexing) → s.liveSlotOfPlace p = none) ∧
    ∀ i, s.liveOnly i p → s.liveSlotOfPlace p = some i) ∧
  (∀ (k1 k2 k3 : Word) (s : State), s.port.execution = none →
     (((keyOf k1 k2 k3).account = 0 ∨ 999999999999 < (keyOf k1 k2 k3).account) →
       exec (.withdraw k1 k2 k3) s = .next (s.answered 0x0012 [k1, k2, k3] (refusal .badArgument))) ∧
     (1 ≤ (keyOf k1 k2 k3).account → (keyOf k1 k2 k3).account ≤ 999999999999 →
       (s.findRecord (keyOf k1 k2 k3) = none →
         exec (.withdraw k1 k2 k3) s = .next (s.answered 0x0012 [k1, k2, k3] (refusal .notFound))) ∧
       ∀ r, s.findRecord (keyOf k1 k2 k3) = some r →
         (r.state = .exposing ∨ r.state = .retakeExposing →
           exec (.withdraw k1 k2 k3) s = .next (s.answered 0x0012 [k1, k2, k3] (refusal .inExposure))) ∧
         (r.state = .exposed →
           exec (.withdraw k1 k2 k3) s = .next (s.answered 0x0012 [k1, k2, k3] (refusal .exposedRecord))))) ∧
  (∀ (o1 o2 o3 n1 n2 n3 : Word) (s : State), s.port.execution = none →
     ((keyOf o1 o2 o3).accountInRange = false ∨ (keyOf n1 n2 n3).accountInRange = false →
       exec (.rekey o1 o2 o3 n1 n2 n3) s =
         .next (s.answered 0x0014 [o1, o2, o3, n1, n2, n3] (refusal .badArgument))) ∧
     ((keyOf o1 o2 o3).accountInRange = true → (keyOf n1 n2 n3).accountInRange = true →
       (s.findRecord (keyOf o1 o2 o3) = none →
         exec (.rekey o1 o2 o3 n1 n2 n3) s =
           .next (s.answered 0x0014 [o1, o2, o3, n1, n2, n3] (refusal .notFound))) ∧
       ∀ r, s.findRecord (keyOf o1 o2 o3) = some r →
         (r.state = .receiving → exec (.rekey o1 o2 o3 n1 n2 n3) s =
           .next (s.answered 0x0014 [o1, o2, o3, n1, n2, n3] (refusal .receiving))) ∧
         (r.state = .exposing ∨ r.state = .retakeExposing → exec (.rekey o1 o2 o3 n1 n2 n3) s =
           .next (s.answered 0x0014 [o1, o2, o3, n1, n2, n3] (refusal .inExposure))) ∧
         (r.state ∈ [RecordState.retakeReceiving, .retakeWaiting, .retakeReserved] →
           exec (.rekey o1 o2 o3 n1 n2 n3) s =
             .next (s.answered 0x0014 [o1, o2, o3, n1, n2, n3] (refusal .retakePending))) ∧
         (r.state ∈ [RecordState.waiting, .reserved, .exposed] →
           ((∃ p ∈ r.filmPlaces, s.liveSlotOfPlace p = none) → exec (.rekey o1 o2 o3 n1 n2 n3) s =
             .next (s.answered 0x0014 [o1, o2, o3, n1, n2, n3] (refusal .ficheClosed))) ∧
           ((∀ p ∈ r.filmPlaces, s.liveSlotOfPlace p ≠ none) → s.findRecord (keyOf n1 n2 n3) ≠ none →
             exec (.rekey o1 o2 o3 n1 n2 n3) s =
               .next (s.answered 0x0014 [o1, o2, o3, n1, n2, n3] (refusal .duplicateKey))))))

/-- Withdraw of a record that holds no cell, on an IDLE port (R87, R88, R90, R122; log entry 1): a RECEIVING or WAITING record
leaves the directory, a RETAKE-RECEIVING or RETAKE-WAITING one returns to EXPOSED; its blocks are free; it leaves its
waiting list; the one reception that carries its key is marked withdrawn. The hold is judged on the blocks freed (R132,
R133), and the cut-off condition of the series on a record that leaves (R72); every other part stays.

Withdraw of a record that holds a cell, on an IDLE port (R89, R90; log entry 1): its CELL entry leaves the head's queue,
its cells are EMPTY with no key, its blocks are free, the record leaves the directory (RESERVED) or returns to EXPOSED
(RETAKE-RESERVED), and the hold is judged. The indexing test on the slot follows: a CLOSING one left without a HELD cell
has its index built and its INDEX entries queued (R73). -/
def Obligations.WithdrawTakesEffect : Prop :=
  (∀ (e : Entry) (i : Fin 12) (n : Nat), e.namesCell i n = true ↔ ∃ c, e = .cell i n c) ∧
  (blocksOf none = [] ∧ ∀ m : Image, blocksOf (some m) = m.blocks) ∧
  (∀ (k1 k2 k3 : Word) (s : State) (r : Record), s.port.execution = none →
     1 ≤ (keyOf k1 k2 k3).account → (keyOf k1 k2 k3).account ≤ 999999999999 →
     s.findRecord (keyOf k1 k2 k3) = some r →
     r.state ∈ [RecordState.receiving, .waiting, .retakeReceiving, .retakeWaiting] →
     let left : State := { s with
       used := s.used.filter fun b => !(blocksOf r.image).contains b
       records := if r.state.retake then
           s.records.map fun x => if x.key = r.key then { x with image := none, reserved := none, state := .exposed } else x
         else s.records.filter fun x => decide (x.key ≠ r.key) }
     let done := fun u : State => Host.Outcome.next (State.answered
       (if r.state.retake then u.judgeHold else u.judgeHold.judgeCutOff r.series) 0x0012 [k1, k2, k3]
       (okWith [word (recordStateCode r.state), if r.state.retake then 1 else 0]))
     let fills := fun l : Fin 8 => ∃ c, s.links[l].reception = some c ∧ c.key = r.key ∧ c.withdrawn = false
     (r.state = .waiting ∨ r.state = .retakeWaiting → exec (.withdraw k1 k2 k3) s = done
       { left with waiting := s.waiting.set r.series (s.waiting[r.series].filter fun k => decide (k ≠ r.key)) }) ∧
     (r.state = .receiving ∨ r.state = .retakeReceiving →
       ((∀ l, ¬ fills l) → exec (.withdraw k1 k2 k3) s = done left) ∧
       ∀ l c, s.links[l].reception = some c → c.key = r.key → c.withdrawn = false → (∀ m, fills m → m = l) →
         exec (.withdraw k1 k2 k3) s = done { left with
           links := s.links.set l { s.links[l] with reception := some { c with withdrawn := true } } })) ∧
  (∀ (k1 k2 k3 : Word) (s : State) (r : Record) (v : Reserved), s.port.execution = none →
     1 ≤ (keyOf k1 k2 k3).account → (keyOf k1 k2 k3).account ≤ 999999999999 →
     s.findRecord (keyOf k1 k2 k3) = some r → r.state = .reserved ∨ r.state = .retakeReserved → r.reserved = some v →
     let n := v.place.cell
     let led := s.slots[v.slot].cells.modify n fun _ => ⟨.empty, none, 1, false⟩
     exec (.withdraw k1 k2 k3) s = .next (State.answered
       ((State.judgeHold { s with
          used := s.used.filter fun b => !(blocksOf r.image).contains b
          records := if r.state = .retakeReserved then
              s.records.map fun x =>
                if x.key = r.key then { x with image := none, reserved := none, state := .exposed } else x
            else s.records.filter fun x => decide (x.key ≠ r.key)
          slots := s.slots.set v.slot { s.slots[v.slot] with
            cells := if v.place.width = 2 then led.modify (n + 1) fun _ => ⟨.empty, none, 1, false⟩ else led }
          heads := s.heads.set v.place.head { s.heads[v.place.head] with
            queue := s.heads[v.place.head].queue.filter fun e => !e.namesCell v.slot n } }).indexingTest v.slot)
       0x0012 [k1, k2, k3]
       (okWith [word (recordStateCode r.state), if r.state = .retakeReserved then 1 else 0])))

/-- Void, on an IDLE port (R92, R93; log entry 1): the tests in their order; then the leading cell of the current location is
VOID and keeps its key, width and dose flag, and the record leaves the directory. The word of the grid reference is
the layout constant of log entry 13 applied to the reference's three characters. -/
def Obligations.VoidAnswers : Prop :=
  (∀ (f : Format) (n : Nat), (f.gridRef n).text = [BitVec.ofNat 8 (0x41 + n / f.cols)] ++ digits 2 (n % f.cols + 1)) ∧
  ∀ (k1 k2 k3 : Word) (s : State), s.port.execution = none →
    (((keyOf k1 k2 k3).account = 0 ∨ 999999999999 < (keyOf k1 k2 k3).account) →
      exec (.void k1 k2 k3) s = .next (s.answered 0x0013 [k1, k2, k3] (refusal .badArgument))) ∧
    (1 ≤ (keyOf k1 k2 k3).account → (keyOf k1 k2 k3).account ≤ 999999999999 →
      (s.findRecord (keyOf k1 k2 k3) = none →
        exec (.void k1 k2 k3) s = .next (s.answered 0x0013 [k1, k2, k3] (refusal .notFound))) ∧
      ∀ r, s.findRecord (keyOf k1 k2 k3) = some r →
        (r.state ∈ [RecordState.receiving, .waiting, .reserved, .exposing] →
          exec (.void k1 k2 k3) s = .next (s.answered 0x0013 [k1, k2, k3] (refusal .notExposed))) ∧
        (r.state.retake = true →
          exec (.void k1 k2 k3) s = .next (s.answered 0x0013 [k1, k2, k3] (refusal .retakePending))) ∧
        ∀ place dose, r.state = .exposed → r.current = some ⟨place, dose⟩ →
          ((∀ i : Fin 12, s.slotMatches i place → s.slots[i].state = .indexing) →
            exec (.void k1 k2 k3) s = .next (s.answered 0x0013 [k1, k2, k3] (refusal .ficheClosed))) ∧
          ∀ i : Fin 12, s.liveOnly i place →
            exec (.void k1 k2 k3) s = .next (State.answered
              { s with
                slots := s.slots.set i { s.slots[i] with
                  cells := s.slots[i].cells.modify place.cell fun c => { c with state := .void } }
                records := s.records.filter fun x => decide (x.key ≠ r.key) }
              0x0013 [k1, k2, k3] (okWith [word place.fiche.series.val, word place.fiche.date, word place.fiche.sequence,
                Config.gridReferenceWord (BitVec.ofNat 24 (numberOf ((s.slotFormat i).gridRef place.cell).text))])))

/-- A Rekey that passes, on an IDLE port (R95; log entry 1): the record stands under its new key, all its other parts kept,
in an ordered directory; it keeps its place on its waiting list; the new key is written in the held cell of a RESERVED
record and in each film cell of an EXPOSED one, second halves too; every other cell and part stays. -/
def Obligations.RekeyMovesRecord : Prop :=
  ∀ (o1 o2 o3 n1 n2 n3 : Word) (s : State) (r : Record), s.port.execution = none → s.directoryOrdered →
    (keyOf o1 o2 o3).accountInRange = true → (keyOf n1 n2 n3).accountInRange = true →
    s.findRecord (keyOf o1 o2 o3) = some r → r.state ∈ [RecordState.waiting, .reserved, .exposed] →
    (∀ p ∈ r.filmPlaces, s.liveSlotOfPlace p ≠ none) → s.findRecord (keyOf n1 n2 n3) = none →
    ∃ t, exec (.rekey o1 o2 o3 n1 n2 n3) s = .next t ∧
      t = State.answered { s with records := t.records, waiting := t.waiting, slots := t.slots }
        0x0014 [o1, o2, o3, n1, n2, n3] (okWith []) ∧
      t.directoryOrdered ∧
      (∀ x, x ∈ t.records ↔ x = { r with key := keyOf n1 n2 n3 } ∨ (x ∈ s.records ∧ x.key ≠ keyOf o1 o2 o3)) ∧
      (∀ c : Fin 32, t.waiting[c] =
        if c = r.series then s.waiting[c].map fun k => if k = keyOf o1 o2 o3 then keyOf n1 n2 n3 else k
        else s.waiting[c]) ∧
      ∀ j : Fin 12, { t.slots[j] with cells := s.slots[j].cells } = s.slots[j] ∧
        t.slots[j].cells.length = s.slots[j].cells.length ∧
        ∀ n c, s.slots[j].cells[n]? = some c →
          ((r.state = .reserved ∧ ∃ v ∈ r.reserved, v.slot = j ∧ v.place.covers n) ∨
              (r.state = .exposed ∧ ∃ p ∈ r.filmPlaces, s.liveSlotOfPlace p = some j ∧ p.covers n) →
            t.slots[j].cells[n]? = some { c with key := some (keyOf n1 n2 n3) }) ∧
          (¬ ((r.state = .reserved ∧ ∃ v ∈ r.reserved, v.slot = j ∧ v.place.covers n) ∨
              (r.state = .exposed ∧ ∃ p ∈ r.filmPlaces, s.liveSlotOfPlace p = some j ∧ p.covers n)) →
            t.slots[j].cells[n]? = some c)

/-- Retire Fiche, on an IDLE port (R97; log entry 1): BAD_ARGUMENT and FICHE_OPEN; else every EXPOSED record whose current
location lies on the fiche leaves the directory, a record in a RETAKE state there stays, and both are counted. -/
def Obligations.RetireFicheAnswers : Prop :=
  (∀ (r : Record) (f : FicheId),
    (r.retired f = true ↔ r.state = .exposed ∧ ∃ l, r.current = some l ∧ l.place.fiche = f) ∧
    (r.keptAtRetire f = true ↔ r.state.retake = true ∧ ∃ l, r.current = some l ∧ l.place.fiche = f)) ∧
  ∀ (a b c : Word) (s : State), s.port.execution = none →
    (31 < a.toNat ∨ 65535 < b.toNat ∨ c = 0 ∨ 9999 < c.toNat →
      exec (.retireFiche a b c) s = .next (s.answered 0x0015 [a, b, c] (refusal .badArgument))) ∧
    ∀ f : FicheId, a.toNat = f.series.val → b.toNat = f.date → c.toNat = f.sequence → b.toNat ≤ 65535 → c ≠ 0 →
      c.toNat ≤ 9999 →
      ((∃ i : Fin 12, s.slots[i].state ≠ .free ∧ s.slots[i].fiche = f) →
        exec (.retireFiche a b c) s = .next (s.answered 0x0015 [a, b, c] (refusal .ficheOpen))) ∧
      ((∀ i : Fin 12, s.slots[i].state ≠ .free → s.slots[i].fiche ≠ f) →
        exec (.retireFiche a b c) s = .next (State.answered
          { s with records := s.records.filter fun r => !r.retired f }
          0x0015 [a, b, c]
          (okWith [word (s.records.countP fun r => r.retired f), word (s.records.countP fun r => r.keptAtRetire f)])))

/-! ### The fiche composer -/

/-- Set Format and Read Format, on an IDLE port (R29, R30; log entry 1): the tests in their order, the entry written, and the
answers with k and the document cell count. The ranges of the eight fields are those of section 2.1's table; the derived
quantities are those of R27, with ceil the least whole number not below the quotient; a slot's format is the entry that it
names, and an undefined entry's fields read as 0. -/
def Obligations.FormatRequests : Prop :=
  (∀ a b : Nat, 0 < b → a ≤ b * ceilDiv a b ∧ b * ceilDiv a b < a + b) ∧
  (∀ f : Format, f.cellCount = f.rows * f.cols ∧ f.indexCells = ceilDiv (f.rows * f.cols) 121 ∧
    f.documentCells = f.rows * f.cols - ceilDiv (f.rows * f.cols) 121 ∧
    (f.doubleCapacity = true ↔ 2 ≤ f.cols ∧ 2 ≤ f.documentCells) ∧
    (∀ w, f.drawableWidth w = w * f.px - 2 * f.gutter) ∧ f.drawableHeight = f.py - 2 * f.gutter) ∧
  (∀ (s : State) (n : Fin 4), (∀ f, s.formats[n] = some f → s.formatAt n = f) ∧
    (s.formats[n] = none → s.formatAt n = ⟨0, 0, 0, 0, 0, 0, 0, 0⟩) ∧
    ∀ i : Fin 12, s.slots[i].format = n → s.slotFormat i = s.formatAt n) ∧
  (∀ f : Format, f.inRange = true ↔ (1 ≤ f.rows ∧ f.rows ≤ 16) ∧ (1 ≤ f.cols ∧ f.cols ≤ 32) ∧
    (1000 ≤ f.px ∧ f.px ≤ 20000) ∧ (1000 ≤ f.py ∧ f.py ≤ 20000) ∧ f.ox ≤ 148000 ∧ f.oy ≤ 105000 ∧
    (2000 ≤ f.band ∧ f.band ≤ 20000) ∧ f.gutter ≤ 500) ∧
  ∀ s : State, s.port.execution = none →
    (∀ (i r c px py ox oy h g : Word),
      let body := [i, r, c, px, py, ox, oy, h, g]
      let f : Format := ⟨r.toNat, c.toNat, px.toNat, py.toNat, ox.toNat, oy.toNat, h.toNat, g.toNat⟩
      (3 < i.toNat ∨ f.inRange = false →
        exec (.setFormat i r c px py ox oy h g) s = .next (s.answered 0x0020 body (refusal .badArgument))) ∧
      ∀ n : Fin 4, i.toNat = n.val → f.inRange = true →
        ((∃ e : Fin 32, s.series[e].state ≠ .undefined ∧ s.series[e].format = n) →
          exec (.setFormat i r c px py ox oy h g) s = .next (s.answered 0x0020 body (refusal .formatInUse))) ∧
        ((∀ e : Fin 32, s.series[e].state ≠ .undefined → s.series[e].format ≠ n) →
          (f.valid = false →
            exec (.setFormat i r c px py ox oy h g) s = .next (s.answered 0x0020 body (refusal .badFormat))) ∧
          (f.valid = true → exec (.setFormat i r c px py ox oy h g) s =
            .next (State.answered { s with formats := s.formats.set n (some f) } 0x0020 body
              (okWith [word (ceilDiv (f.rows * f.cols) 121), word (f.rows * f.cols - ceilDiv (f.rows * f.cols) 121)]))))) ∧
    ∀ i : Word,
      (3 < i.toNat → exec (.readFormat i) s = .next (s.answered 0x0021 [i] (refusal .badArgument))) ∧
      ∀ n : Fin 4, i.toNat = n.val →
        (s.formats[n] = none →
          exec (.readFormat i) s = .next (s.answered 0x0021 [i] (okWith (List.replicate 12 0)))) ∧
        ∀ f, s.formats[n] = some f →
          exec (.readFormat i) s = .next (s.answered 0x0021 [i] (okWith
            [1, word f.rows, word f.cols, word f.px, word f.py, word f.ox, word f.oy, word f.band, word f.gutter,
              word (ceilDiv (f.rows * f.cols) 121), word (f.rows * f.cols - ceilDiv (f.rows * f.cols) 121),
              if 2 ≤ f.cols ∧ 2 ≤ f.rows * f.cols - ceilDiv (f.rows * f.cols) 121 then 1 else 0]))

/-- A format is valid exactly when it passes the five tests of R28; a valid one keeps the title band and every cell at least
400 µm inside the sheet, and on it with any held offset, leaves a drawable area of at least 500 µm in each axis and at least one document cell; a format
that fails any test is refused as a whole. -/
def Obligations.ValidFormats : Prop :=
  ∀ f : Format,
    (f.valid = true ↔ (400 ≤ f.ox ∧ 400 ≤ f.oy) ∧ f.ox + f.cols * f.px + 400 ≤ 148000 ∧
      f.oy + f.band + f.rows * f.py + 400 ≤ 105000 ∧
      ((500 : Int) ≤ f.px - 2 * f.gutter ∧ (500 : Int) ≤ f.py - 2 * f.gutter) ∧ 2 ≤ f.rows * f.cols) ∧
    (f.valid = true →
      (∀ n < f.rows * f.cols,
        400 ≤ (f.cellOrigin n).1 ∧ (f.cellOrigin n).1 + f.px + 400 ≤ 148000 ∧
        400 + (f.band : Int) ≤ (f.cellOrigin n).2 ∧ (f.cellOrigin n).2 + f.py + 400 ≤ 105000 ∧
        ∀ dx dy : Int, dx.natAbs ≤ 400 → dy.natAbs ≤ 400 →
          0 ≤ (f.cellOrigin n).1 + dx ∧ (f.cellOrigin n).1 + dx + f.px ≤ 148000 ∧
          0 ≤ (f.cellOrigin n).2 + dy ∧ (f.cellOrigin n).2 + dy + f.py ≤ 105000) ∧
      500 ≤ f.drawableWidth 1 ∧ 500 ≤ f.drawableHeight ∧ 1 ≤ f.documentCells) ∧
    ∀ (i : Word) (s : State), f.valid = false →
      (setFormatOwner i f s).1 = s ∧ (setFormatOwner i f s).2.status ≠ .ok ∧ (setFormatOwner i f s).2.body = []

/-- Try Fit, on an IDLE port (R55; log entry 1): its tests, and the fit's eleven words, or OVERSIZE with the pitches of the
width tried last.

Which width and scale the fit takes, and when it is OVERSIZE (R50 to R52); the drawable area and the two pitches of every fit
are those of the width that it takes (R50). -/
def Obligations.FitsAndTryFit : Prop :=
  (∀ (i w h : Word) (s : State), s.port.execution = none →
     (3 < i.toNat ∨ w.toNat < 64 ∨ 8192 < w.toNat ∨ h.toNat < 64 ∨ 8192 < h.toNat →
       exec (.tryFit i w h) s = .next (s.answered 0x0022 [i, w, h] (refusal .badArgument))) ∧
     ∀ n : Fin 4, i.toNat = n.val → 64 ≤ w.toNat → w.toNat ≤ 8192 → 64 ≤ h.toNat → h.toNat ≤ 8192 →
       (s.formats[n] = none →
         exec (.tryFit i w h) s = .next (s.answered 0x0022 [i, w, h] (refusal .badFormat))) ∧
       ∀ f, s.formats[n] = some f →
         (∀ x, f.fit w.toNat h.toNat = .fits x →
           exec (.tryFit i w h) s = .next (s.answered 0x0022 [i, w, h] (okWith
             [word x.cells, word x.trial.aw, word x.trial.ah, word x.trial.sx, word x.trial.sy, word x.scale,
               word x.drawnWidth, word x.drawnHeight, word x.ox, word x.oy, if x.clamped then 1 else 0]))) ∧
         ∀ sx sy, f.fit w.toNat h.toNat = .oversize sx sy →
           exec (.tryFit i w h) s = .next (s.answered 0x0022 [i, w, h] ⟨.oversize, [word sx, word sy]⟩)) ∧
  (∀ (f : Format) (w h : Nat),
     let one := min ((f.px - 2 * f.gutter) * 4096 / w) ((f.py - 2 * f.gutter) * 4096 / h)
     let two := min ((2 * f.px - 2 * f.gutter) * 4096 / w) ((f.py - 2 * f.gutter) * 4096 / h)
     (∀ x, f.fit w h = .fits x → x.trial.aw = x.cells * f.px - 2 * f.gutter ∧ x.trial.ah = f.py - 2 * f.gutter ∧
       x.trial.sx = x.trial.aw * 4096 / w ∧ x.trial.sy = x.trial.ah * 4096 / h) ∧
     (∀ x, f.fit w h = .fits x →
       (x.cells = 1 ∧ 4096 ≤ one ∧ x.scale = min one 16384 ∧ (x.clamped = true ↔ 16384 < one)) ∨
       (x.cells = 2 ∧ one < 4096 ∧ f.doubleCapacity = true ∧ 4096 ≤ two ∧ x.scale = two ∧ x.clamped = false)) ∧
     ∀ sx sy, f.fit w h = .oversize sx sy →
       one < 4096 ∧ (f.doubleCapacity = true → two < 4096) ∧
       sx = ((if f.doubleCapacity then 2 else 1) * f.px - 2 * f.gutter) * 4096 / w ∧
       sy = (f.py - 2 * f.gutter) * 4096 / h)

/-- The drawn size and the centring of every fit in a valid format (R53): the four quantities, and the bounds that follow,
the gutter kept clear on every side and the odd micrometre on the right or lower side. -/
def Obligations.FitBounds : Prop :=
  ∀ (f : Format) (w h : Nat) (x : Fit), f.inRange = true → f.valid = true → 64 ≤ w → w ≤ 8192 → 64 ≤ h → h ≤ 8192 →
    f.fit w h = .fits x →
    x.drawnWidth = ceilDiv (w * x.scale) 4096 ∧ x.drawnHeight = ceilDiv (h * x.scale) 4096 ∧
    x.trial.aw = x.cells * f.px - 2 * f.gutter ∧ x.trial.ah = f.py - 2 * f.gutter ∧
    x.ox = f.gutter + (x.trial.aw - x.drawnWidth) / 2 ∧ x.oy = f.gutter + (x.trial.ah - x.drawnHeight) / 2 ∧
    x.scale ≤ x.trial.sx ∧ x.scale ≤ x.trial.sy ∧ w * x.scale ≤ x.trial.aw * 4096 ∧ h * x.scale ≤ x.trial.ah * 4096 ∧
    4096 ≤ x.scale ∧ x.scale ≤ 16384 ∧ x.drawnWidth ≤ x.trial.aw ∧ x.drawnHeight ≤ x.trial.ah ∧
    f.gutter ≤ x.ox ∧ x.ox + x.drawnWidth + f.gutter ≤ x.cells * f.px ∧
    f.gutter ≤ x.oy ∧ x.oy + x.drawnHeight + f.gutter ≤ f.py ∧
    x.ox ≤ x.cells * f.px - (x.ox + x.drawnWidth) ∧ x.cells * f.px - (x.ox + x.drawnWidth) ≤ x.ox + 1 ∧
    x.oy ≤ f.py - (x.oy + x.drawnHeight) ∧ f.py - (x.oy + x.drawnHeight) ≤ x.oy + 1

/-- Set Series, on an IDLE port (R33, R34; log entry 1): the tests in their order; then the entry is rewritten and ACTIVE,
the fiche sequence starting again at 1 for an UNDEFINED series and at a change of date code, which on an ACTIVE series is
a retry event.

These are the model's choices: only the template's characters up to its length are tested (log entry 22), and a Set Series
that defines an UNDEFINED series is no retry event, whatever its date code (log entry 26). The characters allowed in a
template are A to Z, 0 to 9, space, hyphen and full stop (section 2.2).

Read Series, on an IDLE port (R39, R193; log entry 1): its nineteen words. Beyond the template's length the text holds
characters of which the manual states nothing (log entry 12). -/
def Obligations.SetAndReadSeries : Prop :=
  (∀ ch : Byte, templateChar ch = true ↔
    (0x41 ≤ ch.toNat ∧ ch.toNat ≤ 0x5A) ∨ (0x30 ≤ ch.toNat ∧ ch.toNat ≤ 0x39) ∨ ch = 0x20 ∨ ch = 0x2D ∨ ch = 0x2E) ∧
  (∀ (s : State) (c : Fin 32),
    (∀ i, s.openSlot c = some i → s.slots[i].state = .opened ∧ s.slots[i].fiche.series = c) ∧
    (s.openSlot c = none → ∀ i : Fin 12, s.slots[i].state = .opened → s.slots[i].fiche.series ≠ c)) ∧
  (∀ (a b m n : Word) (text : Vector Word 7) (d : Word) (s : State), s.port.execution = none →
     let body := [a, b, m, n] ++ text.toList ++ [d]
     let bad := 31 < a.toNat ∨ 3 < b.toNat ∨ m = 0 ∨ 15 < m.toNat ∨ 65535 < d.toNat ∨ 28 < n.toNat ∨
       ∃ ch ∈ templateText n text, templateChar ch = false
     (bad → exec (.setSeries a b m n text d) s = .next (s.answered 0x0023 body (refusal .badArgument))) ∧
     ∀ (c : Fin 32) (i : Fin 4), a.toNat = c.val → b.toNat = i.val → ¬ bad →
       let busy := (∃ j : Fin 12, s.slots[j].state ≠ .free ∧ s.slots[j].fiche.series = c) ∨
         ∃ r ∈ s.records, r.series = c ∧ r.state ∈ [RecordState.receiving, .waiting, .retakeReceiving, .retakeWaiting]
       (s.series[c].state = .cutOff →
         exec (.setSeries a b m n text d) s = .next (s.answered 0x0023 body (refusal .seriesClosed))) ∧
       (s.series[c].state ≠ .cutOff → s.formats[i] = none →
         exec (.setSeries a b m n text d) s = .next (s.answered 0x0023 body (refusal .badFormat))) ∧
       (s.series[c].state = .active → s.formats[i] ≠ none → busy →
         exec (.setSeries a b m n text d) s = .next (s.answered 0x0023 body (refusal .seriesBusy))) ∧
       (s.series[c].state = .undefined ∨ (s.series[c].state = .active ∧ s.series[c].date ≠ d.toNat ∧ ¬ busy) →
         s.formats[i] ≠ none →
         exec (.setSeries a b m n text d) s = .next (State.answered
           { s with
             series := s.series.set c
               { state := .active, format := i, headMask := m.setWidth 4, template := templateText n text,
                 date := d.toNat, next := 1, exhausted := false }
             retryEvents := if s.series[c].state = .active then s.retryEvents ++ [.dateCodeChanged c]
               else s.retryEvents }
           0x0023 body (okWith []))) ∧
       (s.series[c].state = .active → s.series[c].date = d.toNat → ¬ busy → s.formats[i] ≠ none →
         exec (.setSeries a b m n text d) s = .next (State.answered
           { s with series := s.series.set c { s.series[c] with
               format := i, headMask := m.setWidth 4, template := templateText n text } }
           0x0023 body (okWith [])))) ∧
  (∀ (a : Word) (s : State), s.port.execution = none →
     (31 < a.toNat → exec (.readSeries a) s = .next (s.answered 0x0024 [a] (refusal .badArgument))) ∧
     ∀ c : Fin 32, a.toNat = c.val → s.series[c].template.length ≤ 28 →
       ∃ pad : Text, pad.length = 28 - s.series[c].template.length ∧
         (packText (s.series[c].template ++ pad)).length = 7 ∧
         exec (.readSeries a) s = .next (State.answered { s with freeCount := s.freeCount + 28 } 0x0024 [a] (okWith
           ([word (seriesStateCode s.series[c].state), word s.series[c].format.val, s.series[c].headMask.setWidth 32,
               word s.series[c].template.length] ++ packText (s.series[c].template ++ pad) ++
             [word s.series[c].date, word s.series[c].next, if s.series[c].exhausted then 1 else 0] ++
             (match s.openSlot c with | some i => [1, word i.val] | none => [0, 0]) ++
             [word (s.records.countP fun r => decide (r.series = c)),
               word (s.records.countP fun r => decide (r.series = c) &&
                 (decide (r.state = .receiving) || decide (r.state = .waiting))),
               word s.waiting[c].length]))))

/-- Clear Series and Reopen Series, on an IDLE port (R35, R37; log entry 1).

Cut Off Series, on an IDLE port (R36, R72; log entry 1): an ACTIVE series becomes CUT-OFF, and its OPEN fiche closes at
once when no record of it is pending. -/
def Obligations.ClearCutOffReopen : Prop :=
  (∀ (a d : Word) (s : State), s.port.execution = none →
     (31 < a.toNat → exec (.clearSeries a) s = .next (s.answered 0x0025 [a] (refusal .badArgument))) ∧
     (31 < a.toNat ∨ 65535 < d.toNat →
       exec (.reopenSeries a d) s = .next (s.answered 0x0027 [a, d] (refusal .badArgument))) ∧
     ∀ c : Fin 32, a.toNat = c.val →
       let held := (∃ r ∈ s.records, r.series = c) ∨
         ∃ j : Fin 12, s.slots[j].state ≠ .free ∧ s.slots[j].fiche.series = c
       (s.series[c].state = .undefined → exec (.clearSeries a) s = .next (s.answered 0x0025 [a] (okWith []))) ∧
       (s.series[c].state ≠ .undefined → held →
         exec (.clearSeries a) s = .next (s.answered 0x0025 [a] (refusal .seriesBusy))) ∧
       (s.series[c].state ≠ .undefined → ¬ held →
         exec (.clearSeries a) s = .next (State.answered
           { s with series := s.series.set c State.reset.series[c] } 0x0025 [a] (okWith []))) ∧
       (d.toNat ≤ 65535 →
         (s.series[c].state = .undefined →
           exec (.reopenSeries a d) s = .next (s.answered 0x0027 [a, d] (refusal .noSeries))) ∧
         (s.series[c].state = .active →
           exec (.reopenSeries a d) s = .next (s.answered 0x0027 [a, d] (refusal .seriesActive))) ∧
         (s.series[c].state = .cutOff →
           ((∃ j : Fin 12, s.slots[j].state = .opened ∧ s.slots[j].fiche.series = c) →
             exec (.reopenSeries a d) s = .next (s.answered 0x0027 [a, d] (refusal .seriesBusy))) ∧
           ((∀ j : Fin 12, s.slots[j].state = .opened → s.slots[j].fiche.series ≠ c) →
             exec (.reopenSeries a d) s = .next (State.answered
               { s with
                 series := s.series.set c { s.series[c] with
                   state := .active, date := d.toNat, next := 1, exhausted := false }
                 retryEvents := s.retryEvents ++ [.dateCodeChanged c] }
               0x0027 [a, d] (okWith [])))))) ∧
  (∀ (a : Word) (s : State), s.port.execution = none →
     (31 < a.toNat → exec (.cutOffSeries a) s = .next (s.answered 0x0026 [a] (refusal .badArgument))) ∧
     ∀ c : Fin 32, a.toNat = c.val →
       let changed : State := { s with series := s.series.set c { s.series[c] with state := .cutOff } }
       let waits := ∃ r ∈ s.records, r.series = c ∧ (r.state = .receiving ∨ r.state = .waiting)
       (s.series[c].state = .undefined →
         exec (.cutOffSeries a) s = .next (s.answered 0x0026 [a] (refusal .noSeries))) ∧
       (s.series[c].state = .cutOff → exec (.cutOffSeries a) s = .next (s.answered 0x0026 [a] (okWith []))) ∧
       (s.series[c].state = .active →
         (waits ∨ (∀ i : Fin 12, s.slots[i].state = .opened → s.slots[i].fiche.series ≠ c) →
           exec (.cutOffSeries a) s = .next (changed.answered 0x0026 [a] (okWith []))) ∧
         ∀ i : Fin 12, ¬ waits → s.slots[i].state = .opened → s.slots[i].fiche.series = c →
           (∀ j : Fin 12, s.slots[j].state = .opened → s.slots[j].fiche.series = c → j = i) →
           exec (.cutOffSeries a) s = .next ((changed.closeFiche i).answered 0x0026 [a] (okWith []))))

/-- A close trigger and the indexing test that it makes (R70, R72, R73, R80): an OPEN fiche becomes CLOSING while a cell is HELD;
otherwise its index is built, its INDEX entries join its head's queue at the end of class 4 in order of part, and it is
INDEXING. A fiche in any other state stays. The test made on a fiche that is CLOSING already does the same. The cut-off
condition of a series holds when it is CUT-OFF with no record pending, and then closes its OPEN fiche.

Close Fiche and Fiche Status, on an IDLE port (R71, R85; log entry 1): the fifteen words of a slot, among them its cells
counted by state, two counts to a word, and the number of its index entries while it is INDEXING; then the cells of the
row, three words each in the cell layout of section 11.6. -/
def Obligations.ClosingAndSlotRequests : Prop :=
  ((∀ (s : State) (c : Fin 32),
     let waits := ∃ r ∈ s.records, r.series = c ∧ (r.state = .receiving ∨ r.state = .waiting)
     (s.series[c].state ≠ .cutOff ∨ waits ∨
         (∀ i : Fin 12, s.slots[i].state = .opened → s.slots[i].fiche.series ≠ c) → s.judgeCutOff c = s) ∧
     ∀ i : Fin 12, s.series[c].state = .cutOff → ¬ waits → s.slots[i].state = .opened → s.slots[i].fiche.series = c →
       (∀ j : Fin 12, s.slots[j].state = .opened → s.slots[j].fiche.series = c → j = i) →
       s.judgeCutOff c = s.closeFiche i) ∧
   ∀ (s : State) (i : Fin 12),
     let holding := ∃ c ∈ s.slots[i].cells, c.state = .held
     let sorted := s.heads[headOf i].queue.Pairwise (fun a b => b.cls ≤ a.cls) ∧
       ∀ e ∈ s.heads[headOf i].queue, e.cls ≤ 4
     let indexed : State := { s with
       slots := s.slots.set i { s.slots[i] with state := .indexing, index := some (buildIndex s.slots[i].cells) }
       heads := s.heads.set (headOf i) { s.heads[headOf i] with
         queue := s.heads[headOf i].queue.filter (fun e => decide (e.cls = 4)) ++
           ((List.range (s.slotFormat i).indexCells).map fun p => .index i ((s.slotFormat i).documentCells + p) p) ++
           s.heads[headOf i].queue.filter (fun e => decide (e.cls < 4)) } }
     (s.slots[i].state ≠ .opened → s.closeFiche i = s) ∧
     (s.slots[i].state = .opened → holding →
       s.closeFiche i = { s with slots := s.slots.set i { s.slots[i] with state := .closing } }) ∧
     (s.slots[i].state = .opened → ¬ holding → sorted → s.closeFiche i = indexed) ∧
     (s.slots[i].state ≠ .closing ∨ holding → s.indexingTest i = s) ∧
     (s.slots[i].state = .closing → ¬ holding → sorted → s.indexingTest i = indexed)) ∧
  (∀ (a r c : Word) (s : State), s.port.execution = none →
     (11 < a.toNat →
       exec (.closeFiche a) s = .next (s.answered 0x0030 [a] (refusal .badArgument)) ∧
       exec (.ficheStatus a r c) s = .next (s.answered 0x0031 [a, r, c] (refusal .badArgument))) ∧
     ∀ i : Fin 12, a.toNat = i.val →
       (s.slots[i].state = .free →
         exec (.closeFiche a) s = .next (s.answered 0x0030 [a] (refusal .headState)) ∧
         exec (.ficheStatus a r c) s = .next (s.answered 0x0031 [a, r, c] (okWith (List.replicate 15 0)))) ∧
       (s.slots[i].state ≠ .free →
         exec (.closeFiche a) s = .next ((s.closeFiche i).answered 0x0030 [a]
           (okWith [word (slotStateCode (s.closeFiche i).slots[i].state)])) ∧
         ((s.slotFormat i).rows ≤ r.toNat ∨ (s.slotFormat i).cols ≤ c.toNat →
           exec (.ficheStatus a r c) s = .next (s.answered 0x0031 [a, r, c] (refusal .badArgument))) ∧
         (r.toNat < (s.slotFormat i).rows → c.toNat < (s.slotFormat i).cols →
           let count := fun st : CellState => s.slots[i].cells.countP fun x => decide (x.state = st)
           let two := fun m n : CellState => word (count m % 65536 + count n * 65536)
           ∃ cells : List Cell, cells.length ≤ 16 ∧
             exec (.ficheStatus a r c) s = .next (s.answered 0x0031 [a, r, c] (okWith
               ([word (slotStateCode s.slots[i].state), word s.slots[i].fiche.series.val, word s.slots[i].fiche.date,
                   word s.slots[i].fiche.sequence, word (i.val / 3), word s.slots[i].sheet, word s.slots[i].format.val,
                   word ((if s.slots[i].title then 1 else 0) + (if s.slots[i].redraw then 2 else 0)),
                   two .empty .held, two .exposed .superseded, two .void .spoiled, two .trailing .indexPending,
                   word (count .indexDone)] ++
                 (if s.slots[i].state = .indexing then [1, word (s.slots[i].index.getD []).length] else [0, 0]) ++
                 cells.flatMap cellWords))) ∧
             ∀ (j : Nat) (x : Cell), cells[j]? = some x ↔
               j < 16 ∧ c.toNat + j < (s.slotFormat i).cols ∧
                 s.slots[i].cells[r.toNat * (s.slotFormat i).cols + c.toNat + j]? = some x))) ∧
  ∀ x : Cell, x.width ≤ 2 → (∀ k ∈ x.key, k.date < 65536 ∧ k.account ≤ 999999999999 ∧ k.item < 65536) →
    let k := x.key.getD ⟨0, 0, 0⟩
    ∃ a b c, cellWords x = [a, b, c] ∧ (a.extractLsb' 16 16).toNat = k.date ∧
      (a.extractLsb' 8 8).toNat = k.account / 4294967296 ∧ (a.extractLsb' 4 4).toNat = cellStateCode x.state ∧
      (a.extractLsb' 2 2).toNat = x.width ∧ a.getLsbD 1 = x.dose ∧ a.getLsbD 0 = x.key.isSome ∧
      b.toNat = k.account % 4294967296 ∧ c.toNat = k.item

/-- The search for two cells (R58): the lowest-numbered pair of EMPTY document cells that lie in one row; a fit of two cells
is made only in a format with the double-cell capacity.

The search for one cell (R57): the lowest-numbered EMPTY document cell. -/
def Obligations.DoubleCellSearch : Prop :=
  (∀ (s : State) (i : Fin 12),
    let f := s.slotFormat i
    let empty := fun n => ∃ c, s.slots[i].cells[n]? = some c ∧ c.state = .empty
    let pair := fun n => empty n ∧ empty (n + 1) ∧ n / f.cols = (n + 1) / f.cols ∧ n + 1 < f.cellCount - f.indexCells
    f.valid = true →
      (∀ n, s.searchCell i 2 = some n ↔ pair n ∧ ∀ m < n, ¬ pair m) ∧
      (s.searchCell i 2 = none ↔ ∀ n, ¬ pair n)) ∧
  (∀ (s : State) (i : Fin 12),
    let single := fun n => n < (s.slotFormat i).documentCells ∧ ∃ c, s.slots[i].cells[n]? = some c ∧ c.state = .empty
    (∀ n, s.searchCell i 1 = some n ↔ single n ∧ ∀ m < n, ¬ single m) ∧
    (s.searchCell i 1 = none ↔ ∀ n, ¬ single n)) ∧
  ∀ (f : Format) (w h : Nat) (x : Fit), f.fit w h = .fits x → x.cells = 2 → f.doubleCapacity = true

/-- A grant in an OPEN fiche (R59, R60): the cell is HELD with the record's key, its second half TRAILING, the CELL entry joins
the head's queue in its class, and the fiche stays OPEN while it holds an EMPTY document cell and else is CLOSING.

Normal placement (R56, R61): a cell of the series' OPEN fiche; without a suitable one that fiche closes, and without an OPEN
fiche one is opened. Re-placement (R62) tries the spoiled cell's fiche first while it is OPEN.

The opening of a fiche for a request (R38, R43, R44, R46): refused to an UNDEFINED series, an exhausted sequence or no eligible
head; else the lowest FREE slot of the head chosen takes the series' next sequence and the head's next sheet, all its
document cells EMPTY, its TITLE entry joins the head's queue, and the request is granted cell 0 of the new fiche. -/
def Obligations.GrantAndOpening : Prop :=
  (∀ i : Fin 12, (headOf i).val = i.val / 3) ∧
  (∀ (i : Fin 12) (n c : Nat), (Entry.title i).cls = 4 ∧ (Entry.cell i n c).cls = c ∧ (Entry.index i n c).cls = 4 ∧
    (Entry.title i).slot = i ∧ (Entry.cell i n c).slot = i ∧ (Entry.index i n c).slot = i) ∧
  (∀ (cells : List Cell) (n : Nat), emptyAt cells n = true ↔ ∃ c, cells[n]? = some c ∧ c.state = .empty) ∧
  (∀ (s : State) (q : CellRequest) (i : Fin 12) (n : Nat) (o : Bool) (x : Cell), s.slots[i].state = .opened →
    s.slots[i].cells[n]? = some x →
    let lead := s.slots[i].cells.set n ⟨.held, some q.key, q.width, false⟩
    let cells := if q.width = 2 then lead.set (n + 1) ⟨.trailing, some q.key, 0, false⟩ else lead
    let room := ∃ m < (s.slotFormat i).documentCells, emptyAt cells m = true
    ∀ st : SlotState, (room → st = .opened) → (¬ room → st = .closing) →
      s.grantCell q i n o = ⟨{ s with
          slots := s.slots.set i { s.slots[i] with state := st, cells := cells }
          heads := s.heads.set (headOf i) { s.heads[headOf i] with
            queue := joinQueue s.heads[headOf i].queue (.cell i n q.cls) } },
        some ⟨i, ⟨s.slots[i].fiche, headOf i, s.slots[i].sheet, n, q.width⟩⟩, o⟩) ∧
  (∀ (queue : List Entry) (e : Entry), queue.Pairwise (fun a b => b.cls ≤ a.cls) →
    joinQueue queue e = queue.filter (fun x => decide (e.cls ≤ x.cls)) ++ [e] ++
      queue.filter (fun x => decide (x.cls < e.cls))) ∧
  (∀ (s : State) (q : CellRequest),
    let own := fun i : Fin 12 => s.slots[i].state = .opened ∧ s.slots[i].fiche.series = q.series
    ((∀ i, ¬ own i) → s.normalPlacement q = s.openAndGrant q) ∧
    ∀ i, own i → (∀ j, own j → j = i) →
      (∀ n, s.searchCell i q.width = some n → s.normalPlacement q = s.grantCell q i n false) ∧
      (s.searchCell i q.width = none → s.normalPlacement q = (s.closeFiche i).openAndGrant q)) ∧
  (∀ (s : State) (q : CellRequest) (i : Fin 12),
    (s.slots[i].state ≠ .opened ∨ s.searchCell i q.width = none → s.rePlacement i q = s.normalPlacement q) ∧
    ∀ n, s.slots[i].state = .opened → s.searchCell i q.width = some n →
      s.rePlacement i q = s.grantCell q i n false) ∧
  (∀ (s : State) (q : CellRequest),
    let e := s.series[q.series]
    (e.state = .undefined ∨ e.exhausted = true ∨ s.chooseHead q.series = none →
      s.openAndGrant q = ⟨s, none, false⟩) ∧
    ∀ h i, e.state ≠ .undefined → e.exhausted = false → s.chooseHead q.series = some h → headOf i = h →
      s.slots[i].state = .free → (∀ j, headOf j = h → s.slots[j].state = .free → i ≤ j) →
      (s.formatAt e.format).valid = true →
      q.width = 1 ∨ (q.width = 2 ∧ (s.formatAt e.format).doubleCapacity = true) →
      s.openAndGrant q = (s.openFiche q.series h i).grantCell q i 0 true) ∧
  ∀ (s : State) (c : Fin 32) (h : Fin 4) (i : Fin 12),
    let f := s.formatAt s.series[c].format
    ∃ t, s.openFiche c h i = t ∧
      t = { s with
        slots := s.slots.set i
          { state := .opened, fiche := ⟨c, s.series[c].date, s.series[c].next⟩, format := s.series[c].format,
            sheet := s.heads[h].nextSheet, title := false, redraw := false, cells := t.slots[i].cells, index := none }
        heads := s.heads.set h { s.heads[h] with
          nextSheet := s.heads[h].nextSheet + 1, queue := joinQueue s.heads[h].queue (.title i) }
        series := s.series.set c { s.series[c] with
          next := if s.series[c].next = 9999 then 9999 else s.series[c].next + 1
          exhausted := s.series[c].exhausted || decide (s.series[c].next = 9999) } } ∧
      (f.indexCells ≤ f.cellCount → t.slots[i].cells.length = f.cellCount) ∧
      (∀ n < f.documentCells, t.slots[i].cells[n]? = some ⟨.empty, none, 1, false⟩) ∧
      ∀ n < f.indexCells, t.slots[i].cells[f.documentCells + n]? = some ⟨.indexPending, none, 1, false⟩

/-- The head that carries a new fiche (R45): one that is eligible, and that the three tests put before every other eligible
head; none exactly when no head is eligible. -/
def Obligations.HeadChoice : Prop :=
  ∀ (s : State) (c : Fin 32),
    let can := fun h : Fin 4 => s.series[c].headMask.getLsbD h.val = true ∧
      (s.heads[h].state = .ready ∨ s.heads[h].state = .running ∨ s.heads[h].state = .stopping) ∧
      (∃ i : Fin 12, i.val / 3 = h.val ∧ s.slots[i].state = .free) ∧ s.heads[h].nextSheet < s.heads[h].sheets
    (∀ h, s.chooseHead c = some h ↔ can h ∧ ∀ g, can g → g ≠ h →
      (s.heads[h].dose.degraded = false ∧ s.heads[g].dose.degraded = true) ∨
      (s.heads[h].dose.degraded = s.heads[g].dose.degraded ∧
        (s.heads[h].queue.length < s.heads[g].queue.length ∨
          (s.heads[h].queue.length = s.heads[g].queue.length ∧ h < g)))) ∧
    (s.chooseHead c = none ↔ ∀ h, ¬ can h)

/-- The serving pass of a retry event (R15, R18, R47, R61, R72): SERVE_WAITING_LISTS takes the oldest event and serves the series' lists in
series order; each list is served from its front, a granted record leaving it, until a refusal or its end. That the pass
is a step of its own, which changes nothing when no retry event waits for one, is the model's reading (log entry 7).

The offer of a WAITING or RETAKE-WAITING record asks for a cell by normal placement, with its key, its series, the width in
its image part and its effective class. A refusal leaves every record and every waiting list as it was; a grant makes the
record RESERVED or RETAKE-RESERVED at the location granted, and the cut-off condition is judged where the pending count
changed or a fiche was opened for the request. -/
def Obligations.ServingPass : Prop :=
  (∀ s : State, s.retryEvents = [] → exec .serveWaitingLists s = .next s) ∧
  (∀ (s : State) (e : RetryEvent) (rest : List RetryEvent), s.retryEvents = e :: rest →
    exec .serveWaitingLists s =
      .next ((List.finRange 32).foldl State.serveList { s with retryEvents := rest })) ∧
  (∀ (s : State) (c : Fin 32), s.waiting[c] = [] → s.serveList c = s) ∧
  (∀ (s : State) (c : Fin 32) (k : Key) (ks : List Key) (r : Record), s.waiting[c] = k :: ks → s.findRecord k = some r →
    (∀ t, s.offer r = (t, false) → s.serveList c = t) ∧
    ∀ t, s.offer r = (t, true) → s.serveList c =
      ({ t with waiting := t.waiting.set c (t.waiting[c].filter fun x => decide (x ≠ k)) } : State).serveList c) ∧
  (∀ (r : Record) (m : Image), r.image = some m →
    r.request = { key := r.key, series := r.series, width := m.cells, cls := r.source.effectiveClass }) ∧
  ∀ (s : State) (r : Record), s.directoryOrdered → s.findRecord r.key = some r →
    r.state = .waiting ∨ r.state = .retakeWaiting →
    (∀ u o, s.normalPlacement r.request = ⟨u, none, o⟩ →
      s.offer r = (u, false) ∧ u.records = s.records ∧ u.waiting = s.waiting) ∧
    ∀ u v o, s.normalPlacement r.request = ⟨u, some v, o⟩ →
      let placed : State := { u with
        records := s.records.map fun x => if x.key = r.key then { x with
          reserved := some v, state := if r.state = .waiting then .reserved else .retakeReserved } else x }
      s.offer r = (if r.state = .waiting ∨ o = true then placed.judgeCutOff r.series else placed, true)

/-- The built index (section 4.3): its entries are the listed cells that carry a key, in ascending key order and ascending
cell number among equal keys; entry number i stands at line i mod 120 of part i div 120.

A line has 30 characters (R77): the key's numbers in 5, 12 and 5 decimal digits with leading zeros, the cell's grid
reference and the mark of its state, separated by single spaces. -/
def Obligations.IndexBuild : Prop :=
  ∀ (f : Format) (cells : List Cell),
    (buildIndex cells).Pairwise (fun a b => a.key.before b.key = true ∨ (a.key = b.key ∧ a.cell < b.cell)) ∧
    (∀ e, e ∈ buildIndex cells ↔ ∃ c, cells[e.cell]? = some c ∧ c.key = some e.key ∧ c.state = e.state ∧
      c.dose = e.dose ∧ c.width ≠ 0 ∧ c.state ∈ [CellState.exposed, .superseded, .void, .spoiled]) ∧
    (∀ e : IndexEntry, (e.line f).length = 30) ∧
    (∀ w n : Nat, (digits w n).length = w ∧
      ∀ j < w, (digits w n)[j]? = some (BitVec.ofNat 8 (48 + n / 10 ^ (w - 1 - j) % 10))) ∧
    (∀ e ∈ buildIndex cells, e.line f =
      digits 5 e.key.date ++ [0x20#8] ++ digits 12 e.key.account ++ [0x20#8] ++ digits 5 e.key.item ++ [0x20#8] ++
        [BitVec.ofNat 8 (0x41 + e.cell / f.cols)] ++ digits 2 (e.cell % f.cols + 1) ++
        [0x20#8, if e.state = .superseded then 0x53#8 else if e.state = .void then 0x56#8
          else if e.state = .spoiled then 0x58#8 else if e.dose then 0x44#8 else 0x20#8]) ∧
    (buildIndex cells ≠ [] → ∀ p j line, (indexPartLines f (buildIndex cells) p)[j]? = some line ↔
      j < 120 ∧ ∃ e, (buildIndex cells)[120 * p + j]? = some e ∧ line = e.line f) ∧
    (buildIndex cells = [] → ∀ p, indexPartLines f (buildIndex cells) p =
      if p = 0 then ["NO ENTRIES".toList.map fun ch => BitVec.ofNat 8 ch.toNat] else []) ∧
    (2 ≤ f.cellCount → (buildIndex cells).length ≤ f.documentCells →
      (buildIndex cells).length ≤ 120 * f.indexCells)

/-! ### Station intake and staging memory -/

/-- The requests on the Admission Table and the hold quantum, on an IDLE port (R111, R112, R138; log entry 1). The generation
advances by one modulo 256 on every Set Admission that is carried out.

Link Status and Staging Status, on an IDLE port (R127, R139; log entries 1, 14 and 16): they change no state but the
port's. Their words for DOWN and ACTIVE, IDLE and RECEIVING, CLEAR and ASSERTED are the model's reading (log entry 15). -/
def Obligations.IntakeRequests : Prop :=
  (∀ s : State, s.port.execution = none →
     (∀ a e l p g m : Word,
       let body := [a, e, l, p, g, m]
       let bad := 15 < a.toNat ∨ 1 < e.toNat ∨ 7 < l.toNat ∨ 255 < p.toNat ∨ 3 < g.toNat
       (bad → exec (.setAdmission a e l p g m) s = .next (s.answered 0x0040 body (refusal .badArgument))) ∧
       ∀ (i : Fin 16) (n : Fin 8), ¬ bad → a.toNat = i.val → l.toNat = n.val →
         let twin := e = 1 ∧ ∃ j : Fin 16, j ≠ i ∧ s.admission[j].enabled = true ∧ s.admission[j].link = n ∧
           s.admission[j].operator.toNat = p.toNat
         (twin → exec (.setAdmission a e l p g m) s = .next (s.answered 0x0040 body (refusal .duplicateEntry))) ∧
         (¬ twin → exec (.setAdmission a e l p g m) s = .next (State.answered
           { s with
             admission := s.admission.set i
               { enabled := decide (e = 1), link := n, operator := p.setWidth 8, floor := g.toNat, mask := m,
                 generation := s.admission[i].generation + 1 } }
           0x0040 body (okWith [word ((s.admission[i].generation.toNat + 1) % 256)])))) ∧
     (∀ a : Word,
       (15 < a.toNat → exec (.readAdmission a) s = .next (s.answered 0x0041 [a] (refusal .badArgument))) ∧
       ∀ i : Fin 16, a.toNat = i.val →
         exec (.readAdmission a) s = .next (s.answered 0x0041 [a] (okWith
           [if s.admission[i].enabled then 1 else 0, word s.admission[i].link.val, word s.admission[i].operator.toNat,
             word s.admission[i].floor, s.admission[i].mask, word s.admission[i].generation.toNat]))) ∧
     ∀ q : Word,
       (q.toNat < 10 ∨ 60000 < q.toNat →
         exec (.setHold q) s = .next (s.answered 0x0043 [q] (refusal .badArgument))) ∧
       (10 ≤ q.toNat → q.toNat ≤ 60000 →
         exec (.setHold q) s = .next (State.answered { s with holdQuantum := q.toNat } 0x0043 [q] (okWith [])))) ∧
  (∀ s : State, s.port.execution = none →
     (∀ a : Word,
       (7 < a.toNat → exec (.linkStatus a) s = .next (s.answered 0x0042 [a] (refusal .badArgument))) ∧
       ∀ l : Fin 8, a.toNat = l.val →
         let act : Word := if s.links[l].active then 1 else 0
         let runs : Word := if s.links[l].holdTimer = none then 0 else 1
         (s.links[l].reception = none → exec (.linkStatus a) s = .next (s.answered 0x0042 [a]
           (okWith [act, 0, 0, 0, 0, 0, 0, 0, 0, 0, 0, runs]))) ∧
         ∀ r, s.links[l].reception = some r → exec (.linkStatus a) s = .next (s.answered 0x0042 [a] (okWith
           ([act, 1, 1, word r.tag.toNat] ++ keyWords r.key ++
             [if r.retake then 1 else 0, word r.expected, word r.soFar, if r.withdrawn then 1 else 0, runs])))) ∧
     ∃ body, exec .stagingStatus s = .next (s.answered 0x0044 [] (okWith body)) ∧ body.length = 22 ∧
       body.take 2 = [word s.used.length, word (4096 - s.used.length)] ∧
       ((∀ b < 4096, b ∈ s.used) → (body.drop 2).take 2 = [0, 0]) ∧
       (∀ b < 4096, b ∉ s.used → (∀ a < b, a ∈ s.used) → (body.drop 2).take 2 = [1, word b]) ∧
       (body.drop 4).take 2 = [if s.holdAsserted then 1 else 0, word s.holdQuantum] ∧
       ∀ l : Fin 8, (body.drop (6 + 2 * l.val)).take 2 =
         [if s.links[l].holdTimer = none then 0 else 1, word s.links[l].quantum])

/-- The appearance of a carrier (R105, R137): the link becomes ACTIVE with its context IDLE, and is sent HOLD(Q) at once
while the hold is ASSERTED. A link that is ACTIVE has its carrier already (log entry 8).

The loss of a carrier (R13, R105, R108, R124, R137): the link is DOWN, its hold timer stopped, its frames dropped; a
reception ends without a frame and is counted; it reaches the directory unless it was withdrawn. A link that is DOWN has no
carrier to lose (log entry 8). The hold is judged on the blocks freed (R132, R133), and the cut-off condition on a record
that leaves (R72). -/
def Obligations.CarrierChanges : Prop :=
  (∀ (l : Fin 8) (s : State),
     (s.links[l].active = true → exec (.linkActive l) s = .next s) ∧
     (s.links[l].active = false →
       (s.holdAsserted = false → exec (.linkActive l) s =
         .next { s with links := s.links.set l { s.links[l] with active := true, reception := none, outbox := [] } }) ∧
       (s.holdAsserted = true → exec (.linkActive l) s =
         .next { s with links := s.links.set l { s.links[l] with
           active := true, reception := none, outbox := [.hold s.holdQuantum], holdTimer := some s.holdQuantum,
           quantum := s.holdQuantum } }))) ∧
  (∀ (l : Fin 8) (s : State),
     (s.links[l].active = false → exec (.linkDown l) s = .next s) ∧
     (s.links[l].active = true →
       let down : Link := { s.links[l] with active := false, holdTimer := none, quantum := 0, outbox := [] }
       (s.links[l].reception = none → exec (.linkDown l) s = .next { s with links := s.links.set l down }) ∧
       ∀ r, s.links[l].reception = some r →
         let ended : Link := { down.counted .carrierLostReceptions with reception := none }
         (r.withdrawn = true → exec (.linkDown l) s = .next { s with links := s.links.set l ended }) ∧
         (r.withdrawn = false → ∀ x, s.findRecord r.key = some x →
           (x.state = .receiving → exec (.linkDown l) s = .next ((State.judgeHold
             { s with
               links := s.links.set l ended
               used := s.used.filter fun b => !(blocksOf x.image).contains b
               records := s.records.filter fun y => decide (y.key ≠ r.key) }).judgeCutOff x.series)) ∧
           (x.state = .retakeReceiving → exec (.linkDown l) s = .next (State.judgeHold
             { s with
               links := s.links.set l ended
               used := s.used.filter fun b => !(blocksOf x.image).contains b
               records := s.records.map fun y =>
                 if y.key = r.key then { y with image := none, reserved := none, state := .exposed } else y })))))

/-- The frame check of R106: the register starts at FFFFH, and each byte enters most significant bit first under the generator
1021H.

Frames that are discarded without reply (R105 to R107; log entry 18): none is received on a DOWN link; one whose check
differs or whose length is above 4096 is counted in CHECK_ERRORS; one of a wrong length for its kind, or of a kind that a
station does not send, in STRAY_FRAMES; the kinds 01H, 03H and 04H have rows of their own beside BODY. Nothing else
changes. -/
def Obligations.DiscardedFrames : Prop :=
  (frameCheck [] = 0xFFFF#16 ∧ ∀ (bytes : List Byte) (b : Byte), frameCheck (bytes ++ [b]) =
    (List.range 8).foldl (fun (r : BitVec 16) j => (r <<< 1) ^^^ (if (r.msb ^^ b.getMsbD j) = true then 0x1021#16 else 0))
      (frameCheck bytes)) ∧
  (∀ k : Byte, kindHasOtherRow k = true ↔ k = 0x01 ∨ k = 0x03 ∨ k = 0x04) ∧
  ∀ (l : Fin 8) (k : Byte) (f : Frame) (s : State),
    (frameGood k f = true ↔ f.check = frameCheck (k :: bytesOf 2 f.length.toNat ++ f.payload) ∧ f.length.toNat ≤ 4096) ∧
    (s.links[l].active = false →
      exec (.submitHead l f) s = .next s ∧ exec (.body l k f) s = .next s ∧ exec (.submitEnd l f) s = .next s ∧
      exec (.probe l f) s = .next s) ∧
    (s.links[l].active = true →
      let bad : State := { s with links := s.links.set l (s.links[l].counted .checkErrors) }
      let stray : State := { s with links := s.links.set l (s.links[l].counted .strayFrames) }
      (frameGood 0x01 f = false → exec (.submitHead l f) s = .next bad) ∧
      (frameGood 0x01 f = true → f.length.toNat ≠ 19 → exec (.submitHead l f) s = .next stray) ∧
      (frameGood k f = false → exec (.body l k f) s = .next bad) ∧
      (frameGood k f = true → k ≠ 0x02 → kindHasOtherRow k = false → exec (.body l k f) s = .next stray) ∧
      (frameGood 0x03 f = false → exec (.submitEnd l f) s = .next bad) ∧
      (frameGood 0x03 f = true → f.length.toNat ≠ 4 → exec (.submitEnd l f) s = .next stray) ∧
      (frameGood 0x04 f = false → exec (.probe l f) s = .next bad) ∧
      (frameGood 0x04 f = true → f.length.toNat ≠ 0 → exec (.probe l f) s = .next stray))

/-- Checks 1 to 6 of a SUBMIT-HEAD in their order, and the claim that a head which passes them makes (R113, R116, R117).

The fields of the 19-byte payload (section 11.6): of byte 18 bit 0 alone is examined.

A SUBMIT-HEAD on an ACTIVE link (R107, R115, R117, R118): it is counted; a running reception ends first; then a head that
fails a check is refused with its tag and the cause, and one that passes begins a reception. -/
def Obligations.SubmitHeadFrames : Prop :=
  (∀ b : Vector Byte 19,
     let n := fun i : Fin 19 => b[i].toNat
     headFields b.toList =
       { tag := b[0] ++ b[1], operator := b[2]
         key := { date := n 3 * 256 + n 4
                  account := n 5 * 256 ^ 4 + n 6 * 256 ^ 3 + n 7 * 256 ^ 2 + n 8 * 256 + n 9
                  item := n 10 * 256 + n 11 }
         series := n 12, width := n 13 * 256 + n 14, height := n 15 * 256 + n 16, cls := n 17
         retake := b[18].getLsbD 0 }) ∧
  (∀ (l : Fin 8) (d : HeadFields) (s : State),
     let hit := fun i : Fin 16 => s.admission[i].enabled = true ∧ s.admission[i].link = l ∧
       s.admission[i].operator = d.operator
     ((∀ i, ¬ hit i) → s.checkHead l d = .error .unregistered) ∧
     ∀ i, hit i → (∀ j, hit j → j = i) →
       (32 ≤ d.series → s.checkHead l d = .error .noSeries) ∧
       ∀ c : Fin 32, d.series = c.val →
         let bad := d.width < 64 ∨ 8192 < d.width ∨ d.height < 64 ∨ 8192 < d.height ∨ 3 < d.cls ∨ d.key.account = 0 ∨
           999999999999 < d.key.account
         (s.series[c].state = .undefined → s.checkHead l d = .error .noSeries) ∧
         (s.series[c].state ≠ .undefined → s.admission[i].mask.getLsbD c.val = false →
           s.checkHead l d = .error .notPermitted) ∧
         (s.admission[i].mask.getLsbD c.val = true →
           (s.series[c].state = .cutOff → s.checkHead l d = .error .seriesClosed) ∧
           (s.series[c].state = .active →
             (bad → s.checkHead l d = .error .malformed) ∧
             (¬ bad →
               (∀ x y, (s.formatAt s.series[c].format).fit d.width d.height = .oversize x y →
                 s.checkHead l d = .error .oversize) ∧
               ∀ x, (s.formatAt s.series[c].format).fit d.width d.height = .fits x →
                 s.checkHead l d = .ok
                   { key := d.key, series := c, retake := d.retake
                     source := { entry := i, generation := s.admission[i].generation, tag := d.tag,
                                 submittedClass := d.cls, effectiveClass := max d.cls s.admission[i].floor }
                     width := d.width, height := d.height, fit := x })))) ∧
  (∀ (l : Fin 8) (f : Frame) (s : State), s.links[l].active = true → frameGood 0x01 f = true → f.length.toNat = 19 →
     let d := headFields f.payload
     let heard : Link := if s.holdAsserted then (s.links[l].counted .headsReceived).counted .headsDuringHold
       else s.links[l].counted .headsReceived
     let counted : State := { s with links := s.links.set l heard }
     (s.links[l].reception = none → exec (.submitHead l f) s = .next (counted.admitHead l d)) ∧
     ∀ r, s.links[l].reception = some r →
       exec (.submitHead l f) s = .next ((counted.endWithRefuse l r .abandoned).admitHead l d) ∧
       (counted.endWithRefuse l r .abandoned).links[l].reception = none) ∧
  ∀ (l : Fin 8) (d : HeadFields) (u : State), u.links[l].active = true →
    (∀ cause, (u.checkHead l d = .error cause ∨ ∃ c, u.checkHead l d = .ok c ∧ u.takeClaim c = .error cause) →
      ∃ refused : Link, u.admitHead l d = { u with links := u.links.set l refused } ∧
        { refused with outbox := u.links[l].outbox, counters := u.links[l].counters } = u.links[l] ∧
        refused.outbox = u.links[l].outbox ++ [.refuse d.tag cause] ∧
        ∀ n : Fin 11, refused.counters[n] =
          if n = linkCounterIndex .refused ∨
              (n = linkCounterIndex .refusedForSpace ∧ (cause = .directoryFull ∨ cause = .noRoom)) then
            countUp u.links[l].counters[n]
          else u.links[l].counters[n]) ∧
    ∀ c t, u.checkHead l d = .ok c → u.takeClaim c = .ok t →
      u.admitHead l d = { t with links := t.links.set l { t.links[l] with
        reception := some { tag := d.tag, key := d.key, retake := d.retake, expected := ceilDiv d.width 8 * d.height,
                            soFar := 0, check := 0xFFFFFFFF, withdrawn := false, timer := 2000 } } }

/-- Checks 7 to 9, the directory's claim (R10 to R12, R117): which cause refuses it, and, where none does, the lowest-numbered
free blocks given in ascending order (R118, R130) and the record created, or moved to RETAKE-RECEIVING with its current
location and superseded list kept. The hold is judged on the blocks used then (R133, R134); every other part stays. -/
def Obligations.ClaimOutcomes : Prop :=
  ∀ (c : Claim) (s : State),
    let need := blockNeed c.width c.height
    let fullPool := 4096 - s.used.length < need
    let image := fun blocks : List Nat => ({
      width := c.width, height := c.height, cells := c.fit.cells, scale := c.fit.scale
      drawnWidth := c.fit.drawnWidth, drawnHeight := c.fit.drawnHeight, blocks := blocks } : Image)
    let gives := fun (blocks : List Nat) (t : State) =>
      blocks.length = need ∧ blocks.Pairwise (· < ·) ∧ (∀ b ∈ blocks, b < 4096 ∧ b ∉ s.used) ∧
      (∀ b < 4096, b ∉ s.used → b ∉ blocks → ∀ x ∈ blocks, x < b) ∧
      (∀ b, b ∈ t.used ↔ b ∈ s.used ∨ b ∈ blocks) ∧ (s.poolOrdered → t.poolOrdered) ∧
      t = State.judgeHold { s with records := t.records, used := t.used }
    (c.retake = false →
      (s.findRecord c.key ≠ none → s.takeClaim c = .error .duplicateKey) ∧
      (s.findRecord c.key = none → 16384 ≤ s.records.length → s.takeClaim c = .error .directoryFull) ∧
      (s.findRecord c.key = none → s.records.length < 16384 → fullPool → s.takeClaim c = .error .noRoom) ∧
      (s.findRecord c.key = none → s.records.length < 16384 → ¬ fullPool → s.directoryOrdered →
        ∃ t blocks, s.takeClaim c = .ok t ∧ gives blocks t ∧ t.directoryOrdered ∧
          ∀ x, x ∈ t.records ↔ x ∈ s.records ∨ x =
            { key := c.key, series := c.series, state := .receiving, source := c.source, image := some (image blocks)
              reserved := none, current := none, superseded := [] })) ∧
    (c.retake = true →
      (s.findRecord c.key = none → s.takeClaim c = .error .noSuchDocument) ∧
      ∀ r, s.findRecord c.key = some r →
        (r.series ≠ c.series → s.takeClaim c = .error .seriesMismatch) ∧
        (r.series = c.series →
          (r.state ∈ [RecordState.receiving, .waiting, .reserved, .exposing] → s.takeClaim c = .error .notExposed) ∧
          (r.state.retake = true → s.takeClaim c = .error .retakePending) ∧
          (r.state = .exposed →
            (3 ≤ r.superseded.length → s.takeClaim c = .error .retakeLimit) ∧
            (r.superseded.length < 3 → fullPool → s.takeClaim c = .error .noRoom) ∧
            (r.superseded.length < 3 → ¬ fullPool →
              ∃ t blocks, s.takeClaim c = .ok t ∧ gives blocks t ∧
                t.records = s.records.map fun x => if x.key = c.key then { x with
                  state := .retakeReceiving, source := c.source, image := some (image blocks) } else x))))

/-- A BODY frame on an ACTIVE link (R119, R122, R123): within the expected count its bytes are stored from the reception's
position on in the record's blocks, in list order, and every other byte of staging memory reads as before; beyond the count
the reception ends with OVERLENGTH; a withdrawn reception discards it; with no reception it is stray.

The running check of R114 advances over each byte least significant bit first under the generator 04C11DB7H reflected. -/
def Obligations.BodyFrames : Prop :=
  (∀ r : BitVec 32, checkAdvance r [] = r ∧ ∀ (bytes : List Byte) (b : Byte), checkAdvance r (bytes ++ [b]) =
    (List.range 8).foldl
      (fun (x : BitVec 32) j => (x >>> 1) ^^^ (if (x.getLsbD 0 ^^ b.getLsbD j) = true then (0x04C11DB7#32).reverse else 0))
      (checkAdvance r bytes)) ∧
  (∀ (blocks : List Nat) (b a : Nat), bodyAddress blocks b = some a ↔
    ∃ block, blocks[b / 65536]? = some block ∧ a = block * 65536 + b % 65536) ∧
  (∀ (s : State) (k : Key) (x : Record), s.findRecord k = some x → s.receptionBlocks k = blocksOf x.image) ∧
  ∀ (l : Fin 8) (f : Frame) (s : State), s.links[l].active = true → frameGood 0x02 f = true →
    (s.links[l].reception = none → exec (.body l 0x02 f) s =
      .next { s with links := s.links.set l (s.links[l].counted .strayFrames) }) ∧
    ∀ r, s.links[l].reception = some r →
      (r.withdrawn = true → exec (.body l 0x02 f) s = .next s) ∧
      (r.withdrawn = false → r.expected < r.soFar + f.payload.length →
        exec (.body l 0x02 f) s = .next (s.endWithRefuse l r .overlength)) ∧
      (r.withdrawn = false → r.soFar + f.payload.length ≤ r.expected →
        let blocks := s.receptionBlocks r.key
        ∃ mem, exec (.body l 0x02 f) s = .next { s with
            mem := mem
            links := s.links.set l { s.links[l] with reception := some { r with
              soFar := r.soFar + f.payload.length, check := checkAdvance r.check f.payload, timer := 2000 } } } ∧
          (∀ a, (∀ j < f.payload.length, bodyAddress blocks (r.soFar + j) ≠ some a) → readByte mem a = readByte s.mem a) ∧
          (s.memoryCanonical → blocks.Nodup → ∀ (j : Nat) (h : j < f.payload.length) (a : Nat),
            bodyAddress blocks (r.soFar + j) = some a → readByte mem a = f.payload[j]))

/-- A SUBMIT-END on an ACTIVE link (R120, R122, R123): stray with no reception; WITHDRAWN, SHORT_BODY or BODY_CHECK by the first
test that fails; else ACCEPT is sent and counted, the context is IDLE, and placement is attempted for the record (R14). A
record joins its list when others wait and the list is served; with an empty list it is offered at once, and holds the
cell granted or joins the list. -/
def Obligations.SubmitEndOutcomes : Prop :=
  ∀ (l : Fin 8) (f : Frame) (s : State), s.links[l].active = true → frameGood 0x03 f = true → f.length.toNat = 4 →
    (s.links[l].reception = none → exec (.submitEnd l f) s =
      .next { s with links := s.links.set l (s.links[l].counted .strayFrames) }) ∧
    ∀ r, s.links[l].reception = some r →
      (r.withdrawn = true → exec (.submitEnd l f) s = .next (s.endWithRefuse l r .withdrawn)) ∧
      (r.withdrawn = false → r.soFar < r.expected →
        exec (.submitEnd l f) s = .next (s.endWithRefuse l r .shortBody)) ∧
      (r.withdrawn = false → r.expected ≤ r.soFar → BitVec.ofNat 32 (numberOf f.payload) ≠ ~~~r.check →
        exec (.submitEnd l f) s = .next (s.endWithRefuse l r .bodyCheck)) ∧
      (r.withdrawn = false → r.expected ≤ r.soFar → BitVec.ofNat 32 (numberOf f.payload) = ~~~r.check →
        let ended : Link := { s.links[l].counted .accepted with
          reception := none, outbox := s.links[l].outbox ++ [.accept r.tag r.key] }
        let settled : State := { s with links := s.links.set l ended }
        (∃ t, exec (.submitEnd l f) s = .next t ∧ t.links = settled.links ∧ t.port = s.port ∧ t.mem = s.mem ∧
          t.used = s.used ∧ t.holdAsserted = s.holdAsserted ∧ t.holdQuantum = s.holdQuantum ∧
          t.admission = s.admission ∧ t.formats = s.formats ∧ t.retryEvents = s.retryEvents ∧ t.pending = s.pending ∧
          t.freeCount = s.freeCount) ∧
        ∀ x, s.directoryOrdered → s.findRecord r.key = some x → x.state = .receiving ∨ x.state = .retakeReceiving →
          let waits : RecordState := if x.state = .receiving then .waiting else .retakeWaiting
          let holds : RecordState := if x.state = .receiving then .reserved else .retakeReserved
          let received : State := { settled with
            records := s.records.map fun y => if y.key = r.key then { y with state := waits } else y }
          let placed := fun (u : State) (v : Reserved) => ({ u with
            records := u.records.map fun y =>
              if y.key = r.key then { y with state := holds, reserved := some v } else y } : State)
          (s.waiting[x.series] ≠ [] → exec (.submitEnd l f) s = .next (State.serveList
            { received with waiting := s.waiting.set x.series (s.waiting[x.series] ++ [r.key]) } x.series)) ∧
          (s.waiting[x.series] = [] →
            (∀ u o, received.normalPlacement { x with state := waits }.request = ⟨u, none, o⟩ →
              exec (.submitEnd l f) s = .next { u with waiting := s.waiting.set x.series [r.key] }) ∧
            ∀ u v o, received.normalPlacement { x with state := waits }.request = ⟨u, some v, o⟩ →
              (x.state = .receiving ∨ o = true →
                exec (.submitEnd l f) s = .next ((placed u v).judgeCutOff x.series)) ∧
              (x.state = .retakeReceiving → o = false → exec (.submitEnd l f) s = .next (placed u v))))

/-- The ends of a reception that send a REFUSE (R13, R115, R119 to R122): a withdrawn one is answered WITHDRAWN and reaches
nothing else; another is refused with its cause, its record leaves the directory or returns to EXPOSED, and its blocks are
free. The hold is judged on the blocks freed (R132, R133), and the cut-off condition on a record that leaves (R72). The
cause WITHDRAWN is for a withdrawn reception alone. The
reception timer's expiry is one of them; the timer of an IDLE context does not expire (log entry 8). -/
def Obligations.ReceptionEndings : Prop :=
  ∀ (l : Fin 8) (s : State),
    (s.links[l].reception = none → exec (.receptionTimerExpiry l) s = .next s) ∧
    ∀ r, s.links[l].reception = some r → s.links[l].active = true →
      exec (.receptionTimerExpiry l) s = .next (s.endWithRefuse l r .timeout) ∧
      ∀ cause ∈ [Cause.abandoned, .overlength, .shortBody, .bodyCheck, .timeout, .withdrawn],
        let ended := fun said : Cause => ({ s.links[l].counted .refused with
          reception := none, outbox := s.links[l].outbox ++ [.refuse r.tag said] } : Link)
        (r.withdrawn = true → s.endWithRefuse l r cause = { s with links := s.links.set l (ended .withdrawn) }) ∧
        (r.withdrawn = false → cause ≠ .withdrawn → ∀ x, s.findRecord r.key = some x →
          (x.state = .receiving → s.endWithRefuse l r cause = (State.judgeHold
            { s with
              links := s.links.set l (ended cause)
              used := s.used.filter fun b => !(blocksOf x.image).contains b
              records := s.records.filter fun y => decide (y.key ≠ r.key) }).judgeCutOff x.series) ∧
          (x.state = .retakeReceiving → s.endWithRefuse l r cause = State.judgeHold
            { s with
              links := s.links.set l (ended cause)
              used := s.used.filter fun b => !(blocksOf x.image).contains b
              records := s.records.map fun y =>
                if y.key = r.key then { y with image := none, reserved := none, state := .exposed } else y }))

/-- A PROBE on an ACTIVE link (R109): one PROBE-REPLY of 15 bytes on that link, with the reception's fields while it is
RECEIVING; of an IDLE context the manual states none of them (log entry 12). The withdrawn flag's byte, 1 when set and 0 when
clear, is the model's reading (log entry 15). Only the model's counter of free values moves beside it. -/
def Obligations.ProbeReplies : Prop :=
  ∀ (l : Fin 8) (f : Frame) (s : State), s.links[l].active = true → frameGood 0x04 f = true → f.length.toNat = 0 →
    ∃ p : ProbeReply,
      exec (.probe l f) s = .next { s with
        freeCount := s.freeCount + 4
        links := s.links.set l { s.links[l] with outbox := s.links[l].outbox ++ [.probeReply p] } } ∧
      (outPayload (.probeReply p)).length = 15 ∧ p.link = l ∧ p.quantum = s.links[l].quantum ∧
      p.receiving = s.links[l].reception.isSome ∧
      ∀ r, s.links[l].reception = some r → p.tag = r.tag ∧ p.withdrawn = (if r.withdrawn then 1 else 0) ∧
        p.expected = BitVec.ofNat 32 r.expected ∧ p.soFar = BitVec.ofNat 32 r.soFar

/-- The hold timers (R133 to R136): an expiry during the hold sends HOLD(Q) again and loads the timer with the quantum then in
force, and a stopped timer does not expire (log entry 8); at 3584 used blocks the hold becomes ASSERTED with HOLD(Q) on every
ACTIVE link, at 3072 it becomes CLEAR with HOLD(0) on every link whose timer runs; between them it stays.

Allocation and release of blocks (R130, R132): the lowest-numbered free blocks in ascending order, as many as asked for, or
none at all when the free set falls short; a release frees exactly the blocks of the list. Either changes the used blocks
alone and then judges the hold (R133). -/
def Obligations.HoldsAndBlocks : Prop :=
  ((∀ (l : Fin 8) (s : State),
     (s.links[l].holdTimer = none → exec (.holdTimerExpiry l) s = .next s) ∧
     (s.links[l].holdTimer ≠ none → s.holdAsserted = true → s.links[l].active = true →
       exec (.holdTimerExpiry l) s = .next { s with links := s.links.set l { s.links[l] with
         outbox := s.links[l].outbox ++ [.hold s.holdQuantum], holdTimer := some s.holdQuantum,
         quantum := s.holdQuantum } })) ∧
   ∀ s : State,
     (s.holdAsserted = false → s.used.length < 3584 → s.judgeHold = s) ∧
     (s.holdAsserted = true → 3072 < s.used.length → s.judgeHold = s) ∧
     (s.holdAsserted = false → 3584 ≤ s.used.length →
       s.judgeHold = { s with
         holdAsserted := true
         port := { s.port with changes := s.port.changes ||| 1#21 <<< 16 }
         links := Vector.ofFn fun l => if s.links[l].active then { s.links[l] with
           outbox := s.links[l].outbox ++ [.hold s.holdQuantum], holdTimer := some s.holdQuantum,
           quantum := s.holdQuantum } else s.links[l] }) ∧
     (s.holdAsserted = true → s.used.length ≤ 3072 →
       s.judgeHold = { s with
         holdAsserted := false
         port := { s.port with changes := s.port.changes ||| 1#21 <<< 16 }
         links := Vector.ofFn fun l => if s.links[l].holdTimer = none then s.links[l] else { s.links[l] with
           outbox := if s.links[l].active then s.links[l].outbox ++ [.hold 0] else s.links[l].outbox
           holdTimer := none, quantum := 0 } })) ∧
  (∀ s : State, s.poolOrdered →
     (∀ need, 4096 - s.used.length < need → s.allocate need = none) ∧
     (∀ need, need ≤ 4096 - s.used.length → ∃ blocks t, s.allocate need = some (blocks, t) ∧
       blocks.length = need ∧ blocks.Pairwise (· < ·) ∧ (∀ b ∈ blocks, b < 4096 ∧ b ∉ s.used) ∧
       (∀ b < 4096, b ∉ s.used → b ∉ blocks → ∀ x ∈ blocks, x < b) ∧
       t.poolOrdered ∧ (∀ b, b ∈ t.used ↔ b ∈ s.used ∨ b ∈ blocks) ∧ t.used.length = s.used.length + need ∧
       t = State.judgeHold { s with used := t.used }) ∧
     ∀ blocks, (s.release blocks).poolOrdered ∧ (∀ b, b ∈ (s.release blocks).used ↔ b ∈ s.used ∧ b ∉ blocks) ∧
       s.release blocks = State.judgeHold { s with used := s.used.filter fun b => !blocks.contains b })

/-- The block need of an image (R129): its formula, its range for W and H from 64 to 8192, and the manual's table. -/
def Obligations.BlockNeed : Prop :=
  (∀ w h, blockNeed w h = ((w + 7) / 8 * h + 65535) / 65536) ∧
  (∀ w h, 64 ≤ w → w ≤ 8192 → 64 ≤ h → h ≤ 8192 → 1 ≤ blockNeed w h ∧ blockNeed w h ≤ 128) ∧
  (ceilDiv 64 8 * 64 = 512 ∧ ceilDiv 8192 8 * 8192 = 8388608 ∧ ceilDiv 2480 8 * 3508 = 1087480 ∧
    ceilDiv 1728 8 * 2200 = 475200 ∧ ceilDiv 1200 8 * 560 = 84000 ∧ ceilDiv 8000 8 * 2000 = 2000000) ∧
  blockNeed 64 64 = 1 ∧ blockNeed 8192 8192 = 128 ∧ blockNeed 2480 3508 = 17 ∧ blockNeed 1728 2200 = 8 ∧
  blockNeed 1200 560 = 2 ∧ blockNeed 8000 2000 = 31

/-! ### Exposure heads -/

/-- Load Roll and Unload Roll, on an IDLE port (R142, R143, R188; log entry 1): a roll is loaded in NO-ROLL alone, puts the
tracker in ACQUIRE and is a retry event; it is unloaded in READY or FAULT with the head's three slots FREE.

Head Start, Head Stop and Head Reset, on an IDLE port, by the head state (R144 to R146, R170, R188; log entry 1). The take
that may follow a start is a step of its own (log entry 7). -/
def Obligations.HeadControlRequests : Prop :=
  (∀ s : State, s.port.execution = none →
     (∀ a n c m : Word,
       let bad := 3 < a.toNat ∨ n = 0 ∨ 250 < n.toNat ∨ 65535 < c.toNat ∨ 1 < m.toNat
       (bad → exec (.loadRoll a n c m) s = .next (s.answered 0x0050 [a, n, c, m] (refusal .badArgument))) ∧
       ∀ h : Fin 4, ¬ bad → a.toNat = h.val →
         (s.heads[h].state ≠ .noRoll →
           exec (.loadRoll a n c m) s = .next (s.answered 0x0050 [a, n, c, m] (refusal .headState))) ∧
         (s.heads[h].state = .noRoll → exec (.loadRoll a n c m) s = .next (State.answered
           { s with
             heads := s.heads.set h { s.heads[h] with
               sheets := n.toNat, firstCode := c.setWidth 16, coded := decide (m = 1), nextSheet := 0,
               stageSheet := none, state := .ready,
               tracker := { s.heads[h].tracker with locked := false, errors := 0, run := none } }
             retryEvents := s.retryEvents ++ [.rollLoaded h]
             port := { s.port with changes := if s.heads[h].tracker.locked then
               s.port.changes ||| 1#21 <<< (4 * h.val + 2) else s.port.changes } }
           0x0050 [a, n, c, m] (okWith [])))) ∧
     ∀ a : Word,
       (3 < a.toNat → exec (.unloadRoll a) s = .next (s.answered 0x0051 [a] (refusal .badArgument))) ∧
       ∀ h : Fin 4, a.toNat = h.val →
         (s.heads[h].state ∈ [HeadState.noRoll, .running, .stopping] →
           exec (.unloadRoll a) s = .next (s.answered 0x0051 [a] (refusal .headState))) ∧
         (s.heads[h].state = .ready ∨ s.heads[h].state = .fault →
           ((∃ i : Fin 12, i.val / 3 = h.val ∧ s.slots[i].state ≠ .free) →
             exec (.unloadRoll a) s = .next (s.answered 0x0051 [a] (refusal .ficheOpen))) ∧
           ((∀ i : Fin 12, i.val / 3 = h.val → s.slots[i].state = .free) →
             exec (.unloadRoll a) s = .next (State.answered
               { s with
                 heads := s.heads.set h { s.heads[h] with
                   state := .noRoll, faultKind := none, sheets := 0, firstCode := 0, coded := false, nextSheet := 0,
                   stageSheet := none }
                 port := { s.port with changes := if s.heads[h].state = .fault then
                   s.port.changes ||| 1#21 <<< (4 * h.val) else s.port.changes } }
               0x0051 [a] (okWith []))))) ∧
  (∀ (a : Word) (s : State), s.port.execution = none →
     (3 < a.toNat →
       exec (.headStart a) s = .next (s.answered 0x0052 [a] (refusal .badArgument)) ∧
       exec (.headStop a) s = .next (s.answered 0x0053 [a] (refusal .badArgument)) ∧
       exec (.headReset a) s = .next (s.answered 0x0054 [a] (refusal .badArgument))) ∧
     ∀ h : Fin 4, a.toNat = h.val →
       let with' := fun k : Head => ({ s with heads := s.heads.set h k } : State)
       (s.heads[h].state = .fault ∨ s.heads[h].state = .noRoll →
         exec (.headStart a) s = .next (s.answered 0x0052 [a] (refusal .headState)) ∧
         exec (.headStop a) s = .next (s.answered 0x0053 [a] (refusal .headState))) ∧
       (s.heads[h].state = .ready ∨ s.heads[h].state = .stopping →
         exec (.headStart a) s =
           .next ((with' { s.heads[h] with state := .running }).answered 0x0052 [a] (okWith [])) ∧
         exec (.headStop a) s = .next (s.answered 0x0053 [a] (okWith []))) ∧
       (s.heads[h].state = .running →
         exec (.headStart a) s = .next (s.answered 0x0052 [a] (okWith [])) ∧
         (s.heads[h].inFlight ≠ none → exec (.headStop a) s =
           .next ((with' { s.heads[h] with state := .stopping }).answered 0x0053 [a] (okWith []))) ∧
         (s.heads[h].inFlight = none → exec (.headStop a) s =
           .next ((with' { s.heads[h] with state := .ready }).answered 0x0053 [a] (okWith [])))) ∧
       (s.heads[h].state ∈ [HeadState.running, .stopping, .noRoll] →
         exec (.headReset a) s = .next (s.answered 0x0054 [a] (refusal .headState))) ∧
       (s.heads[h].state = .ready ∨ s.heads[h].state = .fault →
         exec (.headReset a) s = .next (State.answered
           { s with
             heads := s.heads.set h { s.heads[h] with
               state := .ready, faultKind := none,
               tracker := { s.heads[h].tracker with locked := false, errors := 0, run := none } }
             retryEvents := if s.heads[h].state = .fault then s.retryEvents ++ [.faultLeft h] else s.retryEvents
             port := { s.port with changes := s.port.changes |||
               (if s.heads[h].tracker.locked then 1#21 <<< (4 * h.val + 2) else 0) |||
               (if s.heads[h].state = .fault then 1#21 <<< (4 * h.val) else 0) } }
           0x0054 [a] (okWith []))))

/-- Head Status, Tracker Status and Dose Status, on an IDLE port (R158, R168, R182; log entries 1, 14, 15 and 17): they change
no state but the port's. The cell number of a TITLE entry in flight is a free value, and the model's counter of them moves.

Set Tracker and Set Dose, on an IDLE port, in any head state (R168, R179; log entry 1): the hold-lock option, or target and
threshold, and nothing else of the tracker or the monitor. -/
def Obligations.HeadReportsAndSettings : Prop :=
  (∀ (a : Word) (s : State), s.port.execution = none →
     (3 < a.toNat →
       exec (.headStatus a) s = .next (s.answered 0x0055 [a] (refusal .badArgument)) ∧
       exec (.trackerStatus a) s = .next (s.answered 0x0057 [a] (refusal .badArgument)) ∧
       exec (.doseStatus a) s = .next (s.answered 0x0059 [a] (refusal .badArgument))) ∧
     ∀ h : Fin 4, a.toNat = h.val →
       let k := s.heads[h]
       let tracker : List Word :=
         [if k.tracker.locked then 1 else 0, BitVec.ofInt 32 k.tracker.dx, BitVec.ofInt 32 k.tracker.dy]
       exec (.headStatus a) s = .next (State.answered { s with freeCount := s.freeCount + 1 } 0x0055 [a] (okWith
         ([word (headStateCode k.state), word (faultKindCode k.faultKind), word k.sheets, word k.firstCode.toNat,
             if k.coded then 1 else 0, word k.nextSheet] ++
           (match k.stageSheet with | some n => [1, word n] | none => [0, 0]) ++
           [word k.queue.length, word (k.queue.countP fun e => decide (e.cls = 0)),
             word (k.queue.countP fun e => decide (e.cls = 1)), word (k.queue.countP fun e => decide (e.cls = 2)),
             word (k.queue.countP fun e => decide (e.cls = 3)), word (k.queue.countP fun e => decide (e.cls = 4))] ++
           (match k.inFlight with
             | some e => [1, word (entryKindCode e.entry), word e.entry.slot.val,
                 match e.entry with
                 | .title _ => Config.freeWord s.freeCount
                 | .cell _ n _ => word n
                 | .index _ n _ => word n,
                 word e.entry.cls, word (phaseCode e.phase)]
             | none => [0, 0, 0, 0, 0, 0]) ++
           tracker ++ [if k.dose.degraded then 1 else 0]))) ∧
       (∃ taken, exec (.trackerStatus a) s = .next (s.answered 0x0057 [a] (okWith
           (tracker ++ [word k.tracker.errors, if k.tracker.holdLock then 1 else 0] ++ taken))) ∧
         (∀ e r, k.inFlight = some ⟨e, .acquiring⟩ → k.tracker.run = some r → taken = [1, word r.taken]) ∧
         ((∀ e, k.inFlight ≠ some ⟨e, .acquiring⟩) → taken = [0, 0])) ∧
       exec (.doseStatus a) s = .next (s.answered 0x0059 [a] (okWith
         [word k.dose.target, word k.dose.threshold, word k.dose.position, word k.dose.deviations,
           if k.dose.degraded then 1 else 0, word k.dose.last]))) ∧
  (∀ s : State, s.port.execution = none →
     (∀ a o : Word,
       (3 < a.toNat ∨ 1 < o.toNat →
         exec (.setTracker a o) s = .next (s.answered 0x0056 [a, o] (refusal .badArgument))) ∧
       ∀ h : Fin 4, a.toNat = h.val → o.toNat ≤ 1 →
         exec (.setTracker a o) s = .next (State.answered
           { s with
             heads := s.heads.set h { s.heads[h] with
               tracker := { s.heads[h].tracker with holdLock := decide (o = 1) } } }
           0x0056 [a, o] (okWith []))) ∧
     ∀ a t d : Word,
       let bad := 3 < a.toNat ∨ t = 0 ∨ 65535 < t.toNat ∨ d = 0 ∨ 255 < d.toNat
       (bad → exec (.setDose a t d) s = .next (s.answered 0x0058 [a, t, d] (refusal .badArgument))) ∧
       ∀ h : Fin 4, ¬ bad → a.toNat = h.val →
         exec (.setDose a t d) s = .next (State.answered
           { s with
             heads := s.heads.set h { s.heads[h] with
               dose := { s.heads[h].dose with target := t.toNat, threshold := d.toNat } } }
           0x0058 [a, t, d] (okWith [])))

/-- An entry's take (R19, R147, R148, R149, R150, R151, R161): a RUNNING head with no entry in flight, a queue that is not empty
and no serving pass owed for a slot that it freed (log entry 7) takes the front entry and goes to the first phase that the
entry needs; the record of a CELL entry is EXPOSING or RETAKE-EXPOSING. In every other case nothing changes.

Where the stage is driven without the held offset (R63, R66): the title band's corner for a TITLE entry, the centred image
in its cell for a CELL entry, the cell's corner inside the gutter for an INDEX entry; and the texts drawn there (R67, R68). -/
def Obligations.EntryTakesAndPositions : Prop :=
  (∀ (h : Fin 4) (s : State),
     let owed := ∃ i : Fin 12, RetryEvent.slotFree i ∈ s.retryEvents ∧ headOf i = h
     (s.heads[h].state ≠ .running ∨ s.heads[h].inFlight ≠ none ∨ owed ∨ s.heads[h].queue = [] →
       exec (.entryTake h) s = .next s) ∧
     ∀ e rest, s.heads[h].state = .running → s.heads[h].inFlight = none → ¬ owed → s.heads[h].queue = e :: rest →
       let k := s.heads[h]
       let sheet := s.slots[e.slot].sheet
       ∃ t, exec (.entryTake h) s = .next t ∧ t = { s with heads := t.heads, records := t.records } ∧
         (∀ g, g ≠ h → t.heads[g] = s.heads[g]) ∧
         ((∀ i n c, e ≠ .cell i n c) → t.records = s.records) ∧
         (∀ i n c key, e = .cell i n c → s.keyAt i n = some key → t.records = s.records.map fun x =>
           if x.key = key ∧ x.state = .reserved then { x with state := .exposing }
           else if x.key = key ∧ x.state = .retakeReserved then { x with state := .retakeExposing } else x) ∧
         (k.stageSheet ≠ some sheet →
           t.heads[h] = { k with
             queue := rest, inFlight := some ⟨e, .advancing⟩, transportOrder := some ⟨k.nextMotion, sheet⟩
             transportLimit := some 8000, awaited := some k.nextMotion, nextMotion := k.nextMotion + 1 }) ∧
         (k.stageSheet = some sheet → k.tracker.locked = false →
           t.heads[h] = { k with
             queue := rest, inFlight := some ⟨e, .acquiring⟩, tracker := { k.tracker with run := some ⟨0, none⟩ }
             stageOrder := some ⟨k.nextMotion, 74000, 200⟩, stageLimit := some 1000, awaited := some k.nextMotion
             nextMotion := k.nextMotion + 1 }) ∧
         (k.stageSheet = some sheet → k.tracker.locked = true →
           ∃ x y, t.heads[h] = { k with
             queue := rest, inFlight := some ⟨e, .positioning⟩, stageOrder := some ⟨k.nextMotion, x, y⟩
             stageLimit := some 1000, awaited := some k.nextMotion, nextMotion := k.nextMotion + 1 } ∧
             (x, y) = ((s.basePosition e).1 + k.tracker.dx, (s.basePosition e).2 + k.tracker.dy))) ∧
  (∀ (s : State) (i : Fin 12) (n c part : Nat),
     let f := s.slotFormat i
     let x : Int := f.ox + n % f.cols * f.px
     let y : Int := f.oy + f.band + n / f.cols * f.py
     (∀ key, s.keyAt i n = some key ↔ ∃ c, s.slots[i].cells[n]? = some c ∧ c.key = some key) ∧
     f.cellOrigin n = (x, y) ∧
     s.basePosition (.title i) = ((f.ox : Int), (f.oy : Int)) ∧
     s.basePosition (.index i n part) = (x + f.gutter, y + f.gutter) ∧
     (∀ key r m, s.keyAt i n = some key → s.findRecord key = some r → r.image = some m →
       s.basePosition (.cell i n c) =
         (x + f.gutter + ((m.cells * f.px - 2 * f.gutter - m.drawnWidth) / 2 : Nat),
           y + f.gutter + ((f.py - 2 * f.gutter - m.drawnHeight) / 2 : Nat))) ∧
     ∀ (template : Text) (fiche : FicheId), template.length ≤ 28 →
       (titleText template fiche).length = (if template = [] then 10 else template.length + 11) ∧
       (titleText template fiche).length ≤ 39 ∧ template <+: titleText template fiche ∧
       (template ≠ [] → (titleText template fiche)[template.length]? = some 0x20#8) ∧
       digits 5 fiche.date ++ [0x2F#8] ++ digits 4 fiche.sequence <:+ titleText template fiche)

/-- Arrivals and sheet-code reads (R149, R154, R169, R171, R172; log entry 10): the arrival of the motion awaited in ADVANCING puts
the tracker in ACQUIRE, and on an uncoded roll the sheet in place and the head in ACQUIRING; on a coded roll reads follow,
two equal consecutive values deciding, or the fourth read. Any other report is disregarded. -/
def Obligations.SheetArrivals : Prop :=
  (∀ reads : List (Option (BitVec 16)), reads.length < 4 → ∀ v,
    (v ≠ none → reads.getLast? = some v → codeOutcome (reads ++ [v]) = some v) ∧
    (¬ (v ≠ none ∧ reads.getLast? = some v) →
      codeOutcome (reads ++ [v]) = if reads.length = 3 then some none else none)) ∧
  ∀ (h : Fin 4) (s : State),
    (∀ motion, (∀ e, s.heads[h].inFlight ≠ some ⟨e, .advancing⟩) ∨ s.heads[h].transportLimit = none ∨
      s.heads[h].awaited ≠ some motion → exec (.transportArrival h motion) s = .next s) ∧
    (∀ v, (∀ e, s.heads[h].inFlight ≠ some ⟨e, .advancing⟩) ∨ s.heads[h].codeReads = none →
      exec (.sheetCodeRead h v) s = .next s) ∧
    ∀ e, s.heads[h].inFlight = some ⟨e, .advancing⟩ →
      let k := s.heads[h]
      let sheet := s.slots[e.slot].sheet
      let acquiring := fun t : Tracker => ({ k with
        stageSheet := some sheet, codeReads := none, inFlight := some ⟨e, .acquiring⟩, transportLimit := none
        tracker := { t with run := some ⟨0, none⟩ }, stageOrder := some ⟨k.nextMotion, 74000, 200⟩
        stageLimit := some 1000, awaited := some k.nextMotion, nextMotion := k.nextMotion + 1 } : Head)
      let changed := if k.tracker.locked then s.port.changes ||| 1#21 <<< (4 * h.val + 2) else s.port.changes
      (∀ motion, k.transportLimit ≠ none → k.awaited = some motion →
        (k.coded = false → exec (.transportArrival h motion) s = .next { s with
          heads := s.heads.set h (acquiring { k.tracker with locked := false, errors := 0 })
          port := { s.port with changes := changed } }) ∧
        (k.coded = true → exec (.transportArrival h motion) s = .next { s with
          heads := s.heads.set h { k with
            transportLimit := none, awaited := none, codeReads := some []
            tracker := { k.tracker with locked := false, errors := 0, run := none } }
          port := { s.port with changes := changed } })) ∧
      ∀ reads v, k.codeReads = some reads →
        (codeOutcome (reads ++ [v]) = none → exec (.sheetCodeRead h v) s = .next { s with
          heads := s.heads.set h { k with codeReads := some (reads ++ [v]) } }) ∧
        (codeOutcome (reads ++ [v]) = some none →
          exec (.sheetCodeRead h v) s = .next (s.enterFault h .sheetUnreadable)) ∧
        (∀ code, codeOutcome (reads ++ [v]) = some (some code) →
          code.toNat ≠ (k.firstCode.toNat + sheet) % 65536 →
          exec (.sheetCodeRead h v) s = .next (s.enterFault h .sheetMismatch)) ∧
        ∀ code, codeOutcome (reads ++ [v]) = some (some code) → code.toNat = (k.firstCode.toNat + sheet) % 65536 →
          k.transportLimit = none → exec (.sheetCodeRead h v) s = .next { s with
            heads := s.heads.set h (acquiring k.tracker) }

/-- The faults of a head (R20, R154, R155, R188): which events cause TRANSPORT_TIMEOUT, STAGE_TIMEOUT and TRANSPORT_JAM (a stopped
limit does not expire, log entry 8), and, for an entry caught before DRAWING or none in flight, what entering FAULT does. -/
def Obligations.HeadFaults : Prop :=
  ∀ (h : Fin 4) (s : State),
    (s.heads[h].transportLimit = none → exec (.transportTimeout h) s = .next s) ∧
    (s.heads[h].transportLimit ≠ none →
      exec (.transportTimeout h) s = .next (s.enterFault h .transportTimeout)) ∧
    (s.heads[h].stageLimit = none → exec (.stageTimeout h) s = .next s) ∧
    (s.heads[h].stageLimit ≠ none → exec (.stageTimeout h) s = .next (s.enterFault h .stageTimeout)) ∧
    (s.heads[h].state = .fault ∨ s.heads[h].state = .noRoll → exec (.jam h) s = .next s) ∧
    (s.heads[h].state ∈ [HeadState.ready, .running, .stopping] →
      exec (.jam h) s = .next (s.enterFault h .transportJam)) ∧
    ∀ kind, (∀ e, s.heads[h].inFlight ≠ some ⟨e, .drawing⟩) →
      ∃ t, s.enterFault h kind = t ∧ t = { s with heads := t.heads, records := t.records, port := t.port } ∧
        t.port = { s.port with changes := s.port.changes ||| 1#21 <<< (4 * h.val) } ∧
        (∀ g, g ≠ h → t.heads[g] = s.heads[g]) ∧
        { t.heads[h] with queue := s.heads[h].queue } = { s.heads[h].counted .faults with
          state := .fault, faultKind := some kind
          stageSheet := if kind = .stageTimeout ∨ kind = .registrationFailed ∨ kind = .lampFailure then
            s.heads[h].stageSheet else none
          transportLimit := none, stageLimit := none, awaited := none, codeReads := none, inFlight := none
          tracker := { s.heads[h].tracker with run := none } } ∧
        (s.heads[h].inFlight = none → t.heads[h].queue = s.heads[h].queue ∧ t.records = s.records) ∧
        ∀ e p, s.heads[h].inFlight = some ⟨e, p⟩ →
          (s.heads[h].queue.Pairwise (fun a b => b.cls ≤ a.cls) →
            t.heads[h].queue = s.heads[h].queue.filter (fun x => decide (e.cls < x.cls)) ++ [e] ++
              s.heads[h].queue.filter (fun x => decide (x.cls ≤ e.cls))) ∧
          ((∀ i n c, e ≠ .cell i n c) → t.records = s.records) ∧
          ∀ i n c key, e = .cell i n c → s.keyAt i n = some key → t.records = s.records.map fun x =>
            if x.key = key ∧ x.state = .exposing then { x with state := .reserved }
            else if x.key = key ∧ x.state = .retakeExposing then { x with state := .retakeReserved } else x

/-- An entry caught in DRAWING by a jam or by M = 0 (R69, R81, R102, R103, R154, R156): the head is in FAULT, which is counted,
its limits stopped, its stage sheet kept or not by the kind, FAULT's change bit set. A TITLE or INDEX entry goes to the
front of class 4 and its slot's redraw flag is set.

A CELL entry is gone, and the steps of R102 follow in their order: its cell SPOILED with key and width kept and the dose
flag clear, the second half of a double with width 0; the indexing test; the reserved location removed; the re-placement
(R62), and RESERVED with the new location on a grant, or WAITING at the end of the series' list on a refusal, with the
cut-off condition judged (the RETAKE states without it, R103). The spoil is counted. -/
def Obligations.InterruptedDraws : Prop :=

  ∀ (h : Fin 4) (s : State) (kind : FaultKind) (e : Entry), s.heads[h].inFlight = some ⟨e, .drawing⟩ →
    let fallen : Head := { s.heads[h].counted .faults with
      state := .fault, faultKind := some kind
      stageSheet := if kind = .stageTimeout ∨ kind = .registrationFailed ∨ kind = .lampFailure then
        s.heads[h].stageSheet else none
      transportLimit := none, stageLimit := none, awaited := none, codeReads := none, inFlight := none
      tracker := { s.heads[h].tracker with run := none } }
    let port : Port := { s.port with changes := s.port.changes ||| 1#21 <<< (4 * h.val) }
    ((∀ i n c, e ≠ .cell i n c) →
      s.heads[h].queue.Pairwise (fun a b => b.cls ≤ a.cls) → (∀ x ∈ s.heads[h].queue, x.cls ≤ 4) →
      s.enterFault h kind = { s with
        heads := s.heads.set h { fallen with queue := e :: s.heads[h].queue }
        slots := s.slots.set e.slot { s.slots[e.slot] with redraw := true }
        port := port }) ∧
    ∀ i n c key w st d r m, e = .cell i n c → s.slots[i].cells[n]? = some ⟨st, some key, w, d⟩ →
      (w = 2 → ∃ st' d', s.slots[i].cells[n + 1]? = some ⟨st', some key, 0, d'⟩) →
      s.directoryOrdered → s.findRecord key = some r → r.state = .exposing ∨ r.state = .retakeExposing →
      r.image = some m →
      let lead := s.slots[i].cells.set n ⟨.spoiled, some key, w, false⟩
      let spoiled : State := { s with
        heads := s.heads.set h fallen
        slots := s.slots.set i { s.slots[i] with
          cells := if w = 2 then lead.set (n + 1) ⟨.spoiled, some key, 0, false⟩ else lead }
        port := port }
      let tested := spoiled.indexingTest i
      let asking : State := { tested with
        records := s.records.map fun x => if x.key = key then { x with reserved := none } else x }
      let counted := fun u : State =>
        ({ u with heads := u.heads.set h (u.heads[h].counted .spoiledExposures) } : State)
      let request : CellRequest := { key := key, series := r.series, width := m.cells, cls := r.source.effectiveClass }
      (∀ u v o, asking.rePlacement i request = ⟨u, some v, o⟩ →
        let granted : State := { u with records := s.records.map fun x => if x.key = key then { x with
          reserved := some v, state := if r.state = .exposing then .reserved else .retakeReserved } else x }
        s.enterFault h kind = counted (if o = true then granted.judgeCutOff r.series else granted)) ∧
      ∀ u o, asking.rePlacement i request = ⟨u, none, o⟩ →
        let waits : State := { u with
          records := s.records.map fun x => if x.key = key then { x with
            reserved := none, state := if r.state = .exposing then .waiting else .retakeWaiting } else x
          waiting := s.waiting.set r.series (s.waiting[r.series] ++ [key]) }
        s.enterFault h kind = counted (if r.state = .exposing then waits.judgeCutOff r.series else waits)

/-- A reading of an acquisition run (R151, R154, R161 to R163): the completion of the motion awaited locks the tracker when it and
the previous reading are within capture and at most 10 µm apart in each axis, and the head goes to POSITIONING; otherwise
the run goes on, and fails at its eighth reading. A completion that is not awaited is disregarded in every phase (R154, R160):
with no entry in flight, in ADVANCING and in DRAWING, with no stage limit running, and of another motion. -/
def Obligations.AcquisitionReadings : Prop :=
  (∀ (h : Fin 4) (s : State) (motion : Nat) (r : Reading),
    let k := s.heads[h]
    (k.inFlight = none ∨ (∃ e, k.inFlight = some ⟨e, .advancing⟩ ∨ k.inFlight = some ⟨e, .drawing⟩) ∨
        k.stageLimit = none ∨ k.awaited ≠ some motion →
      exec (.stageCompletion h motion r) s = .next s)) ∧
  ∀ (h : Fin 4) (s : State) (e : Entry) (run : Run) (motion : Nat) (r : Reading),
    s.heads[h].inFlight = some ⟨e, .acquiring⟩ → s.heads[h].tracker.run = some run →
    let k := s.heads[h]
    let near := fun a : Int => a.natAbs ≤ 400
    let agree := ∃ ax ay cx cy, run.previous = some (.offset ax ay) ∧ r = .offset cx cy ∧ near ax ∧ near ay ∧ near cx ∧
      near cy ∧ (ax - cx).natAbs ≤ 10 ∧ (ay - cy).natAbs ≤ 10
    (k.stageLimit ≠ none → k.awaited = some motion →
      (∀ cx cy, r = .offset cx cy → agree → exec (.stageCompletion h motion r) s = .next { s with
        heads := s.heads.set h { k with
          inFlight := some ⟨e, .positioning⟩
          tracker := { k.tracker with locked := true, dx := cx, dy := cy, errors := 0, run := none }
          stageOrder := some ⟨k.nextMotion, (s.basePosition e).1 + cx, (s.basePosition e).2 + cy⟩
          stageLimit := some 1000, awaited := some k.nextMotion, nextMotion := k.nextMotion + 1 }
        port := { s.port with changes := s.port.changes ||| 1#21 <<< (4 * h.val + 2) } }) ∧
      (¬ agree → run.taken + 1 < 8 → exec (.stageCompletion h motion r) s = .next { s with
        heads := s.heads.set h { k with
          tracker := { k.tracker with run := some ⟨run.taken + 1, some r⟩ }
          stageOrder := some ⟨k.nextMotion, 74000, 200⟩, stageLimit := some 1000, awaited := some k.nextMotion
          nextMotion := k.nextMotion + 1 } }) ∧
      (¬ agree → 8 ≤ run.taken + 1 → exec (.stageCompletion h motion r) s = .next (State.enterFault
        { s with heads := s.heads.set h { k with stageLimit := none, awaited := none } } h .registrationFailed)))

/-- A reading of POSITIONING (R64, R151, R164 to R167): a good one replaces the held offset and clears the error count, and the head
goes to DRAWING at the shifted position; a bad one that leaves the count below 3, or meets the hold-lock option, draws at
the old offset; any other is a loss of lock: ACQUIRE, counted, the entry returned, a STOPPING head READY with STOPPED.

What the writer is given (R64, R65, R68, R80): the position with the held offset; an image with its W, H and scale and the
body bytes of its blocks in list order; a title or an index part with its boxes and its text. A pixel is exposed where its
bit is 1, the first of a row in the first byte's most significant bit, over its extents inside the drawn size; the bits
beyond the W-th pixel of a row are not drawn. Each character stands in its box. -/
def Obligations.PositioningReadings : Prop :=
  (∀ (h : Fin 4) (s : State) (e : Entry) (motion : Nat) (r : Reading),
    s.heads[h].inFlight = some ⟨e, .positioning⟩ → s.heads[h].tracker.locked = true →
    s.heads[h].tracker.run = none → s.heads[h].stageLimit ≠ none → s.heads[h].awaited = some motion →
    let k := s.heads[h]
    let good := ∃ x y, r = .offset x y ∧ x.natAbs ≤ 400 ∧ y.natAbs ≤ 400 ∧ (x - k.tracker.dx).natAbs ≤ 40 ∧
      (y - k.tracker.dy).natAbs ≤ 40
    let drawn := fun t : Tracker => ({ k with
      tracker := t, inFlight := some ⟨e, .drawing⟩, stageLimit := none, awaited := none
      draw := State.drawOf { s with heads := s.heads.set h { k with tracker := t } } h e } : Head)
    (∀ x y, r = .offset x y → good → exec (.stageCompletion h motion r) s = .next { s with
      heads := s.heads.set h (drawn { k.tracker with dx := x, dy := y, errors := 0 }) }) ∧
    (¬ good → k.tracker.errors < 2 ∨ k.tracker.holdLock = true → exec (.stageCompletion h motion r) s = .next { s with
      heads := s.heads.set h (drawn { k.tracker with errors := min (k.tracker.errors + 1) 3 }) }) ∧
    (¬ good → 2 ≤ k.tracker.errors → k.tracker.holdLock = false →
      ∃ t, exec (.stageCompletion h motion r) s = .next t ∧
        t = { s with heads := t.heads, records := t.records, port := t.port } ∧
        (∀ g, g ≠ h → t.heads[g] = s.heads[g]) ∧
        { t.heads[h] with queue := k.queue } = { k.counted .registrationLosses with
          state := if k.state = .stopping then .ready else k.state
          tracker := { k.tracker with locked := false, errors := 0 }, inFlight := none, stageLimit := none
          awaited := none } ∧
        (k.queue.Pairwise (fun a b => b.cls ≤ a.cls) →
          t.heads[h].queue = k.queue.filter (fun x => decide (e.cls < x.cls)) ++ [e] ++
            k.queue.filter (fun x => decide (x.cls ≤ e.cls))) ∧
        t.heads[h].queue = returnQueue k.queue e ∧
        ((∀ i n c, e ≠ .cell i n c) → t.records = s.records) ∧
        t.port = { s.port with changes := s.port.changes ||| 1#21 <<< (4 * h.val + 2) |||
          (if k.state = .stopping then 1#21 <<< (4 * h.val + 3) else 0) } ∧
        ∀ i n c key, e = .cell i n c → s.keyAt i n = some key → t.records = s.records.map fun x =>
          if x.key = key ∧ x.state = .exposing then { x with state := .reserved }
          else if x.key = key ∧ x.state = .retakeExposing then { x with state := .retakeReserved } else x)) ∧
  (∀ (s : State) (h : Fin 4) (i : Fin 12) (n c part : Nat),
     let f := s.slotFormat i
     let x := fun e => (s.basePosition e).1 + s.heads[h].tracker.dx
     let y := fun e => (s.basePosition e).2 + s.heads[h].tracker.dy
     s.drawOf h (.title i) = some (.title (x (.title i)) (y (.title i)) (f.cols * f.px / 39) (f.band / 4) (f.band / 2)
       (titleText s.series[s.slots[i].fiche.series].template s.slots[i].fiche)) ∧
     s.drawOf h (.index i n part) = some (.index (x (.index i n part)) (y (.index i n part))
       ((f.py - 2 * f.gutter) / 120) ((f.px - 2 * f.gutter) / 30)
       (indexPartLines f (s.slots[i].index.getD []) part)) ∧
     ∀ key r m, s.keyAt i n = some key → s.findRecord key = some r → r.image = some m →
       ∃ body : List Byte, s.drawOf h (.cell i n c) =
           some (.image (x (.cell i n c)) (y (.cell i n c)) m.width m.height m.scale body) ∧
         body.length = (m.width + 7) / 8 * m.height ∧
         ∀ (b block : Nat) (hb : b < body.length), m.blocks[b / 65536]? = some block →
           body[b] = readByte s.mem (block * 65536 + b % 65536)) ∧
  (∀ (x y : Int) (w h scale : Nat) (body : List Byte) (i j : Nat),
     let extent := fun (start : Int) (k : Nat) =>
       (start + ((k * scale / 4096 : Nat) : Int), start + (((k + 1) * scale / 4096 : Nat) : Int))
     (Draw.image x y w h scale body).pixelArea i j =
       (if i < w ∧ j < h ∧ (body.getD (j * ((w + 7) / 8) + i / 8) 0).getMsbD (i % 8) = true then
         some (extent x i, extent y j) else none) ∧
     (i < w → (extent x i).2 ≤ x + (ceilDiv (w * scale) 4096 : Nat)) ∧
     (j < h → (extent y j).2 ≤ y + (ceilDiv (h * scale) 4096 : Nat))) ∧
  ∀ (x y : Int) (wide top high j m : Nat) (text : Text) (lines : List Text),
    (Draw.title x y wide top high text).characterBox j m =
      (if j = 0 then text[m]?.map fun ch => ((x + (m * wide : Nat), y + (top : Int), wide, high), ch) else none) ∧
    (lines[j]? = none → (Draw.index x y high wide lines).characterBox j m = none) ∧
    ∀ row, lines[j]? = some row → (Draw.index x y high wide lines).characterBox j m =
      row[m]?.map fun ch => ((x + (m * wide : Nat), y + (j * high : Nat), wide, high), ch)

/-- A photocell report of M = 0, and one that no draw awaits (R152, R174, R180): M = 0 faults the head with LAMP_FAILURE; a report
with no entry in DRAWING is disregarded. That a report which comes while an entry is in DRAWING is that draw's, whenever it
was sent, is the model's choice (log entry 27).

A report of a TITLE draw (R69, R153): the slot's title flag is set, which is counted. Of an INDEX draw (R81, R82, R153): the
cell is INDEX-DONE; with the last of the fiche the FICHE-CLOSED notice is put on the queue, the slot is FREE with its
power-on values, and a retry event is taken.

Of both: the dose monitor's step (R177), the deviation counted, DEGRADED's change bit at a change of its flag (R188) with
the retry event of a cleared one (R178), no entry in flight, and a STOPPING head READY with STOPPED (R145). -/
def Obligations.TitleAndIndexDraws : Prop :=

  (∀ (h : Fin 4) (m : BitVec 16) (s : State),
     ((∀ e, s.heads[h].inFlight ≠ some ⟨e, .drawing⟩) → exec (.photocellReport h m) s = .next s) ∧
     ∀ e, s.heads[h].inFlight = some ⟨e, .drawing⟩ →
       m = 0 → exec (.photocellReport h m) s = .next (State.enterFault
         { s with heads := s.heads.set h { s.heads[h] with dose := { s.heads[h].dose with last := 0 } } }
         h .lampFailure)) ∧
  ∀ (h : Fin 4) (m : BitVec 16) (s : State), m ≠ 0 →
    let k := s.heads[h]
    let dev := k.dose.deviates m.toNat
    let stepped := ({ k.dose with last := m.toNat } : Dose).step dev
    let ended := fun c : HeadCounter => s.heads.set h { (if dev then k.counted .doseDeviations else k).counted c with
      dose := stepped, inFlight := none, state := if k.state = .stopping then .ready else k.state }
    let raised : BitVec 21 := (if stepped.degraded = k.dose.degraded then 0 else 1#21 <<< (4 * h.val + 1)) |||
      (if k.state = .stopping then 1#21 <<< (4 * h.val + 3) else 0)
    let cleared : List RetryEvent := if k.dose.degraded = true ∧ stepped.degraded = false then [.degradedCleared h] else []
    (∀ i, k.inFlight = some ⟨.title i, .drawing⟩ → exec (.photocellReport h m) s = .next { s with
      slots := s.slots.set i { s.slots[i] with title := true }
      heads := ended .titleExposures
      port := { s.port with changes := s.port.changes ||| raised }
      retryEvents := s.retryEvents ++ cleared }) ∧
    ∀ i n part, k.inFlight = some ⟨.index i n part, .drawing⟩ →
      let last := ∀ j x, s.slots[i].cells[j]? = some x → j ≠ n → x.state ≠ .indexPending
      let cells := s.slots[i].cells.modify n fun x => { x with state := .indexDone }
      let count := fun st : CellState => cells.countP fun x => decide (x.state = st)
      let u := s.putNotice {
        fiche := s.slots[i].fiche, head := headOf i, sheet := s.slots[i].sheet, redraw := s.slots[i].redraw
        counts := #v[count .empty, count .held, count .exposed, count .superseded, count .void, count .spoiled,
          count .trailing, count .indexPending, count .indexDone] }
      (¬ last → exec (.photocellReport h m) s = .next { s with
        slots := s.slots.set i { s.slots[i] with cells := cells }
        heads := ended .indexExposures
        port := { s.port with changes := s.port.changes ||| raised }
        retryEvents := s.retryEvents ++ cleared }) ∧
      (last → exec (.photocellReport h m) s = .next { u with
        slots := s.slots.set i State.reset.slots[i]
        heads := ended .indexExposures
        port := { u.port with changes := u.port.changes ||| raised }
        retryEvents := s.retryEvents ++ [.slotFree i] ++ cleared })

/-- A photocell report of a CELL draw (R22 to R24, R132, R153): the leading cell is EXPOSED with the draw's dose flag; the record is
EXPOSED at its reserved location with that flag, its image part gone and its blocks free; a retake's old location joins the
superseded list, and its cell is SUPERSEDED where its fiche is OPEN or CLOSING in a slot. The intake then gets the placement
notice with the record's source and key, the fiche, the grid reference, the dose flag and the retake flag; the indexing
test on the fiche follows (R73). The head steps its dose monitor, counts the cell and ends the entry as for a TITLE draw.
That every report which comes while the entry is in DRAWING is this draw's is the model's choice (log entry 27).

What the intake does with a placement notice (R125): an orphan when the entry is disabled or has another generation; lost when
its link is DOWN; else PLACED is sent and counted. -/
def Obligations.CellDrawsAndNotices : Prop :=
  (∀ (h : Fin 4) (m : BitVec 16) (s : State) (i : Fin 12) (n c : Nat) (key : Key) (r : Record) (v : Reserved),
     s.heads[h].inFlight = some ⟨.cell i n c, .drawing⟩ → m ≠ 0 → s.keyAt i n = some key → s.directoryOrdered →
     s.findRecord key = some r → r.reserved = some v →
     let k := s.heads[h]
     let dev := k.dose.deviates m.toNat
     let stepped := ({ k.dose with last := m.toNat } : Dose).step dev
     let film := s.slots.set i { s.slots[i] with
       cells := s.slots[i].cells.modify n fun x => { x with state := .exposed, dose := dev } }
     let exposed := fun (slots : Vector Slot 12) (retake : Bool) => ({ s with
       slots := slots
       used := s.used.filter fun b => !(blocksOf r.image).contains b
       records := s.records.map fun x => if x.key = key then { x with
         state := .exposed, image := none, reserved := none, current := some ⟨v.place, dev⟩
         superseded := if retake then x.superseded ++ x.current.toList else x.superseded } else x } : State)
     let notice := fun retake => ({
       source := r.source, key := key, fiche := v.place.fiche, dose := dev, retake := retake
       grid := ⟨v.place.cell / (s.slotFormat v.slot).cols, v.place.cell % (s.slotFormat v.slot).cols⟩ } : PlacementNotice)
     let done := fun (slots : Vector Slot 12) (retake : Bool) =>
       let u := (((exposed slots retake).judgeHold).placementNotice (notice retake)).indexingTest i
       Host.Outcome.next ({ u with
         heads := u.heads.set h { (if dev then u.heads[h].counted .doseDeviations else u.heads[h]).counted .cellExposures with
           dose := stepped, inFlight := none, state := if k.state = .stopping then .ready else k.state }
         port := { u.port with changes := u.port.changes |||
           (if stepped.degraded = k.dose.degraded then 0 else 1#21 <<< (4 * h.val + 1)) |||
           (if k.state = .stopping then 1#21 <<< (4 * h.val + 3) else 0) }
         retryEvents := s.retryEvents ++
           if k.dose.degraded = true ∧ stepped.degraded = false then [.degradedCleared h] else [] } : State)
     (r.state = .exposing → exec (.photocellReport h m) s = done film false) ∧
     (r.state = .retakeExposing →
       (r.current = none → exec (.photocellReport h m) s = done film true) ∧
       ∀ old, r.current = some old →
         ((∀ j, s.slotMatches j old.place → s.slots[j].state = .indexing) →
           exec (.photocellReport h m) s = done film true) ∧
         ∀ j, s.liveOnly j old.place → exec (.photocellReport h m) s = done (film.set j { film[j] with
           cells := film[j].cells.modify old.place.cell fun x => { x with state := .superseded } }) true)) ∧
  (∀ (s : State) (n : PlacementNotice),
     let e := s.admission[n.source.entry]
     let l := e.link
     (e.enabled = false ∨ e.generation ≠ n.source.generation →
       s.placementNotice n = { s with
         links := s.links.set l (s.links[l].counted .orphanNotices)
         port := { s.port with changes := s.port.changes ||| 1#21 <<< 20 } }) ∧
     (e.enabled = true → e.generation = n.source.generation →
       (s.links[l].active = false →
         s.placementNotice n = { s with links := s.links.set l (s.links[l].counted .noticesLost) }) ∧
       (s.links[l].active = true →
         s.placementNotice n = { s with
           links := s.links.set l { s.links[l].counted .placedSent with
             outbox := s.links[l].outbox ++ [.placed
               { tag := n.source.tag, key := n.key, fiche := n.fiche, grid := n.grid,
                 submittedClass := n.source.submittedClass, dose := n.dose, retake := n.retake }] } })))

/-- The dose window (R175, R177, R178): which integrals are deviations, and what a step does to the deviation count, the window
position and the DEGRADED flag, in the middle of a window and at its end. -/
def Obligations.DoseWindow : Prop :=
  (∀ (d : Dose) (m : Nat), d.deviates m = true ↔ d.target < 8 * ((m : Int) - (d.target : Int)).natAbs) ∧
  ∀ (d : Dose) (dev : Bool), d.position < 256 →
    let count := if dev then d.deviations + 1 else d.deviations
    let set := d.degraded = true ∨ (dev = true ∧ d.threshold ≤ count)
    (d.step dev).target = d.target ∧ (d.step dev).threshold = d.threshold ∧ (d.step dev).last = d.last ∧
    (d.position < 255 → (d.step dev).position = d.position + 1 ∧ (d.step dev).deviations = count ∧
      ((d.step dev).degraded = true ↔ set)) ∧
    (d.position = 255 → (d.step dev).position = 0 ∧ (d.step dev).deviations = 0 ∧
      ((d.step dev).degraded = true ↔ set ∧ d.threshold ≤ count))

/-! ### Invariants and ownership -/

/-- Every invariant below, and the premise of RecordsKept on film locations, holds right after power-on. -/
def Obligations.InvariantsAtReset : Prop :=
  State.reset.memoryCanonical ∧ State.reset.poolOrdered ∧ State.reset.directoryOrdered ∧ State.reset.flightsAgree ∧
  State.reset.queuesDescend ∧ State.reset.linksRest ∧ State.reset.slotsFit ∧ State.reset.slotsLimited ∧
  State.reset.inRange ∧ State.reset.blocksOwned ∧ State.reset.recordsAgree ∧ State.reset.filmAgrees

/-- Every step keeps the staging bytes in their canonical form and the used blocks within the pool (R128, R130, R132).

Every step keeps the directory in strictly ascending key order, within its capacity (R1).

Every step keeps the used blocks the union of the records' block lists, no block on two of them, each list as long as its
image needs and in ascending order, and an image part in every record but the EXPOSED ones (R5, R128 to R132). -/
def Obligations.StagingAndDirectoryKept : Prop :=
  (∀ s t : State, s.memoryCanonical → s.poolOrdered → step s = .next t → t.memoryCanonical ∧ t.poolOrdered) ∧
  (∀ s t : State, s.directoryOrdered → step s = .next t → t.directoryOrdered) ∧
  ∀ s t : State, s.directoryOrdered → s.poolOrdered → s.blocksOwned → step s = .next t → t.blocksOwned

/-- Every step keeps records, waiting lists, receptions, cells and queues in agreement: a record has the locations of its
state (R6 to R9); the waiting lists name the WAITING and RETAKE-WAITING records, each once (R17); receptions and RECEIVING
records belong together (R9, R114, R122), and so do reserved locations and HELD cells (R6), and the CELL entries and the
RESERVED and EXPOSING records (R19 to R21, R59); an INDEX entry names an INDEX-PENDING cell (R80); and an OPEN fiche holds an
EMPTY document cell (R57, R60).

The premises are two invariants stated here and that film locations name the cells they were exposed in. Software that uses
a date code again can void that last premise, as R38 and R92 say, so it is no invariant. -/
def Obligations.RecordsKept : Prop :=
  ∀ s t : State, s.directoryOrdered → s.slotsFit → s.filmAgrees → s.recordsAgree → step s = .next t → t.recordsAgree

/-- Every step keeps each head's entry in flight in agreement with its state, tracker and reads, and each queue in descending
class (R141, R147, R151, R171): nothing is ever positioned or drawn without a lock. -/
def Obligations.HeadsKept : Prop :=
  ∀ s t : State, s.flightsAgree → s.queuesDescend → step s = .next t → t.flightsAgree ∧ t.queuesDescend

/-- Every step leaves a DOWN link without reception, running hold timer or frame to send (R105, R108, R124, R137), and a stopped
hold timer with a quantum in force of 0 (R134). -/
def Obligations.LinksKept : Prop :=
  ∀ s t : State, s.linksRest → step s = .next t → t.linksRest

/-- Every step keeps series, formats and cell maps in agreement (R29, R33, R35, R43, R46). -/
def Obligations.SlotFormatsKept : Prop :=
  ∀ s t : State, s.slotsFit → step s = .next t → t.slotsFit

/-- Every step keeps the limits on the slots (R41, R45, R143): one OPEN fiche a series, distinct sheets on a head, each below the
next sheet index, and no fiche on a head without a roll. -/
def Obligations.SlotLimitsKept : Prop :=
  ∀ s t : State, s.slotsLimited → step s = .next t → t.slotsLimited

/-- Every step keeps trackers, dose monitors, rolls, counters and the notice queue in their ranges (R126, R140, R157, R159, R173,
R191): a held offset is never more than 400 µm in either axis. -/
def Obligations.RangesKept : Prop :=
  ∀ s t : State, s.inRange → step s = .next t → t.inRange

/-- What only its own requests change (R27, R29, R33 to R37, R110, R111, R119, R138, R140, R168, R179, R189): POWER_ON apart, staging
bytes change by BODY alone, and formats, admission entries, the hold quantum, a series but for its sequence, a roll, a
hold-lock option, a dose setting and the enables each by their own requests alone.

No command changes the queue of commands: the model's choice, for POWER_ON (log entry 4) as for the others (log entry 5). -/
def Obligations.OwnersAlone : Prop :=
  ∀ (c : Instr) (s t : State), exec c s = .next t → t.pending = s.pending ∧
    ((∀ b, c ≠ .powerOn b) →
      ((∀ l k f, c ≠ .body l k f) → ∀ a, readByte t.mem a = readByte s.mem a) ∧
      ((∀ i r n px py ox oy h g, c ≠ .setFormat i r n px py ox oy h g) → t.formats = s.formats) ∧
      ((∀ i e l o g m, c ≠ .setAdmission i e l o g m) → t.admission = s.admission) ∧
      ((∀ q, c ≠ .setHold q) → t.holdQuantum = s.holdQuantum) ∧
      ((∀ a f m n x d, c ≠ .setSeries a f m n x d) → (∀ a, c ≠ .clearSeries a) → (∀ a, c ≠ .cutOffSeries a) →
        (∀ a d, c ≠ .reopenSeries a d) → ∀ i : Fin 32,
          { t.series[i] with next := s.series[i].next, exhausted := s.series[i].exhausted } = s.series[i] ∧
          s.series[i].next ≤ t.series[i].next) ∧
      ((∀ a n x m, c ≠ .loadRoll a n x m) → (∀ a, c ≠ .unloadRoll a) → ∀ h : Fin 4,
        t.heads[h].sheets = s.heads[h].sheets ∧ t.heads[h].firstCode = s.heads[h].firstCode ∧
        t.heads[h].coded = s.heads[h].coded ∧ s.heads[h].nextSheet ≤ t.heads[h].nextSheet) ∧
      ((∀ a o, c ≠ .setTracker a o) → ∀ h : Fin 4, t.heads[h].tracker.holdLock = s.heads[h].tracker.holdLock) ∧
      ((∀ a x y, c ≠ .setDose a x y) → ∀ h : Fin 4,
        t.heads[h].dose.target = s.heads[h].dose.target ∧ t.heads[h].dose.threshold = s.heads[h].dose.threshold) ∧
      ((∀ w, c ≠ .setEventEnables w) → c ≠ .portClear →
        t.port.enables = s.port.enables ∧ t.port.doneEnable = s.port.doneEnable))
end

