-- ==== Sys2Proof/Laws/State.lean ====
section
/-! SUPPORT. The state's record updates, field by field: what each modifier of Machine/Ops.lean leaves and what it
writes, and reading a table's entry after one entry was changed. -/

namespace Sys2Proof.Machine

variable (s : State)

/-! ### `State.modLink` -/

@[simp] theorem State.modLink_port (l : Fin 8) (f : Link → Link) : (s.modLink l f).port = s.port := rfl
@[simp] theorem State.modLink_links (l : Fin 8) (f : Link → Link) : (s.modLink l f).links = s.links.set l (f s.links[l]) := rfl
@[simp] theorem State.modLink_admission (l : Fin 8) (f : Link → Link) : (s.modLink l f).admission = s.admission := rfl
@[simp] theorem State.modLink_holdAsserted (l : Fin 8) (f : Link → Link) : (s.modLink l f).holdAsserted = s.holdAsserted := rfl
@[simp] theorem State.modLink_holdQuantum (l : Fin 8) (f : Link → Link) : (s.modLink l f).holdQuantum = s.holdQuantum := rfl
@[simp] theorem State.modLink_used (l : Fin 8) (f : Link → Link) : (s.modLink l f).used = s.used := rfl
@[simp] theorem State.modLink_mem (l : Fin 8) (f : Link → Link) : (s.modLink l f).mem = s.mem := rfl
@[simp] theorem State.modLink_records (l : Fin 8) (f : Link → Link) : (s.modLink l f).records = s.records := rfl
@[simp] theorem State.modLink_waiting (l : Fin 8) (f : Link → Link) : (s.modLink l f).waiting = s.waiting := rfl
@[simp] theorem State.modLink_formats (l : Fin 8) (f : Link → Link) : (s.modLink l f).formats = s.formats := rfl
@[simp] theorem State.modLink_series (l : Fin 8) (f : Link → Link) : (s.modLink l f).series = s.series := rfl
@[simp] theorem State.modLink_slots (l : Fin 8) (f : Link → Link) : (s.modLink l f).slots = s.slots := rfl
@[simp] theorem State.modLink_retryEvents (l : Fin 8) (f : Link → Link) : (s.modLink l f).retryEvents = s.retryEvents := rfl
@[simp] theorem State.modLink_heads (l : Fin 8) (f : Link → Link) : (s.modLink l f).heads = s.heads := rfl
@[simp] theorem State.modLink_freeCount (l : Fin 8) (f : Link → Link) : (s.modLink l f).freeCount = s.freeCount := rfl
@[simp] theorem State.modLink_pending (l : Fin 8) (f : Link → Link) : (s.modLink l f).pending = s.pending := rfl

/-! ### `State.modAdmission` -/

@[simp] theorem State.modAdmission_port (i : Fin 16) (f : AdmissionEntry → AdmissionEntry) : (s.modAdmission i f).port = s.port := rfl
@[simp] theorem State.modAdmission_links (i : Fin 16) (f : AdmissionEntry → AdmissionEntry) : (s.modAdmission i f).links = s.links := rfl
@[simp] theorem State.modAdmission_admission (i : Fin 16) (f : AdmissionEntry → AdmissionEntry) : (s.modAdmission i f).admission = s.admission.set i (f s.admission[i]) := rfl
@[simp] theorem State.modAdmission_holdAsserted (i : Fin 16) (f : AdmissionEntry → AdmissionEntry) : (s.modAdmission i f).holdAsserted = s.holdAsserted := rfl
@[simp] theorem State.modAdmission_holdQuantum (i : Fin 16) (f : AdmissionEntry → AdmissionEntry) : (s.modAdmission i f).holdQuantum = s.holdQuantum := rfl
@[simp] theorem State.modAdmission_used (i : Fin 16) (f : AdmissionEntry → AdmissionEntry) : (s.modAdmission i f).used = s.used := rfl
@[simp] theorem State.modAdmission_mem (i : Fin 16) (f : AdmissionEntry → AdmissionEntry) : (s.modAdmission i f).mem = s.mem := rfl
@[simp] theorem State.modAdmission_records (i : Fin 16) (f : AdmissionEntry → AdmissionEntry) : (s.modAdmission i f).records = s.records := rfl
@[simp] theorem State.modAdmission_waiting (i : Fin 16) (f : AdmissionEntry → AdmissionEntry) : (s.modAdmission i f).waiting = s.waiting := rfl
@[simp] theorem State.modAdmission_formats (i : Fin 16) (f : AdmissionEntry → AdmissionEntry) : (s.modAdmission i f).formats = s.formats := rfl
@[simp] theorem State.modAdmission_series (i : Fin 16) (f : AdmissionEntry → AdmissionEntry) : (s.modAdmission i f).series = s.series := rfl
@[simp] theorem State.modAdmission_slots (i : Fin 16) (f : AdmissionEntry → AdmissionEntry) : (s.modAdmission i f).slots = s.slots := rfl
@[simp] theorem State.modAdmission_retryEvents (i : Fin 16) (f : AdmissionEntry → AdmissionEntry) : (s.modAdmission i f).retryEvents = s.retryEvents := rfl
@[simp] theorem State.modAdmission_heads (i : Fin 16) (f : AdmissionEntry → AdmissionEntry) : (s.modAdmission i f).heads = s.heads := rfl
@[simp] theorem State.modAdmission_freeCount (i : Fin 16) (f : AdmissionEntry → AdmissionEntry) : (s.modAdmission i f).freeCount = s.freeCount := rfl
@[simp] theorem State.modAdmission_pending (i : Fin 16) (f : AdmissionEntry → AdmissionEntry) : (s.modAdmission i f).pending = s.pending := rfl

/-! ### `State.modWaiting` -/

@[simp] theorem State.modWaiting_port (c : Fin 32) (f : List Key → List Key) : (s.modWaiting c f).port = s.port := rfl
@[simp] theorem State.modWaiting_links (c : Fin 32) (f : List Key → List Key) : (s.modWaiting c f).links = s.links := rfl
@[simp] theorem State.modWaiting_admission (c : Fin 32) (f : List Key → List Key) : (s.modWaiting c f).admission = s.admission := rfl
@[simp] theorem State.modWaiting_holdAsserted (c : Fin 32) (f : List Key → List Key) : (s.modWaiting c f).holdAsserted = s.holdAsserted := rfl
@[simp] theorem State.modWaiting_holdQuantum (c : Fin 32) (f : List Key → List Key) : (s.modWaiting c f).holdQuantum = s.holdQuantum := rfl
@[simp] theorem State.modWaiting_used (c : Fin 32) (f : List Key → List Key) : (s.modWaiting c f).used = s.used := rfl
@[simp] theorem State.modWaiting_mem (c : Fin 32) (f : List Key → List Key) : (s.modWaiting c f).mem = s.mem := rfl
@[simp] theorem State.modWaiting_records (c : Fin 32) (f : List Key → List Key) : (s.modWaiting c f).records = s.records := rfl
@[simp] theorem State.modWaiting_waiting (c : Fin 32) (f : List Key → List Key) : (s.modWaiting c f).waiting = s.waiting.set c (f s.waiting[c]) := rfl
@[simp] theorem State.modWaiting_formats (c : Fin 32) (f : List Key → List Key) : (s.modWaiting c f).formats = s.formats := rfl
@[simp] theorem State.modWaiting_series (c : Fin 32) (f : List Key → List Key) : (s.modWaiting c f).series = s.series := rfl
@[simp] theorem State.modWaiting_slots (c : Fin 32) (f : List Key → List Key) : (s.modWaiting c f).slots = s.slots := rfl
@[simp] theorem State.modWaiting_retryEvents (c : Fin 32) (f : List Key → List Key) : (s.modWaiting c f).retryEvents = s.retryEvents := rfl
@[simp] theorem State.modWaiting_heads (c : Fin 32) (f : List Key → List Key) : (s.modWaiting c f).heads = s.heads := rfl
@[simp] theorem State.modWaiting_freeCount (c : Fin 32) (f : List Key → List Key) : (s.modWaiting c f).freeCount = s.freeCount := rfl
@[simp] theorem State.modWaiting_pending (c : Fin 32) (f : List Key → List Key) : (s.modWaiting c f).pending = s.pending := rfl

/-! ### `State.setFormatEntry` -/

@[simp] theorem State.setFormatEntry_port (i : Fin 4) (v : Format) : (s.setFormatEntry i v).port = s.port := rfl
@[simp] theorem State.setFormatEntry_links (i : Fin 4) (v : Format) : (s.setFormatEntry i v).links = s.links := rfl
@[simp] theorem State.setFormatEntry_admission (i : Fin 4) (v : Format) : (s.setFormatEntry i v).admission = s.admission := rfl
@[simp] theorem State.setFormatEntry_holdAsserted (i : Fin 4) (v : Format) : (s.setFormatEntry i v).holdAsserted = s.holdAsserted := rfl
@[simp] theorem State.setFormatEntry_holdQuantum (i : Fin 4) (v : Format) : (s.setFormatEntry i v).holdQuantum = s.holdQuantum := rfl
@[simp] theorem State.setFormatEntry_used (i : Fin 4) (v : Format) : (s.setFormatEntry i v).used = s.used := rfl
@[simp] theorem State.setFormatEntry_mem (i : Fin 4) (v : Format) : (s.setFormatEntry i v).mem = s.mem := rfl
@[simp] theorem State.setFormatEntry_records (i : Fin 4) (v : Format) : (s.setFormatEntry i v).records = s.records := rfl
@[simp] theorem State.setFormatEntry_waiting (i : Fin 4) (v : Format) : (s.setFormatEntry i v).waiting = s.waiting := rfl
@[simp] theorem State.setFormatEntry_formats (i : Fin 4) (v : Format) : (s.setFormatEntry i v).formats = s.formats.set i (some v) := rfl
@[simp] theorem State.setFormatEntry_series (i : Fin 4) (v : Format) : (s.setFormatEntry i v).series = s.series := rfl
@[simp] theorem State.setFormatEntry_slots (i : Fin 4) (v : Format) : (s.setFormatEntry i v).slots = s.slots := rfl
@[simp] theorem State.setFormatEntry_retryEvents (i : Fin 4) (v : Format) : (s.setFormatEntry i v).retryEvents = s.retryEvents := rfl
@[simp] theorem State.setFormatEntry_heads (i : Fin 4) (v : Format) : (s.setFormatEntry i v).heads = s.heads := rfl
@[simp] theorem State.setFormatEntry_freeCount (i : Fin 4) (v : Format) : (s.setFormatEntry i v).freeCount = s.freeCount := rfl
@[simp] theorem State.setFormatEntry_pending (i : Fin 4) (v : Format) : (s.setFormatEntry i v).pending = s.pending := rfl

/-! ### `State.modSeries` -/

@[simp] theorem State.modSeries_port (c : Fin 32) (f : Series → Series) : (s.modSeries c f).port = s.port := rfl
@[simp] theorem State.modSeries_links (c : Fin 32) (f : Series → Series) : (s.modSeries c f).links = s.links := rfl
@[simp] theorem State.modSeries_admission (c : Fin 32) (f : Series → Series) : (s.modSeries c f).admission = s.admission := rfl
@[simp] theorem State.modSeries_holdAsserted (c : Fin 32) (f : Series → Series) : (s.modSeries c f).holdAsserted = s.holdAsserted := rfl
@[simp] theorem State.modSeries_holdQuantum (c : Fin 32) (f : Series → Series) : (s.modSeries c f).holdQuantum = s.holdQuantum := rfl
@[simp] theorem State.modSeries_used (c : Fin 32) (f : Series → Series) : (s.modSeries c f).used = s.used := rfl
@[simp] theorem State.modSeries_mem (c : Fin 32) (f : Series → Series) : (s.modSeries c f).mem = s.mem := rfl
@[simp] theorem State.modSeries_records (c : Fin 32) (f : Series → Series) : (s.modSeries c f).records = s.records := rfl
@[simp] theorem State.modSeries_waiting (c : Fin 32) (f : Series → Series) : (s.modSeries c f).waiting = s.waiting := rfl
@[simp] theorem State.modSeries_formats (c : Fin 32) (f : Series → Series) : (s.modSeries c f).formats = s.formats := rfl
@[simp] theorem State.modSeries_series (c : Fin 32) (f : Series → Series) : (s.modSeries c f).series = s.series.set c (f s.series[c]) := rfl
@[simp] theorem State.modSeries_slots (c : Fin 32) (f : Series → Series) : (s.modSeries c f).slots = s.slots := rfl
@[simp] theorem State.modSeries_retryEvents (c : Fin 32) (f : Series → Series) : (s.modSeries c f).retryEvents = s.retryEvents := rfl
@[simp] theorem State.modSeries_heads (c : Fin 32) (f : Series → Series) : (s.modSeries c f).heads = s.heads := rfl
@[simp] theorem State.modSeries_freeCount (c : Fin 32) (f : Series → Series) : (s.modSeries c f).freeCount = s.freeCount := rfl
@[simp] theorem State.modSeries_pending (c : Fin 32) (f : Series → Series) : (s.modSeries c f).pending = s.pending := rfl

/-! ### `State.modSlot` -/

@[simp] theorem State.modSlot_port (i : Fin 12) (f : Slot → Slot) : (s.modSlot i f).port = s.port := rfl
@[simp] theorem State.modSlot_links (i : Fin 12) (f : Slot → Slot) : (s.modSlot i f).links = s.links := rfl
@[simp] theorem State.modSlot_admission (i : Fin 12) (f : Slot → Slot) : (s.modSlot i f).admission = s.admission := rfl
@[simp] theorem State.modSlot_holdAsserted (i : Fin 12) (f : Slot → Slot) : (s.modSlot i f).holdAsserted = s.holdAsserted := rfl
@[simp] theorem State.modSlot_holdQuantum (i : Fin 12) (f : Slot → Slot) : (s.modSlot i f).holdQuantum = s.holdQuantum := rfl
@[simp] theorem State.modSlot_used (i : Fin 12) (f : Slot → Slot) : (s.modSlot i f).used = s.used := rfl
@[simp] theorem State.modSlot_mem (i : Fin 12) (f : Slot → Slot) : (s.modSlot i f).mem = s.mem := rfl
@[simp] theorem State.modSlot_records (i : Fin 12) (f : Slot → Slot) : (s.modSlot i f).records = s.records := rfl
@[simp] theorem State.modSlot_waiting (i : Fin 12) (f : Slot → Slot) : (s.modSlot i f).waiting = s.waiting := rfl
@[simp] theorem State.modSlot_formats (i : Fin 12) (f : Slot → Slot) : (s.modSlot i f).formats = s.formats := rfl
@[simp] theorem State.modSlot_series (i : Fin 12) (f : Slot → Slot) : (s.modSlot i f).series = s.series := rfl
@[simp] theorem State.modSlot_slots (i : Fin 12) (f : Slot → Slot) : (s.modSlot i f).slots = s.slots.set i (f s.slots[i]) := rfl
@[simp] theorem State.modSlot_retryEvents (i : Fin 12) (f : Slot → Slot) : (s.modSlot i f).retryEvents = s.retryEvents := rfl
@[simp] theorem State.modSlot_heads (i : Fin 12) (f : Slot → Slot) : (s.modSlot i f).heads = s.heads := rfl
@[simp] theorem State.modSlot_freeCount (i : Fin 12) (f : Slot → Slot) : (s.modSlot i f).freeCount = s.freeCount := rfl
@[simp] theorem State.modSlot_pending (i : Fin 12) (f : Slot → Slot) : (s.modSlot i f).pending = s.pending := rfl

/-! ### `State.modHead` -/

@[simp] theorem State.modHead_port (h : Fin 4) (f : Head → Head) : (s.modHead h f).port = s.port := rfl
@[simp] theorem State.modHead_links (h : Fin 4) (f : Head → Head) : (s.modHead h f).links = s.links := rfl
@[simp] theorem State.modHead_admission (h : Fin 4) (f : Head → Head) : (s.modHead h f).admission = s.admission := rfl
@[simp] theorem State.modHead_holdAsserted (h : Fin 4) (f : Head → Head) : (s.modHead h f).holdAsserted = s.holdAsserted := rfl
@[simp] theorem State.modHead_holdQuantum (h : Fin 4) (f : Head → Head) : (s.modHead h f).holdQuantum = s.holdQuantum := rfl
@[simp] theorem State.modHead_used (h : Fin 4) (f : Head → Head) : (s.modHead h f).used = s.used := rfl
@[simp] theorem State.modHead_mem (h : Fin 4) (f : Head → Head) : (s.modHead h f).mem = s.mem := rfl
@[simp] theorem State.modHead_records (h : Fin 4) (f : Head → Head) : (s.modHead h f).records = s.records := rfl
@[simp] theorem State.modHead_waiting (h : Fin 4) (f : Head → Head) : (s.modHead h f).waiting = s.waiting := rfl
@[simp] theorem State.modHead_formats (h : Fin 4) (f : Head → Head) : (s.modHead h f).formats = s.formats := rfl
@[simp] theorem State.modHead_series (h : Fin 4) (f : Head → Head) : (s.modHead h f).series = s.series := rfl
@[simp] theorem State.modHead_slots (h : Fin 4) (f : Head → Head) : (s.modHead h f).slots = s.slots := rfl
@[simp] theorem State.modHead_retryEvents (h : Fin 4) (f : Head → Head) : (s.modHead h f).retryEvents = s.retryEvents := rfl
@[simp] theorem State.modHead_heads (h : Fin 4) (f : Head → Head) : (s.modHead h f).heads = s.heads.set h (f s.heads[h]) := rfl
@[simp] theorem State.modHead_freeCount (h : Fin 4) (f : Head → Head) : (s.modHead h f).freeCount = s.freeCount := rfl
@[simp] theorem State.modHead_pending (h : Fin 4) (f : Head → Head) : (s.modHead h f).pending = s.pending := rfl

/-! ### `State.modPort` -/

@[simp] theorem State.modPort_port (f : Port → Port) : (s.modPort f).port = f s.port := rfl
@[simp] theorem State.modPort_links (f : Port → Port) : (s.modPort f).links = s.links := rfl
@[simp] theorem State.modPort_admission (f : Port → Port) : (s.modPort f).admission = s.admission := rfl
@[simp] theorem State.modPort_holdAsserted (f : Port → Port) : (s.modPort f).holdAsserted = s.holdAsserted := rfl
@[simp] theorem State.modPort_holdQuantum (f : Port → Port) : (s.modPort f).holdQuantum = s.holdQuantum := rfl
@[simp] theorem State.modPort_used (f : Port → Port) : (s.modPort f).used = s.used := rfl
@[simp] theorem State.modPort_mem (f : Port → Port) : (s.modPort f).mem = s.mem := rfl
@[simp] theorem State.modPort_records (f : Port → Port) : (s.modPort f).records = s.records := rfl
@[simp] theorem State.modPort_waiting (f : Port → Port) : (s.modPort f).waiting = s.waiting := rfl
@[simp] theorem State.modPort_formats (f : Port → Port) : (s.modPort f).formats = s.formats := rfl
@[simp] theorem State.modPort_series (f : Port → Port) : (s.modPort f).series = s.series := rfl
@[simp] theorem State.modPort_slots (f : Port → Port) : (s.modPort f).slots = s.slots := rfl
@[simp] theorem State.modPort_retryEvents (f : Port → Port) : (s.modPort f).retryEvents = s.retryEvents := rfl
@[simp] theorem State.modPort_heads (f : Port → Port) : (s.modPort f).heads = s.heads := rfl
@[simp] theorem State.modPort_freeCount (f : Port → Port) : (s.modPort f).freeCount = s.freeCount := rfl
@[simp] theorem State.modPort_pending (f : Port → Port) : (s.modPort f).pending = s.pending := rfl

/-! ### `State.retry` -/

@[simp] theorem State.retry_port (e : RetryEvent) : (s.retry e).port = s.port := rfl
@[simp] theorem State.retry_links (e : RetryEvent) : (s.retry e).links = s.links := rfl
@[simp] theorem State.retry_admission (e : RetryEvent) : (s.retry e).admission = s.admission := rfl
@[simp] theorem State.retry_holdAsserted (e : RetryEvent) : (s.retry e).holdAsserted = s.holdAsserted := rfl
@[simp] theorem State.retry_holdQuantum (e : RetryEvent) : (s.retry e).holdQuantum = s.holdQuantum := rfl
@[simp] theorem State.retry_used (e : RetryEvent) : (s.retry e).used = s.used := rfl
@[simp] theorem State.retry_mem (e : RetryEvent) : (s.retry e).mem = s.mem := rfl
@[simp] theorem State.retry_records (e : RetryEvent) : (s.retry e).records = s.records := rfl
@[simp] theorem State.retry_waiting (e : RetryEvent) : (s.retry e).waiting = s.waiting := rfl
@[simp] theorem State.retry_formats (e : RetryEvent) : (s.retry e).formats = s.formats := rfl
@[simp] theorem State.retry_series (e : RetryEvent) : (s.retry e).series = s.series := rfl
@[simp] theorem State.retry_slots (e : RetryEvent) : (s.retry e).slots = s.slots := rfl
@[simp] theorem State.retry_retryEvents (e : RetryEvent) : (s.retry e).retryEvents = s.retryEvents ++ [e] := rfl
@[simp] theorem State.retry_heads (e : RetryEvent) : (s.retry e).heads = s.heads := rfl
@[simp] theorem State.retry_freeCount (e : RetryEvent) : (s.retry e).freeCount = s.freeCount := rfl
@[simp] theorem State.retry_pending (e : RetryEvent) : (s.retry e).pending = s.pending := rfl

/-! ### `State.addRecord` -/

@[simp] theorem State.addRecord_port (r : Record) : (s.addRecord r).port = s.port := rfl
@[simp] theorem State.addRecord_links (r : Record) : (s.addRecord r).links = s.links := rfl
@[simp] theorem State.addRecord_admission (r : Record) : (s.addRecord r).admission = s.admission := rfl
@[simp] theorem State.addRecord_holdAsserted (r : Record) : (s.addRecord r).holdAsserted = s.holdAsserted := rfl
@[simp] theorem State.addRecord_holdQuantum (r : Record) : (s.addRecord r).holdQuantum = s.holdQuantum := rfl
@[simp] theorem State.addRecord_used (r : Record) : (s.addRecord r).used = s.used := rfl
@[simp] theorem State.addRecord_mem (r : Record) : (s.addRecord r).mem = s.mem := rfl
@[simp] theorem State.addRecord_records (r : Record) : (s.addRecord r).records = insertRecord r s.records := rfl
@[simp] theorem State.addRecord_waiting (r : Record) : (s.addRecord r).waiting = s.waiting := rfl
@[simp] theorem State.addRecord_formats (r : Record) : (s.addRecord r).formats = s.formats := rfl
@[simp] theorem State.addRecord_series (r : Record) : (s.addRecord r).series = s.series := rfl
@[simp] theorem State.addRecord_slots (r : Record) : (s.addRecord r).slots = s.slots := rfl
@[simp] theorem State.addRecord_retryEvents (r : Record) : (s.addRecord r).retryEvents = s.retryEvents := rfl
@[simp] theorem State.addRecord_heads (r : Record) : (s.addRecord r).heads = s.heads := rfl
@[simp] theorem State.addRecord_freeCount (r : Record) : (s.addRecord r).freeCount = s.freeCount := rfl
@[simp] theorem State.addRecord_pending (r : Record) : (s.addRecord r).pending = s.pending := rfl

/-! ### `State.removeRecord` -/

@[simp] theorem State.removeRecord_port (k : Key) : (s.removeRecord k).port = s.port := rfl
@[simp] theorem State.removeRecord_links (k : Key) : (s.removeRecord k).links = s.links := rfl
@[simp] theorem State.removeRecord_admission (k : Key) : (s.removeRecord k).admission = s.admission := rfl
@[simp] theorem State.removeRecord_holdAsserted (k : Key) : (s.removeRecord k).holdAsserted = s.holdAsserted := rfl
@[simp] theorem State.removeRecord_holdQuantum (k : Key) : (s.removeRecord k).holdQuantum = s.holdQuantum := rfl
@[simp] theorem State.removeRecord_used (k : Key) : (s.removeRecord k).used = s.used := rfl
@[simp] theorem State.removeRecord_mem (k : Key) : (s.removeRecord k).mem = s.mem := rfl
@[simp] theorem State.removeRecord_records (k : Key) : (s.removeRecord k).records = s.records.filter fun r => decide (r.key ≠ k) := rfl
@[simp] theorem State.removeRecord_waiting (k : Key) : (s.removeRecord k).waiting = s.waiting := rfl
@[simp] theorem State.removeRecord_formats (k : Key) : (s.removeRecord k).formats = s.formats := rfl
@[simp] theorem State.removeRecord_series (k : Key) : (s.removeRecord k).series = s.series := rfl
@[simp] theorem State.removeRecord_slots (k : Key) : (s.removeRecord k).slots = s.slots := rfl
@[simp] theorem State.removeRecord_retryEvents (k : Key) : (s.removeRecord k).retryEvents = s.retryEvents := rfl
@[simp] theorem State.removeRecord_heads (k : Key) : (s.removeRecord k).heads = s.heads := rfl
@[simp] theorem State.removeRecord_freeCount (k : Key) : (s.removeRecord k).freeCount = s.freeCount := rfl
@[simp] theorem State.removeRecord_pending (k : Key) : (s.removeRecord k).pending = s.pending := rfl

/-! ### `State.updateRecord` -/

@[simp] theorem State.updateRecord_port (k : Key) (f : Record → Record) : (s.updateRecord k f).port = s.port := rfl
@[simp] theorem State.updateRecord_links (k : Key) (f : Record → Record) : (s.updateRecord k f).links = s.links := rfl
@[simp] theorem State.updateRecord_admission (k : Key) (f : Record → Record) : (s.updateRecord k f).admission = s.admission := rfl
@[simp] theorem State.updateRecord_holdAsserted (k : Key) (f : Record → Record) : (s.updateRecord k f).holdAsserted = s.holdAsserted := rfl
@[simp] theorem State.updateRecord_holdQuantum (k : Key) (f : Record → Record) : (s.updateRecord k f).holdQuantum = s.holdQuantum := rfl
@[simp] theorem State.updateRecord_used (k : Key) (f : Record → Record) : (s.updateRecord k f).used = s.used := rfl
@[simp] theorem State.updateRecord_mem (k : Key) (f : Record → Record) : (s.updateRecord k f).mem = s.mem := rfl
@[simp] theorem State.updateRecord_records (k : Key) (f : Record → Record) : (s.updateRecord k f).records = s.records.map fun r => if r.key = k then f r else r := rfl
@[simp] theorem State.updateRecord_waiting (k : Key) (f : Record → Record) : (s.updateRecord k f).waiting = s.waiting := rfl
@[simp] theorem State.updateRecord_formats (k : Key) (f : Record → Record) : (s.updateRecord k f).formats = s.formats := rfl
@[simp] theorem State.updateRecord_series (k : Key) (f : Record → Record) : (s.updateRecord k f).series = s.series := rfl
@[simp] theorem State.updateRecord_slots (k : Key) (f : Record → Record) : (s.updateRecord k f).slots = s.slots := rfl
@[simp] theorem State.updateRecord_retryEvents (k : Key) (f : Record → Record) : (s.updateRecord k f).retryEvents = s.retryEvents := rfl
@[simp] theorem State.updateRecord_heads (k : Key) (f : Record → Record) : (s.updateRecord k f).heads = s.heads := rfl
@[simp] theorem State.updateRecord_freeCount (k : Key) (f : Record → Record) : (s.updateRecord k f).freeCount = s.freeCount := rfl
@[simp] theorem State.updateRecord_pending (k : Key) (f : Record → Record) : (s.updateRecord k f).pending = s.pending := rfl

/-! ### Reading one entry after a change -/

theorem State.modLink_at (l : Fin 8) (f : Link → Link) (j : Fin 8) :
    (s.modLink l f).links[j] = if j = l then f s.links[l] else s.links[j] := by
  by_cases h : j = l
  · subst h; simp [State.modLink]
  · simp [State.modLink, h, Fin.val_ne_of_ne (Ne.symm h)]

theorem State.modAdmission_at (i : Fin 16) (f : AdmissionEntry → AdmissionEntry) (j : Fin 16) :
    (s.modAdmission i f).admission[j] = if j = i then f s.admission[i] else s.admission[j] := by
  by_cases h : j = i
  · subst h; simp [State.modAdmission]
  · simp [State.modAdmission, h, Fin.val_ne_of_ne (Ne.symm h)]

theorem State.modWaiting_at (c : Fin 32) (f : List Key → List Key) (j : Fin 32) :
    (s.modWaiting c f).waiting[j] = if j = c then f s.waiting[c] else s.waiting[j] := by
  by_cases h : j = c
  · subst h; simp [State.modWaiting]
  · simp [State.modWaiting, h, Fin.val_ne_of_ne (Ne.symm h)]

theorem State.modSeries_at (c : Fin 32) (f : Series → Series) (j : Fin 32) :
    (s.modSeries c f).series[j] = if j = c then f s.series[c] else s.series[j] := by
  by_cases h : j = c
  · subst h; simp [State.modSeries]
  · simp [State.modSeries, h, Fin.val_ne_of_ne (Ne.symm h)]

theorem State.modSlot_at (i : Fin 12) (f : Slot → Slot) (j : Fin 12) :
    (s.modSlot i f).slots[j] = if j = i then f s.slots[i] else s.slots[j] := by
  by_cases h : j = i
  · subst h; simp [State.modSlot]
  · simp [State.modSlot, h, Fin.val_ne_of_ne (Ne.symm h)]

theorem State.modHead_at (h : Fin 4) (f : Head → Head) (j : Fin 4) :
    (s.modHead h f).heads[j] = if j = h then f s.heads[h] else s.heads[j] := by
  by_cases h : j = h
  · subst h; simp [State.modHead]
  · simp [State.modHead, h, Fin.val_ne_of_ne (Ne.symm h)]

theorem State.setFormatEntry_at (i : Fin 4) (v : Format) (j : Fin 4) :
    (s.setFormatEntry i v).formats[j] = if j = i then some v else s.formats[j] := by
  by_cases h : j = i
  · subst h; simp [State.setFormatEntry]
  · simp [State.setFormatEntry, h, Fin.val_ne_of_ne (Ne.symm h)]

end Sys2Proof.Machine
end

