-- ==== Sys2Proof/Laws/Memory.lean ====
section
/-! SUPPORT. The staging bytes: a read after a write, and every memory operation keeps the canonical form. -/

namespace Sys2Proof.Machine

/-- An address below every listed address is not listed. -/
theorem readByte_below {m : List Host.Cell} {a : Nat} (h : ∀ x ∈ m.map Prod.fst, a < x) :
    readByte m a = unlistedByte := by
  induction m with
  | nil => rfl
  | cons c rest ih =>
    obtain ⟨b, v⟩ := c
    simp only [List.map_cons, List.mem_cons, forall_eq_or_imp] at h
    simp [readByte, Nat.ne_of_gt h.1, ih h.2]

/-- A byte reads as the last value written to it, and every other byte as before. -/
theorem readByte_writeByte {m : List Host.Cell} (hm : (m.map Prod.fst).Pairwise (· < ·)) (a : Nat) (v : Byte)
    (x : Nat) : readByte (writeByte m a v) x = if x = a then v else readByte m x := by
  induction m with
  | nil =>
    by_cases hv : v = unlistedByte
    · subst hv; simp [writeByte, readByte]
    · simp [writeByte, hv, readByte, eq_comm]
  | cons c rest ih =>
    obtain ⟨b, u⟩ := c
    simp only [List.map_cons, List.pairwise_cons] at hm
    have below : ∀ y, y ≤ b → readByte rest y = unlistedByte := fun y hy =>
      readByte_below fun z hz => Nat.lt_of_le_of_lt hy (hm.1 z hz)
    unfold writeByte
    by_cases h1 : a < b
    · by_cases hv : v = unlistedByte
      · by_cases hx : x = a
        · subst hx; simp [h1, hv, readByte, Nat.ne_of_gt h1, below x (Nat.le_of_lt h1)]
        · simp [h1, hv, hx]
      · by_cases hx : x = a
        · subst hx; simp [h1, hv, readByte]
        · simp [h1, hv, hx, readByte, Ne.symm hx]
    · by_cases h2 : a = b
      · subst h2
        by_cases hv : v = unlistedByte
        · by_cases hx : x = a
          · subst hx; simp [hv, below x (Nat.le_refl x)]
          · simp [hv, hx, readByte, Ne.symm hx]
        · by_cases hx : x = a
          · subst hx; simp [hv, readByte]
          · simp [hv, hx, readByte, Ne.symm hx]
      · by_cases hx : x = b
        · subst hx; simp [h1, h2, readByte, Ne.symm h2]
        · simp [h1, h2, readByte, Ne.symm hx, ih hm.2]

/-- The addresses after a write are the old ones and the written one. -/
theorem mem_writeByte {m : List Host.Cell} {a : Nat} {v : Byte} {c : Host.Cell} (h : c ∈ writeByte m a v) :
    c ∈ m ∨ (c = (a, v) ∧ v ≠ unlistedByte) := by
  induction m with
  | nil =>
    unfold writeByte at h
    split at h
    · cases h
    · next hv => exact .inr ⟨List.mem_singleton.mp h, hv⟩
  | cons d rest ih =>
    obtain ⟨b, u⟩ := d
    unfold writeByte at h
    split at h
    · split at h
      · exact .inl h
      · next hv =>
        rcases List.mem_cons.mp h with h | h
        · exact .inr ⟨h, hv⟩
        · exact .inl h
    · split at h
      · next hab =>
        split at h
        · exact .inl (List.mem_cons_of_mem _ h)
        · next hv =>
          rcases List.mem_cons.mp h with h | h
          · exact .inr ⟨by rw [hab]; exact h, hv⟩
          · exact .inl (List.mem_cons_of_mem _ h)
      · rcases List.mem_cons.mp h with h | h
        · exact .inl (h ▸ List.mem_cons_self)
        · rcases ih h with h | h
          · exact .inl (List.mem_cons_of_mem _ h)
          · exact .inr h

/-- Writing a byte keeps the canonical form. -/
theorem writeByte_wf {m : List Host.Cell} (hm : Memory.wf m) (a : Nat) (v : Byte) : Memory.wf (writeByte m a v) := by
  refine ⟨?_, fun c hc => ?_⟩
  · have h := hm.1
    clear hm
    induction m with
    | nil => unfold writeByte; split <;> simp
    | cons c rest ih =>
      obtain ⟨b, u⟩ := c
      simp only [List.map_cons, List.pairwise_cons] at h
      unfold writeByte
      split
      · next hab =>
        split
        · exact List.pairwise_cons.mpr h
        · simp only [List.map_cons, List.pairwise_cons, List.mem_cons, forall_eq_or_imp]
          exact ⟨⟨hab, fun x hx => Nat.lt_trans hab (h.1 x hx)⟩, h⟩
      · next hab =>
        split
        · split
          · exact h.2
          · simpa using h
        · next hne =>
          simp only [List.map_cons, List.pairwise_cons]
          refine ⟨fun x hx => ?_, ih h.2⟩
          obtain ⟨c, hc, rfl⟩ := List.mem_map.mp hx
          rcases mem_writeByte hc with hc | ⟨rfl, -⟩
          · exact h.1 _ (List.mem_map_of_mem hc)
          · exact Nat.lt_of_le_of_ne (Nat.le_of_not_lt hab) (Ne.symm hne)
  · rcases mem_writeByte hc with hc | ⟨rfl, hv⟩
    · exact hm.2 c hc
    · exact hv

/-- Storing body bytes keeps the canonical form. -/
theorem writeBody_wf {m : List Host.Cell} (hm : Memory.wf m) (blocks : List Nat) (b : Nat) (bytes : List Byte) :
    Memory.wf (writeBody m blocks b bytes) := by
  induction bytes generalizing m b with
  | nil => exact hm
  | cons v rest ih =>
    unfold writeBody
    split
    · exact ih (writeByte_wf hm _ v) _
    · exact ih hm _

/-- Storing body bytes leaves every byte that is not the place of one of them. -/
theorem readByte_writeBody_other {m : List Host.Cell} (hm : Memory.wf m) (blocks : List Nat) (b : Nat)
    (bytes : List Byte) (x : Nat) (hx : ∀ j < bytes.length, bodyAddress blocks (b + j) ≠ some x) :
    readByte (writeBody m blocks b bytes) x = readByte m x := by
  induction bytes generalizing m b with
  | nil => rfl
  | cons v rest ih =>
    have hrest : ∀ j < rest.length, bodyAddress blocks (b + 1 + j) ≠ some x := fun j hj => by
      have := hx (j + 1) (by simpa using hj)
      rwa [show b + 1 + j = b + (j + 1) by omega]
    have h0 := hx 0 (by simp)
    unfold writeBody
    split
    · next a ha =>
      rw [ih (writeByte_wf hm a v) _ hrest, readByte_writeByte hm.1, if_neg]
      rintro rfl
      exact h0 (by simpa using ha)
    · exact ih hm _ hrest

/-- The memory at power-on is in the canonical form. -/
theorem reset_memory_wf : Memory.wf State.reset.mem := by simp [State.reset, Memory.wf]

end Sys2Proof.Machine
end

