-- ==== Sys2Proof/Laws/Frames.lean ====
section
/-! SUPPORT. What each shared operation can change, said once: the parts of the state that it leaves as they are, and
what its answer says when it has one. A later proof cites these and does not unfold the operation. -/

namespace Sys2Proof.Machine

/-- A property that one step of a fold keeps is kept by the fold. -/
theorem frame_foldl {α β : Type} (P : β → Prop) (f : β → α → β) (hf : ∀ b a, P b → P (f b a)) (as : List α) (b : β)
    (hb : P b) : P (as.foldl f b) := by
  induction as generalizing b with
  | nil => exact hb
  | cons a rest ih => exact ih _ (hf b a hb)

variable (s : State)

/-! ### Link frames and holds -/

@[simp] theorem State.raise_frame (i : Indication) :
    (s.raise i).links = s.links ∧ (s.raise i).admission = s.admission ∧ (s.raise i).holdAsserted = s.holdAsserted ∧
    (s.raise i).holdQuantum = s.holdQuantum ∧ (s.raise i).used = s.used ∧ (s.raise i).mem = s.mem ∧
    (s.raise i).records = s.records ∧ (s.raise i).waiting = s.waiting ∧ (s.raise i).formats = s.formats ∧
    (s.raise i).series = s.series ∧ (s.raise i).slots = s.slots ∧ (s.raise i).retryEvents = s.retryEvents ∧
    (s.raise i).heads = s.heads ∧ (s.raise i).freeCount = s.freeCount ∧ (s.raise i).pending = s.pending := by simp [State.raise]

@[simp] theorem State.countLink_frame (l : Fin 8) (c : LinkCounter) :
    (s.countLink l c).port = s.port ∧ (s.countLink l c).admission = s.admission ∧
    (s.countLink l c).holdAsserted = s.holdAsserted ∧ (s.countLink l c).holdQuantum = s.holdQuantum ∧
    (s.countLink l c).used = s.used ∧ (s.countLink l c).mem = s.mem ∧ (s.countLink l c).records = s.records ∧
    (s.countLink l c).waiting = s.waiting ∧ (s.countLink l c).formats = s.formats ∧
    (s.countLink l c).series = s.series ∧ (s.countLink l c).slots = s.slots ∧
    (s.countLink l c).retryEvents = s.retryEvents ∧ (s.countLink l c).heads = s.heads ∧
    (s.countLink l c).freeCount = s.freeCount ∧ (s.countLink l c).pending = s.pending := by simp [State.countLink]

@[simp] theorem State.countHead_frame (h : Fin 4) (c : HeadCounter) :
    (s.countHead h c).port = s.port ∧ (s.countHead h c).links = s.links ∧
    (s.countHead h c).admission = s.admission ∧ (s.countHead h c).holdAsserted = s.holdAsserted ∧
    (s.countHead h c).holdQuantum = s.holdQuantum ∧ (s.countHead h c).used = s.used ∧
    (s.countHead h c).mem = s.mem ∧ (s.countHead h c).records = s.records ∧ (s.countHead h c).waiting = s.waiting ∧
    (s.countHead h c).formats = s.formats ∧ (s.countHead h c).series = s.series ∧
    (s.countHead h c).slots = s.slots ∧ (s.countHead h c).retryEvents = s.retryEvents ∧
    (s.countHead h c).freeCount = s.freeCount ∧ (s.countHead h c).pending = s.pending := by simp [State.countHead]

@[simp] theorem State.sendFrame_frame (l : Fin 8) (f : OutFrame) :
    (s.sendFrame l f).port = s.port ∧ (s.sendFrame l f).admission = s.admission ∧
    (s.sendFrame l f).holdAsserted = s.holdAsserted ∧ (s.sendFrame l f).holdQuantum = s.holdQuantum ∧
    (s.sendFrame l f).used = s.used ∧ (s.sendFrame l f).mem = s.mem ∧ (s.sendFrame l f).records = s.records ∧
    (s.sendFrame l f).waiting = s.waiting ∧ (s.sendFrame l f).formats = s.formats ∧
    (s.sendFrame l f).series = s.series ∧ (s.sendFrame l f).slots = s.slots ∧
    (s.sendFrame l f).retryEvents = s.retryEvents ∧ (s.sendFrame l f).heads = s.heads ∧
    (s.sendFrame l f).freeCount = s.freeCount ∧ (s.sendFrame l f).pending = s.pending := by simp [State.sendFrame]

@[simp] theorem State.sendHold_frame (l : Fin 8) :
    (s.sendHold l).port = s.port ∧ (s.sendHold l).admission = s.admission ∧
    (s.sendHold l).holdAsserted = s.holdAsserted ∧ (s.sendHold l).holdQuantum = s.holdQuantum ∧
    (s.sendHold l).used = s.used ∧ (s.sendHold l).mem = s.mem ∧ (s.sendHold l).records = s.records ∧
    (s.sendHold l).waiting = s.waiting ∧ (s.sendHold l).formats = s.formats ∧ (s.sendHold l).series = s.series ∧
    (s.sendHold l).slots = s.slots ∧ (s.sendHold l).retryEvents = s.retryEvents ∧ (s.sendHold l).heads = s.heads ∧
    (s.sendHold l).freeCount = s.freeCount ∧ (s.sendHold l).pending = s.pending := by simp [State.sendHold]

@[simp] theorem State.stopHoldTimer_frame (l : Fin 8) :
    (s.stopHoldTimer l).port = s.port ∧ (s.stopHoldTimer l).admission = s.admission ∧
    (s.stopHoldTimer l).holdAsserted = s.holdAsserted ∧ (s.stopHoldTimer l).holdQuantum = s.holdQuantum ∧
    (s.stopHoldTimer l).used = s.used ∧ (s.stopHoldTimer l).mem = s.mem ∧ (s.stopHoldTimer l).records = s.records ∧
    (s.stopHoldTimer l).waiting = s.waiting ∧ (s.stopHoldTimer l).formats = s.formats ∧
    (s.stopHoldTimer l).series = s.series ∧ (s.stopHoldTimer l).slots = s.slots ∧
    (s.stopHoldTimer l).retryEvents = s.retryEvents ∧ (s.stopHoldTimer l).heads = s.heads ∧
    (s.stopHoldTimer l).freeCount = s.freeCount ∧ (s.stopHoldTimer l).pending = s.pending := by simp [State.stopHoldTimer]

@[simp] theorem State.assertHold_frame :
    (s.assertHold).admission = s.admission ∧ (s.assertHold).holdQuantum = s.holdQuantum ∧
    (s.assertHold).used = s.used ∧ (s.assertHold).mem = s.mem ∧ (s.assertHold).records = s.records ∧
    (s.assertHold).waiting = s.waiting ∧ (s.assertHold).formats = s.formats ∧ (s.assertHold).series = s.series ∧
    (s.assertHold).slots = s.slots ∧ (s.assertHold).retryEvents = s.retryEvents ∧ (s.assertHold).heads = s.heads ∧
    (s.assertHold).freeCount = s.freeCount ∧ (s.assertHold).pending = s.pending := by
  unfold State.assertHold
  exact frame_foldl (fun t : State => t.admission = s.admission ∧ t.holdQuantum = s.holdQuantum ∧ t.used = s.used ∧ t.mem = s.mem ∧ t.records = s.records ∧ t.waiting = s.waiting ∧ t.formats = s.formats ∧ t.series = s.series ∧ t.slots = s.slots ∧ t.retryEvents = s.retryEvents ∧ t.heads = s.heads ∧ t.freeCount = s.freeCount ∧ t.pending = s.pending) _ (fun t l ht => by split <;> simpa using ht) _ _ (by simp)

@[simp] theorem State.clearHold_frame :
    (s.clearHold).admission = s.admission ∧ (s.clearHold).holdQuantum = s.holdQuantum ∧
    (s.clearHold).used = s.used ∧ (s.clearHold).mem = s.mem ∧ (s.clearHold).records = s.records ∧
    (s.clearHold).waiting = s.waiting ∧ (s.clearHold).formats = s.formats ∧ (s.clearHold).series = s.series ∧
    (s.clearHold).slots = s.slots ∧ (s.clearHold).retryEvents = s.retryEvents ∧ (s.clearHold).heads = s.heads ∧
    (s.clearHold).freeCount = s.freeCount ∧ (s.clearHold).pending = s.pending := by
  unfold State.clearHold
  exact frame_foldl (fun t : State => t.admission = s.admission ∧ t.holdQuantum = s.holdQuantum ∧ t.used = s.used ∧ t.mem = s.mem ∧ t.records = s.records ∧ t.waiting = s.waiting ∧ t.formats = s.formats ∧ t.series = s.series ∧ t.slots = s.slots ∧ t.retryEvents = s.retryEvents ∧ t.heads = s.heads ∧ t.freeCount = s.freeCount ∧ t.pending = s.pending) _ (fun t l ht => by split <;> simpa using ht) _ _ (by simp)

@[simp] theorem State.judgeHold_frame :
    (s.judgeHold).admission = s.admission ∧ (s.judgeHold).holdQuantum = s.holdQuantum ∧
    (s.judgeHold).used = s.used ∧ (s.judgeHold).mem = s.mem ∧ (s.judgeHold).records = s.records ∧
    (s.judgeHold).waiting = s.waiting ∧ (s.judgeHold).formats = s.formats ∧ (s.judgeHold).series = s.series ∧
    (s.judgeHold).slots = s.slots ∧ (s.judgeHold).retryEvents = s.retryEvents ∧ (s.judgeHold).heads = s.heads ∧
    (s.judgeHold).freeCount = s.freeCount ∧ (s.judgeHold).pending = s.pending := by unfold State.judgeHold; (repeat' split) <;> simp

@[simp] theorem State.release_frame (b : List Nat) :
    (s.release b).admission = s.admission ∧ (s.release b).holdQuantum = s.holdQuantum ∧ (s.release b).mem = s.mem ∧
    (s.release b).records = s.records ∧ (s.release b).waiting = s.waiting ∧ (s.release b).formats = s.formats ∧
    (s.release b).series = s.series ∧ (s.release b).slots = s.slots ∧ (s.release b).retryEvents = s.retryEvents ∧
    (s.release b).heads = s.heads ∧ (s.release b).freeCount = s.freeCount ∧ (s.release b).pending = s.pending := by simp [State.release]

/-! ### Cells, fiche and queues -/

@[simp] theorem State.joinWaiting_frame (c : Fin 32) (k : Key) :
    (s.joinWaiting c k).port = s.port ∧ (s.joinWaiting c k).links = s.links ∧
    (s.joinWaiting c k).admission = s.admission ∧ (s.joinWaiting c k).holdAsserted = s.holdAsserted ∧
    (s.joinWaiting c k).holdQuantum = s.holdQuantum ∧ (s.joinWaiting c k).used = s.used ∧
    (s.joinWaiting c k).mem = s.mem ∧ (s.joinWaiting c k).records = s.records ∧
    (s.joinWaiting c k).formats = s.formats ∧ (s.joinWaiting c k).series = s.series ∧
    (s.joinWaiting c k).slots = s.slots ∧ (s.joinWaiting c k).retryEvents = s.retryEvents ∧
    (s.joinWaiting c k).heads = s.heads ∧ (s.joinWaiting c k).freeCount = s.freeCount ∧
    (s.joinWaiting c k).pending = s.pending := by simp [State.joinWaiting]

@[simp] theorem State.leaveWaiting_frame (c : Fin 32) (k : Key) :
    (s.leaveWaiting c k).port = s.port ∧ (s.leaveWaiting c k).links = s.links ∧
    (s.leaveWaiting c k).admission = s.admission ∧ (s.leaveWaiting c k).holdAsserted = s.holdAsserted ∧
    (s.leaveWaiting c k).holdQuantum = s.holdQuantum ∧ (s.leaveWaiting c k).used = s.used ∧
    (s.leaveWaiting c k).mem = s.mem ∧ (s.leaveWaiting c k).records = s.records ∧
    (s.leaveWaiting c k).formats = s.formats ∧ (s.leaveWaiting c k).series = s.series ∧
    (s.leaveWaiting c k).slots = s.slots ∧ (s.leaveWaiting c k).retryEvents = s.retryEvents ∧
    (s.leaveWaiting c k).heads = s.heads ∧ (s.leaveWaiting c k).freeCount = s.freeCount ∧
    (s.leaveWaiting c k).pending = s.pending := by simp [State.leaveWaiting]

@[simp] theorem State.modCell_frame (i : Fin 12) (n : Nat) (f : Cell → Cell) :
    (s.modCell i n f).port = s.port ∧ (s.modCell i n f).links = s.links ∧
    (s.modCell i n f).admission = s.admission ∧ (s.modCell i n f).holdAsserted = s.holdAsserted ∧
    (s.modCell i n f).holdQuantum = s.holdQuantum ∧ (s.modCell i n f).used = s.used ∧
    (s.modCell i n f).mem = s.mem ∧ (s.modCell i n f).records = s.records ∧ (s.modCell i n f).waiting = s.waiting ∧
    (s.modCell i n f).formats = s.formats ∧ (s.modCell i n f).series = s.series ∧
    (s.modCell i n f).retryEvents = s.retryEvents ∧ (s.modCell i n f).heads = s.heads ∧
    (s.modCell i n f).freeCount = s.freeCount ∧ (s.modCell i n f).pending = s.pending := by simp [State.modCell]

@[simp] theorem State.modCells_frame (i : Fin 12) (n w : Nat) (f g : Cell → Cell) :
    (s.modCells i n w f g).port = s.port ∧ (s.modCells i n w f g).links = s.links ∧
    (s.modCells i n w f g).admission = s.admission ∧ (s.modCells i n w f g).holdAsserted = s.holdAsserted ∧
    (s.modCells i n w f g).holdQuantum = s.holdQuantum ∧ (s.modCells i n w f g).used = s.used ∧
    (s.modCells i n w f g).mem = s.mem ∧ (s.modCells i n w f g).records = s.records ∧
    (s.modCells i n w f g).waiting = s.waiting ∧ (s.modCells i n w f g).formats = s.formats ∧
    (s.modCells i n w f g).series = s.series ∧ (s.modCells i n w f g).retryEvents = s.retryEvents ∧
    (s.modCells i n w f g).heads = s.heads ∧ (s.modCells i n w f g).freeCount = s.freeCount ∧
    (s.modCells i n w f g).pending = s.pending := by unfold State.modCells; (repeat' split) <;> simp

@[simp] theorem State.enqueue_frame (h : Fin 4) (e : Entry) :
    (s.enqueue h e).port = s.port ∧ (s.enqueue h e).links = s.links ∧ (s.enqueue h e).admission = s.admission ∧
    (s.enqueue h e).holdAsserted = s.holdAsserted ∧ (s.enqueue h e).holdQuantum = s.holdQuantum ∧
    (s.enqueue h e).used = s.used ∧ (s.enqueue h e).mem = s.mem ∧ (s.enqueue h e).records = s.records ∧
    (s.enqueue h e).waiting = s.waiting ∧ (s.enqueue h e).formats = s.formats ∧ (s.enqueue h e).series = s.series ∧
    (s.enqueue h e).slots = s.slots ∧ (s.enqueue h e).retryEvents = s.retryEvents ∧
    (s.enqueue h e).freeCount = s.freeCount ∧ (s.enqueue h e).pending = s.pending := by simp [State.enqueue]

@[simp] theorem State.indexingTest_frame (i : Fin 12) :
    (s.indexingTest i).port = s.port ∧ (s.indexingTest i).links = s.links ∧
    (s.indexingTest i).admission = s.admission ∧ (s.indexingTest i).holdAsserted = s.holdAsserted ∧
    (s.indexingTest i).holdQuantum = s.holdQuantum ∧ (s.indexingTest i).used = s.used ∧
    (s.indexingTest i).mem = s.mem ∧ (s.indexingTest i).records = s.records ∧
    (s.indexingTest i).waiting = s.waiting ∧ (s.indexingTest i).formats = s.formats ∧
    (s.indexingTest i).series = s.series ∧ (s.indexingTest i).retryEvents = s.retryEvents ∧
    (s.indexingTest i).freeCount = s.freeCount ∧ (s.indexingTest i).pending = s.pending := by
  unfold State.indexingTest
  split
  · have hq := frame_foldl (fun t : State => t.port = s.port ∧ t.links = s.links ∧ t.admission = s.admission ∧ t.holdAsserted = s.holdAsserted ∧ t.holdQuantum = s.holdQuantum ∧ t.used = s.used ∧ t.mem = s.mem ∧ t.records = s.records ∧ t.waiting = s.waiting ∧ t.formats = s.formats ∧ t.series = s.series ∧ t.retryEvents = s.retryEvents ∧ t.freeCount = s.freeCount ∧ t.pending = s.pending) (fun t (e : Entry) => t.enqueue (headOf i) e)
      (fun t l ht => by simpa using ht) (indexQueueEntries (s.slotFormat i) i)
      (s.modSlot i fun t => { t with index := some (buildIndex t.cells) }) (by simp)
    simpa using hq
  · simp

@[simp] theorem State.closeFiche_frame (i : Fin 12) :
    (s.closeFiche i).port = s.port ∧ (s.closeFiche i).links = s.links ∧ (s.closeFiche i).admission = s.admission ∧
    (s.closeFiche i).holdAsserted = s.holdAsserted ∧ (s.closeFiche i).holdQuantum = s.holdQuantum ∧
    (s.closeFiche i).used = s.used ∧ (s.closeFiche i).mem = s.mem ∧ (s.closeFiche i).records = s.records ∧
    (s.closeFiche i).waiting = s.waiting ∧ (s.closeFiche i).formats = s.formats ∧
    (s.closeFiche i).series = s.series ∧ (s.closeFiche i).retryEvents = s.retryEvents ∧
    (s.closeFiche i).freeCount = s.freeCount ∧ (s.closeFiche i).pending = s.pending := by unfold State.closeFiche; (repeat' split) <;> simp

@[simp] theorem State.judgeCutOff_frame (c : Fin 32) :
    (s.judgeCutOff c).port = s.port ∧ (s.judgeCutOff c).links = s.links ∧
    (s.judgeCutOff c).admission = s.admission ∧ (s.judgeCutOff c).holdAsserted = s.holdAsserted ∧
    (s.judgeCutOff c).holdQuantum = s.holdQuantum ∧ (s.judgeCutOff c).used = s.used ∧
    (s.judgeCutOff c).mem = s.mem ∧ (s.judgeCutOff c).records = s.records ∧ (s.judgeCutOff c).waiting = s.waiting ∧
    (s.judgeCutOff c).formats = s.formats ∧ (s.judgeCutOff c).series = s.series ∧
    (s.judgeCutOff c).retryEvents = s.retryEvents ∧ (s.judgeCutOff c).freeCount = s.freeCount ∧
    (s.judgeCutOff c).pending = s.pending := by unfold State.judgeCutOff; (repeat' split) <;> simp

@[simp] theorem State.openFiche_frame (c : Fin 32) (h : Fin 4) (i : Fin 12) :
    (s.openFiche c h i).port = s.port ∧ (s.openFiche c h i).links = s.links ∧
    (s.openFiche c h i).admission = s.admission ∧ (s.openFiche c h i).holdAsserted = s.holdAsserted ∧
    (s.openFiche c h i).holdQuantum = s.holdQuantum ∧ (s.openFiche c h i).used = s.used ∧
    (s.openFiche c h i).mem = s.mem ∧ (s.openFiche c h i).records = s.records ∧
    (s.openFiche c h i).waiting = s.waiting ∧ (s.openFiche c h i).formats = s.formats ∧
    (s.openFiche c h i).retryEvents = s.retryEvents ∧ (s.openFiche c h i).freeCount = s.freeCount ∧
    (s.openFiche c h i).pending = s.pending := by simp [State.openFiche]

@[simp] theorem State.fullTest_frame (i : Fin 12) :
    (s.fullTest i).port = s.port ∧ (s.fullTest i).links = s.links ∧ (s.fullTest i).admission = s.admission ∧
    (s.fullTest i).holdAsserted = s.holdAsserted ∧ (s.fullTest i).holdQuantum = s.holdQuantum ∧
    (s.fullTest i).used = s.used ∧ (s.fullTest i).mem = s.mem ∧ (s.fullTest i).records = s.records ∧
    (s.fullTest i).waiting = s.waiting ∧ (s.fullTest i).formats = s.formats ∧ (s.fullTest i).series = s.series ∧
    (s.fullTest i).retryEvents = s.retryEvents ∧ (s.fullTest i).freeCount = s.freeCount ∧
    (s.fullTest i).pending = s.pending := by unfold State.fullTest; (repeat' split) <;> simp

@[simp] theorem State.grantCell_frame (q : CellRequest) (i : Fin 12) (n : Nat) (o : Bool) :
    ((s.grantCell q i n o).state).port = s.port ∧ ((s.grantCell q i n o).state).links = s.links ∧
    ((s.grantCell q i n o).state).admission = s.admission ∧
    ((s.grantCell q i n o).state).holdAsserted = s.holdAsserted ∧
    ((s.grantCell q i n o).state).holdQuantum = s.holdQuantum ∧ ((s.grantCell q i n o).state).used = s.used ∧
    ((s.grantCell q i n o).state).mem = s.mem ∧ ((s.grantCell q i n o).state).records = s.records ∧
    ((s.grantCell q i n o).state).waiting = s.waiting ∧ ((s.grantCell q i n o).state).formats = s.formats ∧
    ((s.grantCell q i n o).state).series = s.series ∧ ((s.grantCell q i n o).state).retryEvents = s.retryEvents ∧
    ((s.grantCell q i n o).state).freeCount = s.freeCount ∧ ((s.grantCell q i n o).state).pending = s.pending := by simp [State.grantCell]

@[simp] theorem State.openAndGrant_frame (q : CellRequest) :
    ((s.openAndGrant q).state).port = s.port ∧ ((s.openAndGrant q).state).links = s.links ∧
    ((s.openAndGrant q).state).admission = s.admission ∧ ((s.openAndGrant q).state).holdAsserted = s.holdAsserted ∧
    ((s.openAndGrant q).state).holdQuantum = s.holdQuantum ∧ ((s.openAndGrant q).state).used = s.used ∧
    ((s.openAndGrant q).state).mem = s.mem ∧ ((s.openAndGrant q).state).records = s.records ∧
    ((s.openAndGrant q).state).waiting = s.waiting ∧ ((s.openAndGrant q).state).formats = s.formats ∧
    ((s.openAndGrant q).state).retryEvents = s.retryEvents ∧ ((s.openAndGrant q).state).freeCount = s.freeCount ∧
    ((s.openAndGrant q).state).pending = s.pending := by unfold State.openAndGrant; (repeat' split) <;> simp

@[simp] theorem State.normalPlacement_frame (q : CellRequest) :
    ((s.normalPlacement q).state).port = s.port ∧ ((s.normalPlacement q).state).links = s.links ∧
    ((s.normalPlacement q).state).admission = s.admission ∧
    ((s.normalPlacement q).state).holdAsserted = s.holdAsserted ∧
    ((s.normalPlacement q).state).holdQuantum = s.holdQuantum ∧ ((s.normalPlacement q).state).used = s.used ∧
    ((s.normalPlacement q).state).mem = s.mem ∧ ((s.normalPlacement q).state).records = s.records ∧
    ((s.normalPlacement q).state).waiting = s.waiting ∧ ((s.normalPlacement q).state).formats = s.formats ∧
    ((s.normalPlacement q).state).retryEvents = s.retryEvents ∧
    ((s.normalPlacement q).state).freeCount = s.freeCount ∧ ((s.normalPlacement q).state).pending = s.pending := by unfold State.normalPlacement; (repeat' split) <;> simp

@[simp] theorem State.rePlacement_frame (i : Fin 12) (q : CellRequest) :
    ((s.rePlacement i q).state).port = s.port ∧ ((s.rePlacement i q).state).links = s.links ∧
    ((s.rePlacement i q).state).admission = s.admission ∧
    ((s.rePlacement i q).state).holdAsserted = s.holdAsserted ∧
    ((s.rePlacement i q).state).holdQuantum = s.holdQuantum ∧ ((s.rePlacement i q).state).used = s.used ∧
    ((s.rePlacement i q).state).mem = s.mem ∧ ((s.rePlacement i q).state).records = s.records ∧
    ((s.rePlacement i q).state).waiting = s.waiting ∧ ((s.rePlacement i q).state).formats = s.formats ∧
    ((s.rePlacement i q).state).retryEvents = s.retryEvents ∧ ((s.rePlacement i q).state).freeCount = s.freeCount ∧
    ((s.rePlacement i q).state).pending = s.pending := by unfold State.rePlacement; (repeat' split) <;> simp

/-! ### Records -/

@[simp] theorem State.settle_frame (r : Record) (p : Placement) :
    ((State.settle r p).1).port = p.state.port ∧ ((State.settle r p).1).links = p.state.links ∧
    ((State.settle r p).1).admission = p.state.admission ∧
    ((State.settle r p).1).holdAsserted = p.state.holdAsserted ∧
    ((State.settle r p).1).holdQuantum = p.state.holdQuantum ∧ ((State.settle r p).1).used = p.state.used ∧
    ((State.settle r p).1).mem = p.state.mem ∧ ((State.settle r p).1).waiting = p.state.waiting ∧
    ((State.settle r p).1).formats = p.state.formats ∧ ((State.settle r p).1).series = p.state.series ∧
    ((State.settle r p).1).retryEvents = p.state.retryEvents ∧
    ((State.settle r p).1).freeCount = p.state.freeCount ∧ ((State.settle r p).1).pending = p.state.pending := by unfold State.settle; (repeat' split) <;> simp

@[simp] theorem State.offer_frame (r : Record) :
    ((s.offer r).1).port = s.port ∧ ((s.offer r).1).links = s.links ∧ ((s.offer r).1).admission = s.admission ∧
    ((s.offer r).1).holdAsserted = s.holdAsserted ∧ ((s.offer r).1).holdQuantum = s.holdQuantum ∧
    ((s.offer r).1).used = s.used ∧ ((s.offer r).1).mem = s.mem ∧ ((s.offer r).1).waiting = s.waiting ∧
    ((s.offer r).1).formats = s.formats ∧ ((s.offer r).1).retryEvents = s.retryEvents ∧
    ((s.offer r).1).freeCount = s.freeCount ∧ ((s.offer r).1).pending = s.pending := by simp [State.offer]

@[simp] theorem State.serveFrom_frame (c : Fin 32) (n : Nat) :
    (State.serveFrom c n s).port = s.port ∧ (State.serveFrom c n s).links = s.links ∧
    (State.serveFrom c n s).admission = s.admission ∧ (State.serveFrom c n s).holdAsserted = s.holdAsserted ∧
    (State.serveFrom c n s).holdQuantum = s.holdQuantum ∧ (State.serveFrom c n s).used = s.used ∧
    (State.serveFrom c n s).mem = s.mem ∧ (State.serveFrom c n s).formats = s.formats ∧
    (State.serveFrom c n s).retryEvents = s.retryEvents ∧ (State.serveFrom c n s).freeCount = s.freeCount ∧
    (State.serveFrom c n s).pending = s.pending := by
  induction n generalizing s with
  | zero => simp [State.serveFrom]
  | succ n ih =>
    unfold State.serveFrom
    split
    · simp
    · split
      · simp
      · split
        · next t he => have hs := congrArg Prod.fst he; dsimp only at hs; subst hs; simp [ih]
        · next t he => have hs := congrArg Prod.fst he; dsimp only at hs; subst hs; simp

@[simp] theorem State.serveList_frame (c : Fin 32) :
    (s.serveList c).port = s.port ∧ (s.serveList c).links = s.links ∧ (s.serveList c).admission = s.admission ∧
    (s.serveList c).holdAsserted = s.holdAsserted ∧ (s.serveList c).holdQuantum = s.holdQuantum ∧
    (s.serveList c).used = s.used ∧ (s.serveList c).mem = s.mem ∧ (s.serveList c).formats = s.formats ∧
    (s.serveList c).retryEvents = s.retryEvents ∧ (s.serveList c).freeCount = s.freeCount ∧
    (s.serveList c).pending = s.pending := by simp [State.serveList]

@[simp] theorem State.servePass_frame :
    (s.servePass).port = s.port ∧ (s.servePass).links = s.links ∧ (s.servePass).admission = s.admission ∧
    (s.servePass).holdAsserted = s.holdAsserted ∧ (s.servePass).holdQuantum = s.holdQuantum ∧
    (s.servePass).used = s.used ∧ (s.servePass).mem = s.mem ∧ (s.servePass).formats = s.formats ∧
    (s.servePass).retryEvents = s.retryEvents ∧ (s.servePass).freeCount = s.freeCount ∧
    (s.servePass).pending = s.pending := by
  unfold State.servePass
  exact frame_foldl (fun t : State => t.port = s.port ∧ t.links = s.links ∧ t.admission = s.admission ∧ t.holdAsserted = s.holdAsserted ∧ t.holdQuantum = s.holdQuantum ∧ t.used = s.used ∧ t.mem = s.mem ∧ t.formats = s.formats ∧ t.retryEvents = s.retryEvents ∧ t.freeCount = s.freeCount ∧ t.pending = s.pending) _ (fun t c ht => by simpa using ht) _ _ (by simp)

@[simp] theorem State.acceptBody_frame (k : Key) :
    (s.acceptBody k).port = s.port ∧ (s.acceptBody k).links = s.links ∧ (s.acceptBody k).admission = s.admission ∧
    (s.acceptBody k).holdAsserted = s.holdAsserted ∧ (s.acceptBody k).holdQuantum = s.holdQuantum ∧
    (s.acceptBody k).used = s.used ∧ (s.acceptBody k).mem = s.mem ∧ (s.acceptBody k).formats = s.formats ∧
    (s.acceptBody k).retryEvents = s.retryEvents ∧ (s.acceptBody k).freeCount = s.freeCount ∧
    (s.acceptBody k).pending = s.pending := by
  unfold State.acceptBody
  split
  · simp
  · next r _ =>
    dsimp only
    split
    · split
      · next t he => have hs := congrArg Prod.fst he; dsimp only at hs; subst hs; simp
      · next t he => have hs := congrArg Prod.fst he; dsimp only at hs; subst hs; simp
    · simp

@[simp] theorem State.endReception_frame (k : Key) :
    (s.endReception k).admission = s.admission ∧ (s.endReception k).holdQuantum = s.holdQuantum ∧
    (s.endReception k).mem = s.mem ∧ (s.endReception k).waiting = s.waiting ∧
    (s.endReception k).formats = s.formats ∧ (s.endReception k).series = s.series ∧
    (s.endReception k).retryEvents = s.retryEvents ∧ (s.endReception k).freeCount = s.freeCount ∧
    (s.endReception k).pending = s.pending := by unfold State.endReception; (repeat' split) <;> simp

@[simp] theorem State.placementNotice_frame (n : PlacementNotice) :
    (s.placementNotice n).admission = s.admission ∧ (s.placementNotice n).holdAsserted = s.holdAsserted ∧
    (s.placementNotice n).holdQuantum = s.holdQuantum ∧ (s.placementNotice n).used = s.used ∧
    (s.placementNotice n).mem = s.mem ∧ (s.placementNotice n).records = s.records ∧
    (s.placementNotice n).waiting = s.waiting ∧ (s.placementNotice n).formats = s.formats ∧
    (s.placementNotice n).series = s.series ∧ (s.placementNotice n).slots = s.slots ∧
    (s.placementNotice n).retryEvents = s.retryEvents ∧ (s.placementNotice n).heads = s.heads ∧
    (s.placementNotice n).freeCount = s.freeCount ∧ (s.placementNotice n).pending = s.pending := by unfold State.placementNotice; dsimp only; (repeat' split) <;> simp

@[simp] theorem State.supersedeCell_frame (p : Place) :
    (s.supersedeCell p).port = s.port ∧ (s.supersedeCell p).links = s.links ∧
    (s.supersedeCell p).admission = s.admission ∧ (s.supersedeCell p).holdAsserted = s.holdAsserted ∧
    (s.supersedeCell p).holdQuantum = s.holdQuantum ∧ (s.supersedeCell p).used = s.used ∧
    (s.supersedeCell p).mem = s.mem ∧ (s.supersedeCell p).records = s.records ∧
    (s.supersedeCell p).waiting = s.waiting ∧ (s.supersedeCell p).formats = s.formats ∧
    (s.supersedeCell p).series = s.series ∧ (s.supersedeCell p).retryEvents = s.retryEvents ∧
    (s.supersedeCell p).heads = s.heads ∧ (s.supersedeCell p).freeCount = s.freeCount ∧
    (s.supersedeCell p).pending = s.pending := by unfold State.supersedeCell; (repeat' split) <;> simp

@[simp] theorem State.finishRecord_frame (k : Key) (d : Bool) :
    (s.finishRecord k d).admission = s.admission ∧ (s.finishRecord k d).holdQuantum = s.holdQuantum ∧
    (s.finishRecord k d).mem = s.mem ∧ (s.finishRecord k d).waiting = s.waiting ∧
    (s.finishRecord k d).formats = s.formats ∧ (s.finishRecord k d).series = s.series ∧
    (s.finishRecord k d).retryEvents = s.retryEvents ∧ (s.finishRecord k d).heads = s.heads ∧
    (s.finishRecord k d).freeCount = s.freeCount ∧ (s.finishRecord k d).pending = s.pending := by unfold State.finishRecord; dsimp only; (repeat' split) <;> simp

/-! ### Receptions -/

@[simp] theorem State.refuse_frame (l : Fin 8) (t : BitVec 16) (c : Cause) :
    (s.refuse l t c).port = s.port ∧ (s.refuse l t c).admission = s.admission ∧
    (s.refuse l t c).holdAsserted = s.holdAsserted ∧ (s.refuse l t c).holdQuantum = s.holdQuantum ∧
    (s.refuse l t c).used = s.used ∧ (s.refuse l t c).mem = s.mem ∧ (s.refuse l t c).records = s.records ∧
    (s.refuse l t c).waiting = s.waiting ∧ (s.refuse l t c).formats = s.formats ∧
    (s.refuse l t c).series = s.series ∧ (s.refuse l t c).slots = s.slots ∧
    (s.refuse l t c).retryEvents = s.retryEvents ∧ (s.refuse l t c).heads = s.heads ∧
    (s.refuse l t c).freeCount = s.freeCount ∧ (s.refuse l t c).pending = s.pending := by unfold State.refuse; dsimp only; (repeat' split) <;> simp

@[simp] theorem State.idleContext_frame (l : Fin 8) :
    (s.idleContext l).port = s.port ∧ (s.idleContext l).admission = s.admission ∧
    (s.idleContext l).holdAsserted = s.holdAsserted ∧ (s.idleContext l).holdQuantum = s.holdQuantum ∧
    (s.idleContext l).used = s.used ∧ (s.idleContext l).mem = s.mem ∧ (s.idleContext l).records = s.records ∧
    (s.idleContext l).waiting = s.waiting ∧ (s.idleContext l).formats = s.formats ∧
    (s.idleContext l).series = s.series ∧ (s.idleContext l).slots = s.slots ∧
    (s.idleContext l).retryEvents = s.retryEvents ∧ (s.idleContext l).heads = s.heads ∧
    (s.idleContext l).freeCount = s.freeCount ∧ (s.idleContext l).pending = s.pending := by simp [State.idleContext]

@[simp] theorem State.endWithRefuse_frame (l : Fin 8) (r : Reception) (c : Cause) :
    (s.endWithRefuse l r c).admission = s.admission ∧ (s.endWithRefuse l r c).holdQuantum = s.holdQuantum ∧
    (s.endWithRefuse l r c).mem = s.mem ∧ (s.endWithRefuse l r c).waiting = s.waiting ∧
    (s.endWithRefuse l r c).formats = s.formats ∧ (s.endWithRefuse l r c).series = s.series ∧
    (s.endWithRefuse l r c).retryEvents = s.retryEvents ∧ (s.endWithRefuse l r c).freeCount = s.freeCount ∧
    (s.endWithRefuse l r c).pending = s.pending := by unfold State.endWithRefuse; (repeat' split) <;> simp

@[simp] theorem State.endRunning_frame (l : Fin 8) (c : Cause) :
    (s.endRunning l c).admission = s.admission ∧ (s.endRunning l c).holdQuantum = s.holdQuantum ∧
    (s.endRunning l c).mem = s.mem ∧ (s.endRunning l c).waiting = s.waiting ∧
    (s.endRunning l c).formats = s.formats ∧ (s.endRunning l c).series = s.series ∧
    (s.endRunning l c).retryEvents = s.retryEvents ∧ (s.endRunning l c).freeCount = s.freeCount ∧
    (s.endRunning l c).pending = s.pending := by unfold State.endRunning; (repeat' split) <;> simp

@[simp] theorem State.countHeadFrame_frame (l : Fin 8) :
    (s.countHeadFrame l).port = s.port ∧ (s.countHeadFrame l).admission = s.admission ∧
    (s.countHeadFrame l).holdAsserted = s.holdAsserted ∧ (s.countHeadFrame l).holdQuantum = s.holdQuantum ∧
    (s.countHeadFrame l).used = s.used ∧ (s.countHeadFrame l).mem = s.mem ∧
    (s.countHeadFrame l).records = s.records ∧ (s.countHeadFrame l).waiting = s.waiting ∧
    (s.countHeadFrame l).formats = s.formats ∧ (s.countHeadFrame l).series = s.series ∧
    (s.countHeadFrame l).slots = s.slots ∧ (s.countHeadFrame l).retryEvents = s.retryEvents ∧
    (s.countHeadFrame l).heads = s.heads ∧ (s.countHeadFrame l).freeCount = s.freeCount ∧
    (s.countHeadFrame l).pending = s.pending := by unfold State.countHeadFrame; (repeat' split) <;> simp

@[simp] theorem State.storeBody_frame (l : Fin 8) (r : Reception) (b : List Byte) :
    (s.storeBody l r b).port = s.port ∧ (s.storeBody l r b).admission = s.admission ∧
    (s.storeBody l r b).holdAsserted = s.holdAsserted ∧ (s.storeBody l r b).holdQuantum = s.holdQuantum ∧
    (s.storeBody l r b).used = s.used ∧ (s.storeBody l r b).records = s.records ∧
    (s.storeBody l r b).waiting = s.waiting ∧ (s.storeBody l r b).formats = s.formats ∧
    (s.storeBody l r b).series = s.series ∧ (s.storeBody l r b).slots = s.slots ∧
    (s.storeBody l r b).retryEvents = s.retryEvents ∧ (s.storeBody l r b).heads = s.heads ∧
    (s.storeBody l r b).freeCount = s.freeCount ∧ (s.storeBody l r b).pending = s.pending := by simp [State.storeBody]

@[simp] theorem State.takeBody_frame (l : Fin 8) (b : List Byte) :
    (s.takeBody l b).admission = s.admission ∧ (s.takeBody l b).holdQuantum = s.holdQuantum ∧
    (s.takeBody l b).waiting = s.waiting ∧ (s.takeBody l b).formats = s.formats ∧
    (s.takeBody l b).series = s.series ∧ (s.takeBody l b).retryEvents = s.retryEvents ∧
    (s.takeBody l b).freeCount = s.freeCount ∧ (s.takeBody l b).pending = s.pending := by unfold State.takeBody; (repeat' split) <;> simp

@[simp] theorem State.acceptReception_frame (l : Fin 8) (r : Reception) :
    (s.acceptReception l r).port = s.port ∧ (s.acceptReception l r).admission = s.admission ∧
    (s.acceptReception l r).holdAsserted = s.holdAsserted ∧ (s.acceptReception l r).holdQuantum = s.holdQuantum ∧
    (s.acceptReception l r).used = s.used ∧ (s.acceptReception l r).mem = s.mem ∧
    (s.acceptReception l r).formats = s.formats ∧ (s.acceptReception l r).retryEvents = s.retryEvents ∧
    (s.acceptReception l r).freeCount = s.freeCount ∧ (s.acceptReception l r).pending = s.pending := by simp [State.acceptReception]

@[simp] theorem State.takeEnd_frame (l : Fin 8) (c : BitVec 32) :
    (s.takeEnd l c).admission = s.admission ∧ (s.takeEnd l c).holdQuantum = s.holdQuantum ∧
    (s.takeEnd l c).mem = s.mem ∧ (s.takeEnd l c).formats = s.formats ∧
    (s.takeEnd l c).retryEvents = s.retryEvents ∧ (s.takeEnd l c).freeCount = s.freeCount ∧
    (s.takeEnd l c).pending = s.pending := by unfold State.takeEnd; (repeat' split) <;> simp

@[simp] theorem State.takeProbe_frame (l : Fin 8) :
    (s.takeProbe l).port = s.port ∧ (s.takeProbe l).admission = s.admission ∧
    (s.takeProbe l).holdAsserted = s.holdAsserted ∧ (s.takeProbe l).holdQuantum = s.holdQuantum ∧
    (s.takeProbe l).used = s.used ∧ (s.takeProbe l).mem = s.mem ∧ (s.takeProbe l).records = s.records ∧
    (s.takeProbe l).waiting = s.waiting ∧ (s.takeProbe l).formats = s.formats ∧ (s.takeProbe l).series = s.series ∧
    (s.takeProbe l).slots = s.slots ∧ (s.takeProbe l).retryEvents = s.retryEvents ∧
    (s.takeProbe l).heads = s.heads ∧ (s.takeProbe l).pending = s.pending := by simp [State.takeProbe]

@[simp] theorem State.markWithdrawn_frame (k : Key) :
    (s.markWithdrawn k).port = s.port ∧ (s.markWithdrawn k).admission = s.admission ∧
    (s.markWithdrawn k).holdAsserted = s.holdAsserted ∧ (s.markWithdrawn k).holdQuantum = s.holdQuantum ∧
    (s.markWithdrawn k).used = s.used ∧ (s.markWithdrawn k).mem = s.mem ∧ (s.markWithdrawn k).records = s.records ∧
    (s.markWithdrawn k).waiting = s.waiting ∧ (s.markWithdrawn k).formats = s.formats ∧
    (s.markWithdrawn k).series = s.series ∧ (s.markWithdrawn k).slots = s.slots ∧
    (s.markWithdrawn k).retryEvents = s.retryEvents ∧ (s.markWithdrawn k).heads = s.heads ∧
    (s.markWithdrawn k).freeCount = s.freeCount ∧ (s.markWithdrawn k).pending = s.pending := by unfold State.markWithdrawn; (repeat' split) <;> simp

@[simp] theorem State.carrierAppears_frame (l : Fin 8) :
    (s.carrierAppears l).port = s.port ∧ (s.carrierAppears l).admission = s.admission ∧
    (s.carrierAppears l).holdAsserted = s.holdAsserted ∧ (s.carrierAppears l).holdQuantum = s.holdQuantum ∧
    (s.carrierAppears l).used = s.used ∧ (s.carrierAppears l).mem = s.mem ∧
    (s.carrierAppears l).records = s.records ∧ (s.carrierAppears l).waiting = s.waiting ∧
    (s.carrierAppears l).formats = s.formats ∧ (s.carrierAppears l).series = s.series ∧
    (s.carrierAppears l).slots = s.slots ∧ (s.carrierAppears l).retryEvents = s.retryEvents ∧
    (s.carrierAppears l).heads = s.heads ∧ (s.carrierAppears l).freeCount = s.freeCount ∧
    (s.carrierAppears l).pending = s.pending := by unfold State.carrierAppears; dsimp only; (repeat' split) <;> simp

@[simp] theorem State.carrierLost_frame (l : Fin 8) :
    (s.carrierLost l).port = s.port ∧ (s.carrierLost l).admission = s.admission ∧
    (s.carrierLost l).holdAsserted = s.holdAsserted ∧ (s.carrierLost l).holdQuantum = s.holdQuantum ∧
    (s.carrierLost l).used = s.used ∧ (s.carrierLost l).mem = s.mem ∧ (s.carrierLost l).records = s.records ∧
    (s.carrierLost l).waiting = s.waiting ∧ (s.carrierLost l).formats = s.formats ∧
    (s.carrierLost l).series = s.series ∧ (s.carrierLost l).slots = s.slots ∧
    (s.carrierLost l).retryEvents = s.retryEvents ∧ (s.carrierLost l).heads = s.heads ∧
    (s.carrierLost l).freeCount = s.freeCount ∧ (s.carrierLost l).pending = s.pending := by simp [State.carrierLost]

@[simp] theorem State.endWithCarrier_frame (l : Fin 8) (r : Reception) :
    (s.endWithCarrier l r).admission = s.admission ∧ (s.endWithCarrier l r).holdQuantum = s.holdQuantum ∧
    (s.endWithCarrier l r).mem = s.mem ∧ (s.endWithCarrier l r).waiting = s.waiting ∧
    (s.endWithCarrier l r).formats = s.formats ∧ (s.endWithCarrier l r).series = s.series ∧
    (s.endWithCarrier l r).retryEvents = s.retryEvents ∧ (s.endWithCarrier l r).freeCount = s.freeCount ∧
    (s.endWithCarrier l r).pending = s.pending := by unfold State.endWithCarrier; dsimp only; (repeat' split) <;> simp

/-! ### Heads -/

@[simp] theorem State.setPhase_frame (h : Fin 4) (p : Phase) :
    (s.setPhase h p).port = s.port ∧ (s.setPhase h p).links = s.links ∧ (s.setPhase h p).admission = s.admission ∧
    (s.setPhase h p).holdAsserted = s.holdAsserted ∧ (s.setPhase h p).holdQuantum = s.holdQuantum ∧
    (s.setPhase h p).used = s.used ∧ (s.setPhase h p).mem = s.mem ∧ (s.setPhase h p).records = s.records ∧
    (s.setPhase h p).waiting = s.waiting ∧ (s.setPhase h p).formats = s.formats ∧
    (s.setPhase h p).series = s.series ∧ (s.setPhase h p).slots = s.slots ∧
    (s.setPhase h p).retryEvents = s.retryEvents ∧ (s.setPhase h p).freeCount = s.freeCount ∧
    (s.setPhase h p).pending = s.pending := by simp [State.setPhase]

@[simp] theorem State.driveStage_frame (h : Fin 4) (p : Int × Int) :
    (s.driveStage h p).port = s.port ∧ (s.driveStage h p).links = s.links ∧
    (s.driveStage h p).admission = s.admission ∧ (s.driveStage h p).holdAsserted = s.holdAsserted ∧
    (s.driveStage h p).holdQuantum = s.holdQuantum ∧ (s.driveStage h p).used = s.used ∧
    (s.driveStage h p).mem = s.mem ∧ (s.driveStage h p).records = s.records ∧
    (s.driveStage h p).waiting = s.waiting ∧ (s.driveStage h p).formats = s.formats ∧
    (s.driveStage h p).series = s.series ∧ (s.driveStage h p).slots = s.slots ∧
    (s.driveStage h p).retryEvents = s.retryEvents ∧ (s.driveStage h p).freeCount = s.freeCount ∧
    (s.driveStage h p).pending = s.pending := by simp [State.driveStage]

@[simp] theorem State.enterAcquiring_frame (h : Fin 4) :
    (s.enterAcquiring h).port = s.port ∧ (s.enterAcquiring h).links = s.links ∧
    (s.enterAcquiring h).admission = s.admission ∧ (s.enterAcquiring h).holdAsserted = s.holdAsserted ∧
    (s.enterAcquiring h).holdQuantum = s.holdQuantum ∧ (s.enterAcquiring h).used = s.used ∧
    (s.enterAcquiring h).mem = s.mem ∧ (s.enterAcquiring h).records = s.records ∧
    (s.enterAcquiring h).waiting = s.waiting ∧ (s.enterAcquiring h).formats = s.formats ∧
    (s.enterAcquiring h).series = s.series ∧ (s.enterAcquiring h).slots = s.slots ∧
    (s.enterAcquiring h).retryEvents = s.retryEvents ∧ (s.enterAcquiring h).freeCount = s.freeCount ∧
    (s.enterAcquiring h).pending = s.pending := by simp [State.enterAcquiring]

@[simp] theorem State.enterPositioning_frame (h : Fin 4) (e : Entry) :
    (s.enterPositioning h e).port = s.port ∧ (s.enterPositioning h e).links = s.links ∧
    (s.enterPositioning h e).admission = s.admission ∧ (s.enterPositioning h e).holdAsserted = s.holdAsserted ∧
    (s.enterPositioning h e).holdQuantum = s.holdQuantum ∧ (s.enterPositioning h e).used = s.used ∧
    (s.enterPositioning h e).mem = s.mem ∧ (s.enterPositioning h e).records = s.records ∧
    (s.enterPositioning h e).waiting = s.waiting ∧ (s.enterPositioning h e).formats = s.formats ∧
    (s.enterPositioning h e).series = s.series ∧ (s.enterPositioning h e).slots = s.slots ∧
    (s.enterPositioning h e).retryEvents = s.retryEvents ∧ (s.enterPositioning h e).freeCount = s.freeCount ∧
    (s.enterPositioning h e).pending = s.pending := by simp [State.enterPositioning]

@[simp] theorem State.enterAdvancing_frame (h : Fin 4) (n : Nat) :
    (s.enterAdvancing h n).port = s.port ∧ (s.enterAdvancing h n).links = s.links ∧
    (s.enterAdvancing h n).admission = s.admission ∧ (s.enterAdvancing h n).holdAsserted = s.holdAsserted ∧
    (s.enterAdvancing h n).holdQuantum = s.holdQuantum ∧ (s.enterAdvancing h n).used = s.used ∧
    (s.enterAdvancing h n).mem = s.mem ∧ (s.enterAdvancing h n).records = s.records ∧
    (s.enterAdvancing h n).waiting = s.waiting ∧ (s.enterAdvancing h n).formats = s.formats ∧
    (s.enterAdvancing h n).series = s.series ∧ (s.enterAdvancing h n).slots = s.slots ∧
    (s.enterAdvancing h n).retryEvents = s.retryEvents ∧ (s.enterAdvancing h n).freeCount = s.freeCount ∧
    (s.enterAdvancing h n).pending = s.pending := by simp [State.enterAdvancing]

@[simp] theorem State.enterDrawing_frame (h : Fin 4) (e : Entry) :
    (s.enterDrawing h e).port = s.port ∧ (s.enterDrawing h e).links = s.links ∧
    (s.enterDrawing h e).admission = s.admission ∧ (s.enterDrawing h e).holdAsserted = s.holdAsserted ∧
    (s.enterDrawing h e).holdQuantum = s.holdQuantum ∧ (s.enterDrawing h e).used = s.used ∧
    (s.enterDrawing h e).mem = s.mem ∧ (s.enterDrawing h e).records = s.records ∧
    (s.enterDrawing h e).waiting = s.waiting ∧ (s.enterDrawing h e).formats = s.formats ∧
    (s.enterDrawing h e).series = s.series ∧ (s.enterDrawing h e).slots = s.slots ∧
    (s.enterDrawing h e).retryEvents = s.retryEvents ∧ (s.enterDrawing h e).freeCount = s.freeCount ∧
    (s.enterDrawing h e).pending = s.pending := by simp [State.enterDrawing]

@[simp] theorem State.firstPhase_frame (h : Fin 4) (e : Entry) :
    (s.firstPhase h e).port = s.port ∧ (s.firstPhase h e).links = s.links ∧
    (s.firstPhase h e).admission = s.admission ∧ (s.firstPhase h e).holdAsserted = s.holdAsserted ∧
    (s.firstPhase h e).holdQuantum = s.holdQuantum ∧ (s.firstPhase h e).used = s.used ∧
    (s.firstPhase h e).mem = s.mem ∧ (s.firstPhase h e).records = s.records ∧
    (s.firstPhase h e).waiting = s.waiting ∧ (s.firstPhase h e).formats = s.formats ∧
    (s.firstPhase h e).series = s.series ∧ (s.firstPhase h e).slots = s.slots ∧
    (s.firstPhase h e).retryEvents = s.retryEvents ∧ (s.firstPhase h e).freeCount = s.freeCount ∧
    (s.firstPhase h e).pending = s.pending := by unfold State.firstPhase; (repeat' split) <;> simp

@[simp] theorem State.modEntryRecord_frame (e : Entry) (f : Record → Record) :
    (s.modEntryRecord e f).port = s.port ∧ (s.modEntryRecord e f).links = s.links ∧
    (s.modEntryRecord e f).admission = s.admission ∧ (s.modEntryRecord e f).holdAsserted = s.holdAsserted ∧
    (s.modEntryRecord e f).holdQuantum = s.holdQuantum ∧ (s.modEntryRecord e f).used = s.used ∧
    (s.modEntryRecord e f).mem = s.mem ∧ (s.modEntryRecord e f).waiting = s.waiting ∧
    (s.modEntryRecord e f).formats = s.formats ∧ (s.modEntryRecord e f).series = s.series ∧
    (s.modEntryRecord e f).slots = s.slots ∧ (s.modEntryRecord e f).retryEvents = s.retryEvents ∧
    (s.modEntryRecord e f).heads = s.heads ∧ (s.modEntryRecord e f).freeCount = s.freeCount ∧
    (s.modEntryRecord e f).pending = s.pending := by unfold State.modEntryRecord; (repeat' split) <;> simp

@[simp] theorem State.takeEntry_frame (h : Fin 4) (e : Entry) (q : List Entry) :
    (s.takeEntry h e q).port = s.port ∧ (s.takeEntry h e q).links = s.links ∧
    (s.takeEntry h e q).admission = s.admission ∧ (s.takeEntry h e q).holdAsserted = s.holdAsserted ∧
    (s.takeEntry h e q).holdQuantum = s.holdQuantum ∧ (s.takeEntry h e q).used = s.used ∧
    (s.takeEntry h e q).mem = s.mem ∧ (s.takeEntry h e q).waiting = s.waiting ∧
    (s.takeEntry h e q).formats = s.formats ∧ (s.takeEntry h e q).series = s.series ∧
    (s.takeEntry h e q).slots = s.slots ∧ (s.takeEntry h e q).retryEvents = s.retryEvents ∧
    (s.takeEntry h e q).freeCount = s.freeCount ∧ (s.takeEntry h e q).pending = s.pending := by simp [State.takeEntry]

@[simp] theorem State.returnEntry_frame (h : Fin 4) (e : Entry) :
    (s.returnEntry h e).port = s.port ∧ (s.returnEntry h e).links = s.links ∧
    (s.returnEntry h e).admission = s.admission ∧ (s.returnEntry h e).holdAsserted = s.holdAsserted ∧
    (s.returnEntry h e).holdQuantum = s.holdQuantum ∧ (s.returnEntry h e).used = s.used ∧
    (s.returnEntry h e).mem = s.mem ∧ (s.returnEntry h e).waiting = s.waiting ∧
    (s.returnEntry h e).formats = s.formats ∧ (s.returnEntry h e).series = s.series ∧
    (s.returnEntry h e).slots = s.slots ∧ (s.returnEntry h e).retryEvents = s.retryEvents ∧
    (s.returnEntry h e).freeCount = s.freeCount ∧ (s.returnEntry h e).pending = s.pending := by simp [State.returnEntry]

@[simp] theorem State.endEntry_frame (h : Fin 4) :
    (s.endEntry h).links = s.links ∧ (s.endEntry h).admission = s.admission ∧
    (s.endEntry h).holdAsserted = s.holdAsserted ∧ (s.endEntry h).holdQuantum = s.holdQuantum ∧
    (s.endEntry h).used = s.used ∧ (s.endEntry h).mem = s.mem ∧ (s.endEntry h).records = s.records ∧
    (s.endEntry h).waiting = s.waiting ∧ (s.endEntry h).formats = s.formats ∧ (s.endEntry h).series = s.series ∧
    (s.endEntry h).slots = s.slots ∧ (s.endEntry h).retryEvents = s.retryEvents ∧
    (s.endEntry h).freeCount = s.freeCount ∧ (s.endEntry h).pending = s.pending := by unfold State.endEntry; dsimp only; (repeat' split) <;> simp

@[simp] theorem State.spoil_frame (i : Fin 12) (n : Nat) :
    (s.spoil i n).port = s.port ∧ (s.spoil i n).links = s.links ∧ (s.spoil i n).admission = s.admission ∧
    (s.spoil i n).holdAsserted = s.holdAsserted ∧ (s.spoil i n).holdQuantum = s.holdQuantum ∧
    (s.spoil i n).used = s.used ∧ (s.spoil i n).mem = s.mem ∧ (s.spoil i n).formats = s.formats ∧
    (s.spoil i n).retryEvents = s.retryEvents ∧ (s.spoil i n).freeCount = s.freeCount ∧
    (s.spoil i n).pending = s.pending := by
  unfold State.spoil
  dsimp only
  split
  · simp
  · next r _ =>
    split
    · next u he => have hs := congrArg Prod.fst he; dsimp only at hs; subst hs; simp
    · next u he => have hs := congrArg Prod.fst he; dsimp only at hs; subst hs; split <;> simp

@[simp] theorem State.interruptEntry_frame (h : Fin 4) (e : Entry) :
    (s.interruptEntry h e).port = s.port ∧ (s.interruptEntry h e).links = s.links ∧
    (s.interruptEntry h e).admission = s.admission ∧ (s.interruptEntry h e).holdAsserted = s.holdAsserted ∧
    (s.interruptEntry h e).holdQuantum = s.holdQuantum ∧ (s.interruptEntry h e).used = s.used ∧
    (s.interruptEntry h e).mem = s.mem ∧ (s.interruptEntry h e).formats = s.formats ∧
    (s.interruptEntry h e).retryEvents = s.retryEvents ∧ (s.interruptEntry h e).freeCount = s.freeCount ∧
    (s.interruptEntry h e).pending = s.pending := by unfold State.interruptEntry; (repeat' split) <;> simp

@[simp] theorem State.enterFault_frame (h : Fin 4) (k : FaultKind) :
    (s.enterFault h k).links = s.links ∧ (s.enterFault h k).admission = s.admission ∧
    (s.enterFault h k).holdAsserted = s.holdAsserted ∧ (s.enterFault h k).holdQuantum = s.holdQuantum ∧
    (s.enterFault h k).used = s.used ∧ (s.enterFault h k).mem = s.mem ∧ (s.enterFault h k).formats = s.formats ∧
    (s.enterFault h k).retryEvents = s.retryEvents ∧ (s.enterFault h k).freeCount = s.freeCount ∧
    (s.enterFault h k).pending = s.pending := by unfold State.enterFault; dsimp only; (repeat' split) <;> simp

@[simp] theorem State.trackerAcquire_frame (h : Fin 4) :
    (s.trackerAcquire h).links = s.links ∧ (s.trackerAcquire h).admission = s.admission ∧
    (s.trackerAcquire h).holdAsserted = s.holdAsserted ∧ (s.trackerAcquire h).holdQuantum = s.holdQuantum ∧
    (s.trackerAcquire h).used = s.used ∧ (s.trackerAcquire h).mem = s.mem ∧
    (s.trackerAcquire h).records = s.records ∧ (s.trackerAcquire h).waiting = s.waiting ∧
    (s.trackerAcquire h).formats = s.formats ∧ (s.trackerAcquire h).series = s.series ∧
    (s.trackerAcquire h).slots = s.slots ∧ (s.trackerAcquire h).retryEvents = s.retryEvents ∧
    (s.trackerAcquire h).freeCount = s.freeCount ∧ (s.trackerAcquire h).pending = s.pending := by unfold State.trackerAcquire; dsimp only; (repeat' split) <;> simp

@[simp] theorem State.acquisitionReading_frame (h : Fin 4) (e : Entry) (r : Run) (x : Reading) :
    (s.acquisitionReading h e r x).links = s.links ∧ (s.acquisitionReading h e r x).admission = s.admission ∧
    (s.acquisitionReading h e r x).holdAsserted = s.holdAsserted ∧
    (s.acquisitionReading h e r x).holdQuantum = s.holdQuantum ∧ (s.acquisitionReading h e r x).used = s.used ∧
    (s.acquisitionReading h e r x).mem = s.mem ∧ (s.acquisitionReading h e r x).formats = s.formats ∧
    (s.acquisitionReading h e r x).retryEvents = s.retryEvents ∧
    (s.acquisitionReading h e r x).freeCount = s.freeCount ∧ (s.acquisitionReading h e r x).pending = s.pending := by unfold State.acquisitionReading; dsimp only; (repeat' split) <;> simp

@[simp] theorem State.positioningReading_frame (h : Fin 4) (e : Entry) (x : Reading) :
    (s.positioningReading h e x).links = s.links ∧ (s.positioningReading h e x).admission = s.admission ∧
    (s.positioningReading h e x).holdAsserted = s.holdAsserted ∧
    (s.positioningReading h e x).holdQuantum = s.holdQuantum ∧ (s.positioningReading h e x).used = s.used ∧
    (s.positioningReading h e x).mem = s.mem ∧ (s.positioningReading h e x).waiting = s.waiting ∧
    (s.positioningReading h e x).formats = s.formats ∧ (s.positioningReading h e x).series = s.series ∧
    (s.positioningReading h e x).slots = s.slots ∧ (s.positioningReading h e x).retryEvents = s.retryEvents ∧
    (s.positioningReading h e x).freeCount = s.freeCount ∧ (s.positioningReading h e x).pending = s.pending := by unfold State.positioningReading; dsimp only; (repeat' split) <;> simp

@[simp] theorem State.sheetReached_frame (h : Fin 4) (n : Nat) :
    (s.sheetReached h n).port = s.port ∧ (s.sheetReached h n).links = s.links ∧
    (s.sheetReached h n).admission = s.admission ∧ (s.sheetReached h n).holdAsserted = s.holdAsserted ∧
    (s.sheetReached h n).holdQuantum = s.holdQuantum ∧ (s.sheetReached h n).used = s.used ∧
    (s.sheetReached h n).mem = s.mem ∧ (s.sheetReached h n).records = s.records ∧
    (s.sheetReached h n).waiting = s.waiting ∧ (s.sheetReached h n).formats = s.formats ∧
    (s.sheetReached h n).series = s.series ∧ (s.sheetReached h n).slots = s.slots ∧
    (s.sheetReached h n).retryEvents = s.retryEvents ∧ (s.sheetReached h n).freeCount = s.freeCount ∧
    (s.sheetReached h n).pending = s.pending := by simp [State.sheetReached]

@[simp] theorem State.resetHead_frame (h : Fin 4) :
    (s.resetHead h).links = s.links ∧ (s.resetHead h).admission = s.admission ∧
    (s.resetHead h).holdAsserted = s.holdAsserted ∧ (s.resetHead h).holdQuantum = s.holdQuantum ∧
    (s.resetHead h).used = s.used ∧ (s.resetHead h).mem = s.mem ∧ (s.resetHead h).records = s.records ∧
    (s.resetHead h).waiting = s.waiting ∧ (s.resetHead h).formats = s.formats ∧ (s.resetHead h).series = s.series ∧
    (s.resetHead h).slots = s.slots ∧ (s.resetHead h).retryEvents = s.retryEvents ∧
    (s.resetHead h).freeCount = s.freeCount ∧ (s.resetHead h).pending = s.pending := by simp [State.resetHead]

@[simp] theorem State.judgeDose_frame (h : Fin 4) (m : Nat) :
    (s.judgeDose h m).links = s.links ∧ (s.judgeDose h m).admission = s.admission ∧
    (s.judgeDose h m).holdAsserted = s.holdAsserted ∧ (s.judgeDose h m).holdQuantum = s.holdQuantum ∧
    (s.judgeDose h m).used = s.used ∧ (s.judgeDose h m).mem = s.mem ∧ (s.judgeDose h m).records = s.records ∧
    (s.judgeDose h m).waiting = s.waiting ∧ (s.judgeDose h m).formats = s.formats ∧
    (s.judgeDose h m).series = s.series ∧ (s.judgeDose h m).slots = s.slots ∧
    (s.judgeDose h m).retryEvents = s.retryEvents ∧ (s.judgeDose h m).freeCount = s.freeCount ∧
    (s.judgeDose h m).pending = s.pending := by unfold State.judgeDose; dsimp only; (repeat' split) <;> simp

@[simp] theorem State.putNotice_frame (n : Notice) :
    (s.putNotice n).links = s.links ∧ (s.putNotice n).admission = s.admission ∧
    (s.putNotice n).holdAsserted = s.holdAsserted ∧ (s.putNotice n).holdQuantum = s.holdQuantum ∧
    (s.putNotice n).used = s.used ∧ (s.putNotice n).mem = s.mem ∧ (s.putNotice n).records = s.records ∧
    (s.putNotice n).waiting = s.waiting ∧ (s.putNotice n).formats = s.formats ∧ (s.putNotice n).series = s.series ∧
    (s.putNotice n).slots = s.slots ∧ (s.putNotice n).retryEvents = s.retryEvents ∧
    (s.putNotice n).heads = s.heads ∧ (s.putNotice n).freeCount = s.freeCount ∧ (s.putNotice n).pending = s.pending := by unfold State.putNotice; (repeat' split) <;> simp

@[simp] theorem State.leaveTable_frame (i : Fin 12) :
    (s.leaveTable i).links = s.links ∧ (s.leaveTable i).admission = s.admission ∧
    (s.leaveTable i).holdAsserted = s.holdAsserted ∧ (s.leaveTable i).holdQuantum = s.holdQuantum ∧
    (s.leaveTable i).used = s.used ∧ (s.leaveTable i).mem = s.mem ∧ (s.leaveTable i).records = s.records ∧
    (s.leaveTable i).waiting = s.waiting ∧ (s.leaveTable i).formats = s.formats ∧
    (s.leaveTable i).series = s.series ∧ (s.leaveTable i).heads = s.heads ∧
    (s.leaveTable i).freeCount = s.freeCount ∧ (s.leaveTable i).pending = s.pending := by simp [State.leaveTable]

@[simp] theorem State.completeIndex_frame (i : Fin 12) (n : Nat) :
    (s.completeIndex i n).links = s.links ∧ (s.completeIndex i n).admission = s.admission ∧
    (s.completeIndex i n).holdAsserted = s.holdAsserted ∧ (s.completeIndex i n).holdQuantum = s.holdQuantum ∧
    (s.completeIndex i n).used = s.used ∧ (s.completeIndex i n).mem = s.mem ∧
    (s.completeIndex i n).records = s.records ∧ (s.completeIndex i n).waiting = s.waiting ∧
    (s.completeIndex i n).formats = s.formats ∧ (s.completeIndex i n).series = s.series ∧
    (s.completeIndex i n).heads = s.heads ∧ (s.completeIndex i n).freeCount = s.freeCount ∧
    (s.completeIndex i n).pending = s.pending := by unfold State.completeIndex; dsimp only; (repeat' split) <;> simp

@[simp] theorem State.completeCell_frame (i : Fin 12) (n : Nat) (d : Bool) :
    (s.completeCell i n d).admission = s.admission ∧ (s.completeCell i n d).holdQuantum = s.holdQuantum ∧
    (s.completeCell i n d).mem = s.mem ∧ (s.completeCell i n d).waiting = s.waiting ∧
    (s.completeCell i n d).formats = s.formats ∧ (s.completeCell i n d).series = s.series ∧
    (s.completeCell i n d).retryEvents = s.retryEvents ∧ (s.completeCell i n d).freeCount = s.freeCount ∧
    (s.completeCell i n d).pending = s.pending := by unfold State.completeCell; dsimp only; (repeat' split) <;> simp

@[simp] theorem State.complete_frame (h : Fin 4) (e : Entry) (d : Bool) :
    (s.complete h e d).admission = s.admission ∧ (s.complete h e d).holdQuantum = s.holdQuantum ∧
    (s.complete h e d).mem = s.mem ∧ (s.complete h e d).waiting = s.waiting ∧
    (s.complete h e d).formats = s.formats ∧ (s.complete h e d).series = s.series ∧
    (s.complete h e d).freeCount = s.freeCount ∧ (s.complete h e d).pending = s.pending := by unfold State.complete; (repeat' split) <;> simp

@[simp] theorem State.drawEnds_frame (h : Fin 4) (e : Entry) (m : Nat) :
    (s.drawEnds h e m).admission = s.admission ∧ (s.drawEnds h e m).holdQuantum = s.holdQuantum ∧
    (s.drawEnds h e m).mem = s.mem ∧ (s.drawEnds h e m).waiting = s.waiting ∧
    (s.drawEnds h e m).formats = s.formats ∧ (s.drawEnds h e m).series = s.series ∧
    (s.drawEnds h e m).freeCount = s.freeCount ∧ (s.drawEnds h e m).pending = s.pending := by unfold State.drawEnds; dsimp only; (repeat' split) <;> simp

/-! ### Requests -/

@[simp] theorem State.finishRequest_frame (b : Nat) (r : Response) :
    (s.finishRequest b r).links = s.links ∧ (s.finishRequest b r).admission = s.admission ∧
    (s.finishRequest b r).holdAsserted = s.holdAsserted ∧ (s.finishRequest b r).holdQuantum = s.holdQuantum ∧
    (s.finishRequest b r).used = s.used ∧ (s.finishRequest b r).mem = s.mem ∧
    (s.finishRequest b r).records = s.records ∧ (s.finishRequest b r).waiting = s.waiting ∧
    (s.finishRequest b r).formats = s.formats ∧ (s.finishRequest b r).series = s.series ∧
    (s.finishRequest b r).slots = s.slots ∧ (s.finishRequest b r).retryEvents = s.retryEvents ∧
    (s.finishRequest b r).heads = s.heads ∧ (s.finishRequest b r).freeCount = s.freeCount ∧
    (s.finishRequest b r).pending = s.pending := by simp [State.finishRequest]

@[simp] theorem State.startRequest_frame :
    (s.startRequest).links = s.links ∧ (s.startRequest).admission = s.admission ∧
    (s.startRequest).holdAsserted = s.holdAsserted ∧ (s.startRequest).holdQuantum = s.holdQuantum ∧
    (s.startRequest).used = s.used ∧ (s.startRequest).mem = s.mem ∧ (s.startRequest).records = s.records ∧
    (s.startRequest).waiting = s.waiting ∧ (s.startRequest).formats = s.formats ∧
    (s.startRequest).series = s.series ∧ (s.startRequest).slots = s.slots ∧
    (s.startRequest).retryEvents = s.retryEvents ∧ (s.startRequest).heads = s.heads ∧
    (s.startRequest).freeCount = s.freeCount ∧ (s.startRequest).pending = s.pending := by simp [State.startRequest]

@[simp] theorem State.writeRequest_frame (w : List Word) :
    (s.writeRequest w).links = s.links ∧ (s.writeRequest w).admission = s.admission ∧
    (s.writeRequest w).holdAsserted = s.holdAsserted ∧ (s.writeRequest w).holdQuantum = s.holdQuantum ∧
    (s.writeRequest w).used = s.used ∧ (s.writeRequest w).mem = s.mem ∧ (s.writeRequest w).records = s.records ∧
    (s.writeRequest w).waiting = s.waiting ∧ (s.writeRequest w).formats = s.formats ∧
    (s.writeRequest w).series = s.series ∧ (s.writeRequest w).slots = s.slots ∧
    (s.writeRequest w).retryEvents = s.retryEvents ∧ (s.writeRequest w).heads = s.heads ∧
    (s.writeRequest w).freeCount = s.freeCount ∧ (s.writeRequest w).pending = s.pending := by simp [State.writeRequest]

@[simp] theorem State.freeReserved_frame (v : Reserved) :
    (s.freeReserved v).port = s.port ∧ (s.freeReserved v).links = s.links ∧
    (s.freeReserved v).admission = s.admission ∧ (s.freeReserved v).holdAsserted = s.holdAsserted ∧
    (s.freeReserved v).holdQuantum = s.holdQuantum ∧ (s.freeReserved v).used = s.used ∧
    (s.freeReserved v).mem = s.mem ∧ (s.freeReserved v).records = s.records ∧
    (s.freeReserved v).waiting = s.waiting ∧ (s.freeReserved v).formats = s.formats ∧
    (s.freeReserved v).series = s.series ∧ (s.freeReserved v).retryEvents = s.retryEvents ∧
    (s.freeReserved v).freeCount = s.freeCount ∧ (s.freeReserved v).pending = s.pending := by simp [State.freeReserved]

@[simp] theorem State.cancelRetake_frame (r : Record) :
    (s.cancelRetake r).admission = s.admission ∧ (s.cancelRetake r).holdQuantum = s.holdQuantum ∧
    (s.cancelRetake r).mem = s.mem ∧ (s.cancelRetake r).waiting = s.waiting ∧
    (s.cancelRetake r).formats = s.formats ∧ (s.cancelRetake r).series = s.series ∧
    (s.cancelRetake r).slots = s.slots ∧ (s.cancelRetake r).retryEvents = s.retryEvents ∧
    (s.cancelRetake r).heads = s.heads ∧ (s.cancelRetake r).freeCount = s.freeCount ∧
    (s.cancelRetake r).pending = s.pending := by simp [State.cancelRetake]

@[simp] theorem State.withdrawReceiving_frame (r : Record) :
    (s.withdrawReceiving r).admission = s.admission ∧ (s.withdrawReceiving r).holdQuantum = s.holdQuantum ∧
    (s.withdrawReceiving r).mem = s.mem ∧ (s.withdrawReceiving r).waiting = s.waiting ∧
    (s.withdrawReceiving r).formats = s.formats ∧ (s.withdrawReceiving r).series = s.series ∧
    (s.withdrawReceiving r).retryEvents = s.retryEvents ∧ (s.withdrawReceiving r).freeCount = s.freeCount ∧
    (s.withdrawReceiving r).pending = s.pending := by simp [State.withdrawReceiving]

@[simp] theorem State.withdrawWaiting_frame (r : Record) :
    (s.withdrawWaiting r).admission = s.admission ∧ (s.withdrawWaiting r).holdQuantum = s.holdQuantum ∧
    (s.withdrawWaiting r).mem = s.mem ∧ (s.withdrawWaiting r).formats = s.formats ∧
    (s.withdrawWaiting r).series = s.series ∧ (s.withdrawWaiting r).retryEvents = s.retryEvents ∧
    (s.withdrawWaiting r).freeCount = s.freeCount ∧ (s.withdrawWaiting r).pending = s.pending := by simp [State.withdrawWaiting]

@[simp] theorem State.withdrawReserved_frame (r : Record) :
    (s.withdrawReserved r).admission = s.admission ∧ (s.withdrawReserved r).holdQuantum = s.holdQuantum ∧
    (s.withdrawReserved r).mem = s.mem ∧ (s.withdrawReserved r).waiting = s.waiting ∧
    (s.withdrawReserved r).formats = s.formats ∧ (s.withdrawReserved r).series = s.series ∧
    (s.withdrawReserved r).retryEvents = s.retryEvents ∧ (s.withdrawReserved r).freeCount = s.freeCount ∧
    (s.withdrawReserved r).pending = s.pending := by unfold State.withdrawReserved; (repeat' split) <;> simp

@[simp] theorem State.withdrawRetakeReserved_frame (r : Record) :
    (s.withdrawRetakeReserved r).admission = s.admission ∧
    (s.withdrawRetakeReserved r).holdQuantum = s.holdQuantum ∧ (s.withdrawRetakeReserved r).mem = s.mem ∧
    (s.withdrawRetakeReserved r).waiting = s.waiting ∧ (s.withdrawRetakeReserved r).formats = s.formats ∧
    (s.withdrawRetakeReserved r).series = s.series ∧ (s.withdrawRetakeReserved r).retryEvents = s.retryEvents ∧
    (s.withdrawRetakeReserved r).freeCount = s.freeCount ∧ (s.withdrawRetakeReserved r).pending = s.pending := by unfold State.withdrawRetakeReserved; (repeat' split) <;> simp

@[simp] theorem State.rekeyPlace_frame (k : Key) (p : Place) :
    (State.rekeyPlace k s p).port = s.port ∧ (State.rekeyPlace k s p).links = s.links ∧
    (State.rekeyPlace k s p).admission = s.admission ∧ (State.rekeyPlace k s p).holdAsserted = s.holdAsserted ∧
    (State.rekeyPlace k s p).holdQuantum = s.holdQuantum ∧ (State.rekeyPlace k s p).used = s.used ∧
    (State.rekeyPlace k s p).mem = s.mem ∧ (State.rekeyPlace k s p).records = s.records ∧
    (State.rekeyPlace k s p).waiting = s.waiting ∧ (State.rekeyPlace k s p).formats = s.formats ∧
    (State.rekeyPlace k s p).series = s.series ∧ (State.rekeyPlace k s p).retryEvents = s.retryEvents ∧
    (State.rekeyPlace k s p).heads = s.heads ∧ (State.rekeyPlace k s p).freeCount = s.freeCount ∧
    (State.rekeyPlace k s p).pending = s.pending := by unfold State.rekeyPlace; (repeat' split) <;> simp

@[simp] theorem State.rekeyReserved_frame (k : Key) (v : Reserved) :
    (s.rekeyReserved k v).port = s.port ∧ (s.rekeyReserved k v).links = s.links ∧
    (s.rekeyReserved k v).admission = s.admission ∧ (s.rekeyReserved k v).holdAsserted = s.holdAsserted ∧
    (s.rekeyReserved k v).holdQuantum = s.holdQuantum ∧ (s.rekeyReserved k v).used = s.used ∧
    (s.rekeyReserved k v).mem = s.mem ∧ (s.rekeyReserved k v).records = s.records ∧
    (s.rekeyReserved k v).waiting = s.waiting ∧ (s.rekeyReserved k v).formats = s.formats ∧
    (s.rekeyReserved k v).series = s.series ∧ (s.rekeyReserved k v).retryEvents = s.retryEvents ∧
    (s.rekeyReserved k v).heads = s.heads ∧ (s.rekeyReserved k v).freeCount = s.freeCount ∧
    (s.rekeyReserved k v).pending = s.pending := by simp [State.rekeyReserved]

@[simp] theorem State.rekeyRecord_frame (r : Record) (k : Key) :
    (s.rekeyRecord r k).port = s.port ∧ (s.rekeyRecord r k).links = s.links ∧
    (s.rekeyRecord r k).admission = s.admission ∧ (s.rekeyRecord r k).holdAsserted = s.holdAsserted ∧
    (s.rekeyRecord r k).holdQuantum = s.holdQuantum ∧ (s.rekeyRecord r k).used = s.used ∧
    (s.rekeyRecord r k).mem = s.mem ∧ (s.rekeyRecord r k).formats = s.formats ∧
    (s.rekeyRecord r k).series = s.series ∧ (s.rekeyRecord r k).retryEvents = s.retryEvents ∧
    (s.rekeyRecord r k).heads = s.heads ∧ (s.rekeyRecord r k).freeCount = s.freeCount ∧
    (s.rekeyRecord r k).pending = s.pending := by
  unfold State.rekeyRecord
  dsimp only
  split
  · split <;> simp
  · exact frame_foldl (fun t : State => t.port = s.port ∧ t.links = s.links ∧ t.admission = s.admission ∧ t.holdAsserted = s.holdAsserted ∧ t.holdQuantum = s.holdQuantum ∧ t.used = s.used ∧ t.mem = s.mem ∧ t.formats = s.formats ∧ t.series = s.series ∧ t.retryEvents = s.retryEvents ∧ t.heads = s.heads ∧ t.freeCount = s.freeCount ∧ t.pending = s.pending) _ (fun t p ht => by simpa using ht) _ _ (by simp)
  · simp

/-! ### The port: what raises an indication leaves all of it but the change bits -/

@[simp] theorem State.raise_port (i : Indication) :
    (s.raise i).port.done = s.port.done ∧ (s.raise i).port.doneEnable = s.port.doneEnable ∧
    (s.raise i).port.requestBuffer = s.port.requestBuffer ∧
    (s.raise i).port.responseBuffer = s.port.responseBuffer ∧ (s.raise i).port.execution = s.port.execution ∧
    (s.raise i).port.enables = s.port.enables ∧ (s.raise i).port.notices = s.port.notices := by simp [State.raise]

@[simp] theorem State.assertHold_port :
    (s.assertHold).port.done = s.port.done ∧ (s.assertHold).port.doneEnable = s.port.doneEnable ∧
    (s.assertHold).port.requestBuffer = s.port.requestBuffer ∧
    (s.assertHold).port.responseBuffer = s.port.responseBuffer ∧ (s.assertHold).port.execution = s.port.execution ∧
    (s.assertHold).port.enables = s.port.enables ∧ (s.assertHold).port.notices = s.port.notices := by
  unfold State.assertHold
  exact frame_foldl (fun t : State => t.port.done = s.port.done ∧ t.port.doneEnable = s.port.doneEnable ∧ t.port.requestBuffer = s.port.requestBuffer ∧ t.port.responseBuffer = s.port.responseBuffer ∧ t.port.execution = s.port.execution ∧ t.port.enables = s.port.enables ∧ t.port.notices = s.port.notices) _ (fun t l ht => by split <;> simpa using ht) _ _ (by simp)

@[simp] theorem State.clearHold_port :
    (s.clearHold).port.done = s.port.done ∧ (s.clearHold).port.doneEnable = s.port.doneEnable ∧
    (s.clearHold).port.requestBuffer = s.port.requestBuffer ∧
    (s.clearHold).port.responseBuffer = s.port.responseBuffer ∧ (s.clearHold).port.execution = s.port.execution ∧
    (s.clearHold).port.enables = s.port.enables ∧ (s.clearHold).port.notices = s.port.notices := by
  unfold State.clearHold
  exact frame_foldl (fun t : State => t.port.done = s.port.done ∧ t.port.doneEnable = s.port.doneEnable ∧ t.port.requestBuffer = s.port.requestBuffer ∧ t.port.responseBuffer = s.port.responseBuffer ∧ t.port.execution = s.port.execution ∧ t.port.enables = s.port.enables ∧ t.port.notices = s.port.notices) _ (fun t l ht => by split <;> simpa using ht) _ _ (by simp)

@[simp] theorem State.judgeHold_port :
    (s.judgeHold).port.done = s.port.done ∧ (s.judgeHold).port.doneEnable = s.port.doneEnable ∧
    (s.judgeHold).port.requestBuffer = s.port.requestBuffer ∧
    (s.judgeHold).port.responseBuffer = s.port.responseBuffer ∧ (s.judgeHold).port.execution = s.port.execution ∧
    (s.judgeHold).port.enables = s.port.enables ∧ (s.judgeHold).port.notices = s.port.notices := by unfold State.judgeHold; (repeat' split) <;> simp

@[simp] theorem State.release_port (b : List Nat) :
    (s.release b).port.done = s.port.done ∧ (s.release b).port.doneEnable = s.port.doneEnable ∧
    (s.release b).port.requestBuffer = s.port.requestBuffer ∧
    (s.release b).port.responseBuffer = s.port.responseBuffer ∧ (s.release b).port.execution = s.port.execution ∧
    (s.release b).port.enables = s.port.enables ∧ (s.release b).port.notices = s.port.notices := by simp [State.release]

@[simp] theorem State.endReception_port (k : Key) :
    (s.endReception k).port.done = s.port.done ∧ (s.endReception k).port.doneEnable = s.port.doneEnable ∧
    (s.endReception k).port.requestBuffer = s.port.requestBuffer ∧
    (s.endReception k).port.responseBuffer = s.port.responseBuffer ∧
    (s.endReception k).port.execution = s.port.execution ∧ (s.endReception k).port.enables = s.port.enables ∧
    (s.endReception k).port.notices = s.port.notices := by unfold State.endReception; (repeat' split) <;> simp

@[simp] theorem State.placementNotice_port (n : PlacementNotice) :
    (s.placementNotice n).port.done = s.port.done ∧ (s.placementNotice n).port.doneEnable = s.port.doneEnable ∧
    (s.placementNotice n).port.requestBuffer = s.port.requestBuffer ∧
    (s.placementNotice n).port.responseBuffer = s.port.responseBuffer ∧
    (s.placementNotice n).port.execution = s.port.execution ∧ (s.placementNotice n).port.enables = s.port.enables ∧
    (s.placementNotice n).port.notices = s.port.notices := by unfold State.placementNotice; dsimp only; (repeat' split) <;> simp

@[simp] theorem State.finishRecord_port (k : Key) (d : Bool) :
    (s.finishRecord k d).port.done = s.port.done ∧ (s.finishRecord k d).port.doneEnable = s.port.doneEnable ∧
    (s.finishRecord k d).port.requestBuffer = s.port.requestBuffer ∧
    (s.finishRecord k d).port.responseBuffer = s.port.responseBuffer ∧
    (s.finishRecord k d).port.execution = s.port.execution ∧ (s.finishRecord k d).port.enables = s.port.enables ∧
    (s.finishRecord k d).port.notices = s.port.notices := by unfold State.finishRecord; dsimp only; (repeat' split) <;> simp

@[simp] theorem State.endWithRefuse_port (l : Fin 8) (r : Reception) (c : Cause) :
    (s.endWithRefuse l r c).port.done = s.port.done ∧ (s.endWithRefuse l r c).port.doneEnable = s.port.doneEnable ∧
    (s.endWithRefuse l r c).port.requestBuffer = s.port.requestBuffer ∧
    (s.endWithRefuse l r c).port.responseBuffer = s.port.responseBuffer ∧
    (s.endWithRefuse l r c).port.execution = s.port.execution ∧
    (s.endWithRefuse l r c).port.enables = s.port.enables ∧ (s.endWithRefuse l r c).port.notices = s.port.notices := by unfold State.endWithRefuse; (repeat' split) <;> simp

@[simp] theorem State.endRunning_port (l : Fin 8) (c : Cause) :
    (s.endRunning l c).port.done = s.port.done ∧ (s.endRunning l c).port.doneEnable = s.port.doneEnable ∧
    (s.endRunning l c).port.requestBuffer = s.port.requestBuffer ∧
    (s.endRunning l c).port.responseBuffer = s.port.responseBuffer ∧
    (s.endRunning l c).port.execution = s.port.execution ∧ (s.endRunning l c).port.enables = s.port.enables ∧
    (s.endRunning l c).port.notices = s.port.notices := by unfold State.endRunning; (repeat' split) <;> simp

@[simp] theorem State.takeBody_port (l : Fin 8) (b : List Byte) :
    (s.takeBody l b).port.done = s.port.done ∧ (s.takeBody l b).port.doneEnable = s.port.doneEnable ∧
    (s.takeBody l b).port.requestBuffer = s.port.requestBuffer ∧
    (s.takeBody l b).port.responseBuffer = s.port.responseBuffer ∧
    (s.takeBody l b).port.execution = s.port.execution ∧ (s.takeBody l b).port.enables = s.port.enables ∧
    (s.takeBody l b).port.notices = s.port.notices := by unfold State.takeBody; (repeat' split) <;> simp

@[simp] theorem State.takeEnd_port (l : Fin 8) (c : BitVec 32) :
    (s.takeEnd l c).port.done = s.port.done ∧ (s.takeEnd l c).port.doneEnable = s.port.doneEnable ∧
    (s.takeEnd l c).port.requestBuffer = s.port.requestBuffer ∧
    (s.takeEnd l c).port.responseBuffer = s.port.responseBuffer ∧
    (s.takeEnd l c).port.execution = s.port.execution ∧ (s.takeEnd l c).port.enables = s.port.enables ∧
    (s.takeEnd l c).port.notices = s.port.notices := by unfold State.takeEnd; (repeat' split) <;> simp

@[simp] theorem State.endWithCarrier_port (l : Fin 8) (r : Reception) :
    (s.endWithCarrier l r).port.done = s.port.done ∧ (s.endWithCarrier l r).port.doneEnable = s.port.doneEnable ∧
    (s.endWithCarrier l r).port.requestBuffer = s.port.requestBuffer ∧
    (s.endWithCarrier l r).port.responseBuffer = s.port.responseBuffer ∧
    (s.endWithCarrier l r).port.execution = s.port.execution ∧
    (s.endWithCarrier l r).port.enables = s.port.enables ∧ (s.endWithCarrier l r).port.notices = s.port.notices := by unfold State.endWithCarrier; dsimp only; (repeat' split) <;> simp

@[simp] theorem State.endEntry_port (h : Fin 4) :
    (s.endEntry h).port.done = s.port.done ∧ (s.endEntry h).port.doneEnable = s.port.doneEnable ∧
    (s.endEntry h).port.requestBuffer = s.port.requestBuffer ∧
    (s.endEntry h).port.responseBuffer = s.port.responseBuffer ∧ (s.endEntry h).port.execution = s.port.execution ∧
    (s.endEntry h).port.enables = s.port.enables ∧ (s.endEntry h).port.notices = s.port.notices := by unfold State.endEntry; dsimp only; (repeat' split) <;> simp

@[simp] theorem State.enterFault_port (h : Fin 4) (k : FaultKind) :
    (s.enterFault h k).port.done = s.port.done ∧ (s.enterFault h k).port.doneEnable = s.port.doneEnable ∧
    (s.enterFault h k).port.requestBuffer = s.port.requestBuffer ∧
    (s.enterFault h k).port.responseBuffer = s.port.responseBuffer ∧
    (s.enterFault h k).port.execution = s.port.execution ∧ (s.enterFault h k).port.enables = s.port.enables ∧
    (s.enterFault h k).port.notices = s.port.notices := by unfold State.enterFault; dsimp only; (repeat' split) <;> simp

@[simp] theorem State.trackerAcquire_port (h : Fin 4) :
    (s.trackerAcquire h).port.done = s.port.done ∧ (s.trackerAcquire h).port.doneEnable = s.port.doneEnable ∧
    (s.trackerAcquire h).port.requestBuffer = s.port.requestBuffer ∧
    (s.trackerAcquire h).port.responseBuffer = s.port.responseBuffer ∧
    (s.trackerAcquire h).port.execution = s.port.execution ∧ (s.trackerAcquire h).port.enables = s.port.enables ∧
    (s.trackerAcquire h).port.notices = s.port.notices := by unfold State.trackerAcquire; dsimp only; (repeat' split) <;> simp

@[simp] theorem State.acquisitionReading_port (h : Fin 4) (e : Entry) (r : Run) (x : Reading) :
    (s.acquisitionReading h e r x).port.done = s.port.done ∧
    (s.acquisitionReading h e r x).port.doneEnable = s.port.doneEnable ∧
    (s.acquisitionReading h e r x).port.requestBuffer = s.port.requestBuffer ∧
    (s.acquisitionReading h e r x).port.responseBuffer = s.port.responseBuffer ∧
    (s.acquisitionReading h e r x).port.execution = s.port.execution ∧
    (s.acquisitionReading h e r x).port.enables = s.port.enables ∧
    (s.acquisitionReading h e r x).port.notices = s.port.notices := by unfold State.acquisitionReading; dsimp only; (repeat' split) <;> simp

@[simp] theorem State.positioningReading_port (h : Fin 4) (e : Entry) (x : Reading) :
    (s.positioningReading h e x).port.done = s.port.done ∧
    (s.positioningReading h e x).port.doneEnable = s.port.doneEnable ∧
    (s.positioningReading h e x).port.requestBuffer = s.port.requestBuffer ∧
    (s.positioningReading h e x).port.responseBuffer = s.port.responseBuffer ∧
    (s.positioningReading h e x).port.execution = s.port.execution ∧
    (s.positioningReading h e x).port.enables = s.port.enables ∧
    (s.positioningReading h e x).port.notices = s.port.notices := by unfold State.positioningReading; dsimp only; (repeat' split) <;> simp

@[simp] theorem State.resetHead_port (h : Fin 4) :
    (s.resetHead h).port.done = s.port.done ∧ (s.resetHead h).port.doneEnable = s.port.doneEnable ∧
    (s.resetHead h).port.requestBuffer = s.port.requestBuffer ∧
    (s.resetHead h).port.responseBuffer = s.port.responseBuffer ∧
    (s.resetHead h).port.execution = s.port.execution ∧ (s.resetHead h).port.enables = s.port.enables ∧
    (s.resetHead h).port.notices = s.port.notices := by simp [State.resetHead]

@[simp] theorem State.judgeDose_port (h : Fin 4) (m : Nat) :
    (s.judgeDose h m).port.done = s.port.done ∧ (s.judgeDose h m).port.doneEnable = s.port.doneEnable ∧
    (s.judgeDose h m).port.requestBuffer = s.port.requestBuffer ∧
    (s.judgeDose h m).port.responseBuffer = s.port.responseBuffer ∧
    (s.judgeDose h m).port.execution = s.port.execution ∧ (s.judgeDose h m).port.enables = s.port.enables ∧
    (s.judgeDose h m).port.notices = s.port.notices := by unfold State.judgeDose; dsimp only; (repeat' split) <;> simp

@[simp] theorem State.putNotice_port (n : Notice) :
    (s.putNotice n).port.done = s.port.done ∧ (s.putNotice n).port.doneEnable = s.port.doneEnable ∧
    (s.putNotice n).port.requestBuffer = s.port.requestBuffer ∧
    (s.putNotice n).port.responseBuffer = s.port.responseBuffer ∧
    (s.putNotice n).port.execution = s.port.execution ∧ (s.putNotice n).port.enables = s.port.enables := by unfold State.putNotice; (repeat' split) <;> simp

@[simp] theorem State.leaveTable_port (i : Fin 12) :
    (s.leaveTable i).port.done = s.port.done ∧ (s.leaveTable i).port.doneEnable = s.port.doneEnable ∧
    (s.leaveTable i).port.requestBuffer = s.port.requestBuffer ∧
    (s.leaveTable i).port.responseBuffer = s.port.responseBuffer ∧
    (s.leaveTable i).port.execution = s.port.execution ∧ (s.leaveTable i).port.enables = s.port.enables := by simp [State.leaveTable]

@[simp] theorem State.completeIndex_port (i : Fin 12) (n : Nat) :
    (s.completeIndex i n).port.done = s.port.done ∧ (s.completeIndex i n).port.doneEnable = s.port.doneEnable ∧
    (s.completeIndex i n).port.requestBuffer = s.port.requestBuffer ∧
    (s.completeIndex i n).port.responseBuffer = s.port.responseBuffer ∧
    (s.completeIndex i n).port.execution = s.port.execution ∧ (s.completeIndex i n).port.enables = s.port.enables := by unfold State.completeIndex; dsimp only; (repeat' split) <;> simp

@[simp] theorem State.completeCell_port (i : Fin 12) (n : Nat) (d : Bool) :
    (s.completeCell i n d).port.done = s.port.done ∧ (s.completeCell i n d).port.doneEnable = s.port.doneEnable ∧
    (s.completeCell i n d).port.requestBuffer = s.port.requestBuffer ∧
    (s.completeCell i n d).port.responseBuffer = s.port.responseBuffer ∧
    (s.completeCell i n d).port.execution = s.port.execution ∧
    (s.completeCell i n d).port.enables = s.port.enables ∧ (s.completeCell i n d).port.notices = s.port.notices := by unfold State.completeCell; dsimp only; (repeat' split) <;> simp

@[simp] theorem State.complete_port (h : Fin 4) (e : Entry) (d : Bool) :
    (s.complete h e d).port.done = s.port.done ∧ (s.complete h e d).port.doneEnable = s.port.doneEnable ∧
    (s.complete h e d).port.requestBuffer = s.port.requestBuffer ∧
    (s.complete h e d).port.responseBuffer = s.port.responseBuffer ∧
    (s.complete h e d).port.execution = s.port.execution ∧ (s.complete h e d).port.enables = s.port.enables := by unfold State.complete; (repeat' split) <;> simp

@[simp] theorem State.drawEnds_port (h : Fin 4) (e : Entry) (m : Nat) :
    (s.drawEnds h e m).port.done = s.port.done ∧ (s.drawEnds h e m).port.doneEnable = s.port.doneEnable ∧
    (s.drawEnds h e m).port.requestBuffer = s.port.requestBuffer ∧
    (s.drawEnds h e m).port.responseBuffer = s.port.responseBuffer ∧
    (s.drawEnds h e m).port.execution = s.port.execution ∧ (s.drawEnds h e m).port.enables = s.port.enables := by unfold State.drawEnds; dsimp only; (repeat' split) <;> simp

@[simp] theorem State.cancelRetake_port (r : Record) :
    (s.cancelRetake r).port.done = s.port.done ∧ (s.cancelRetake r).port.doneEnable = s.port.doneEnable ∧
    (s.cancelRetake r).port.requestBuffer = s.port.requestBuffer ∧
    (s.cancelRetake r).port.responseBuffer = s.port.responseBuffer ∧
    (s.cancelRetake r).port.execution = s.port.execution ∧ (s.cancelRetake r).port.enables = s.port.enables ∧
    (s.cancelRetake r).port.notices = s.port.notices := by simp [State.cancelRetake]

@[simp] theorem State.withdrawReceiving_port (r : Record) :
    (s.withdrawReceiving r).port.done = s.port.done ∧ (s.withdrawReceiving r).port.doneEnable = s.port.doneEnable ∧
    (s.withdrawReceiving r).port.requestBuffer = s.port.requestBuffer ∧
    (s.withdrawReceiving r).port.responseBuffer = s.port.responseBuffer ∧
    (s.withdrawReceiving r).port.execution = s.port.execution ∧
    (s.withdrawReceiving r).port.enables = s.port.enables ∧ (s.withdrawReceiving r).port.notices = s.port.notices := by simp [State.withdrawReceiving]

@[simp] theorem State.withdrawWaiting_port (r : Record) :
    (s.withdrawWaiting r).port.done = s.port.done ∧ (s.withdrawWaiting r).port.doneEnable = s.port.doneEnable ∧
    (s.withdrawWaiting r).port.requestBuffer = s.port.requestBuffer ∧
    (s.withdrawWaiting r).port.responseBuffer = s.port.responseBuffer ∧
    (s.withdrawWaiting r).port.execution = s.port.execution ∧ (s.withdrawWaiting r).port.enables = s.port.enables ∧
    (s.withdrawWaiting r).port.notices = s.port.notices := by simp [State.withdrawWaiting]

@[simp] theorem State.withdrawReserved_port (r : Record) :
    (s.withdrawReserved r).port.done = s.port.done ∧ (s.withdrawReserved r).port.doneEnable = s.port.doneEnable ∧
    (s.withdrawReserved r).port.requestBuffer = s.port.requestBuffer ∧
    (s.withdrawReserved r).port.responseBuffer = s.port.responseBuffer ∧
    (s.withdrawReserved r).port.execution = s.port.execution ∧
    (s.withdrawReserved r).port.enables = s.port.enables ∧ (s.withdrawReserved r).port.notices = s.port.notices := by unfold State.withdrawReserved; (repeat' split) <;> simp

@[simp] theorem State.withdrawRetakeReserved_port (r : Record) :
    (s.withdrawRetakeReserved r).port.done = s.port.done ∧
    (s.withdrawRetakeReserved r).port.doneEnable = s.port.doneEnable ∧
    (s.withdrawRetakeReserved r).port.requestBuffer = s.port.requestBuffer ∧
    (s.withdrawRetakeReserved r).port.responseBuffer = s.port.responseBuffer ∧
    (s.withdrawRetakeReserved r).port.execution = s.port.execution ∧
    (s.withdrawRetakeReserved r).port.enables = s.port.enables ∧
    (s.withdrawRetakeReserved r).port.notices = s.port.notices := by unfold State.withdrawRetakeReserved; (repeat' split) <;> simp

/-! ### What the judgement of the hold rests on -/

/-- The hold is judged on used blocks, links and port alone (R133 to R136): records, waiting lists, slots and heads may be
put in before it or after it. -/
theorem State.judgeHold_tables (s : State) (rs : List Record) (ws : Vector (List Key) 32) (ts : Vector Slot 12)
    (ks : Vector Head 4) :
    ({ s with records := rs, waiting := ws, slots := ts, heads := ks } : State).judgeHold =
      { s.judgeHold with records := rs, waiting := ws, slots := ts, heads := ks } := by
  let put (t : State) : State := { t with records := rs, waiting := ws, slots := ts, heads := ks }
  have ha : (put s).assertHold = put s.assertHold := by
    unfold State.assertHold
    generalize allLinks = ls
    rw [← List.foldl_hom put (g₂ := fun t l => if t.links[l].active then t.sendHold l else t)]
    · rfl
    · intro t l
      show (if t.links[l].active = true then _ else _) = _
      split <;> rfl
  have hc : (put s).clearHold = put s.clearHold := by
    unfold State.clearHold
    generalize allLinks = ls
    rw [← List.foldl_hom put
      (g₂ := fun t l => if t.links[l].holdTimer.isSome then (t.sendFrame l (.hold 0)).stopHoldTimer l else t)]
    · rfl
    · intro t l
      show (if t.links[l].holdTimer.isSome = true then _ else _) = _
      split <;> rfl
  show (if (!s.holdAsserted && decide (Config.holdHighMark ≤ s.used.length)) = true then (put s).assertHold
    else if (s.holdAsserted && decide (s.used.length ≤ Config.holdLowMark)) = true then (put s).clearHold
    else put s) = put s.judgeHold
  rw [ha, hc, State.judgeHold]
  split
  · rfl
  · split <;> rfl

end Sys2Proof.Machine
end

