-- ==== Sys2Proof/Laws/Collections.lean ====
section
/-! SUPPORT. The ordered collections of the block: key order, the directory's records, the used blocks, and the
exposure queue. -/

namespace Sys2Proof.Machine

/-! ### Key order -/

theorem Key.before_iff (a b : Key) :
    a.before b = true ↔ a.date < b.date ∨ a.date = b.date ∧
      (a.account < b.account ∨ a.account = b.account ∧ a.item < b.item) := by
  simp [Key.before]

theorem Key.before_irrefl (a : Key) : a.before a = false := by simp [Key.before]

theorem Key.before_trans {a b c : Key} (h : a.before b = true) (k : b.before c = true) : a.before c = true := by
  rw [Key.before_iff] at *; omega

theorem Key.before_total {a b : Key} (h : a ≠ b) : a.before b = true ∨ b.before a = true := by
  obtain ⟨d, n, i⟩ := a
  obtain ⟨e, m, j⟩ := b
  simp only [ne_eq, Key.mk.injEq, Key.before_iff] at *
  omega

/-! ### The directory's records -/

@[simp] theorem mem_insertRecord {r x : Record} {rs : List Record} : x ∈ insertRecord r rs ↔ x = r ∨ x ∈ rs := by
  induction rs with
  | nil => simp [insertRecord]
  | cons y rest ih =>
    unfold insertRecord
    split
    · simp
    · simp only [List.mem_cons, ih]; tauto

@[simp] theorem length_insertRecord (r : Record) (rs : List Record) :
    (insertRecord r rs).length = rs.length + 1 := by
  induction rs with
  | nil => rfl
  | cons y rest ih => unfold insertRecord; split <;> simp [ih]

/-- A record of a new key joins an ordered directory at its place. -/
theorem insertRecord_ordered {r : Record} {rs : List Record}
    (h : rs.Pairwise fun a b => a.key.before b.key = true) (hr : ∀ x ∈ rs, x.key ≠ r.key) :
    (insertRecord r rs).Pairwise fun a b => a.key.before b.key = true := by
  induction rs with
  | nil => simp [insertRecord]
  | cons y rest ih =>
    simp only [List.pairwise_cons, List.mem_cons, forall_eq_or_imp] at h hr
    unfold insertRecord
    split
    · next hb =>
      simp only [List.pairwise_cons, List.mem_cons, forall_eq_or_imp]
      exact ⟨⟨hb, fun x hx => Key.before_trans hb (h.1 x hx)⟩, h⟩
    · next hb =>
      refine List.pairwise_cons.mpr ⟨fun x hx => ?_, ih h.2 hr.2⟩
      rcases mem_insertRecord.mp hx with rfl | hx
      · exact (Key.before_total hr.1).resolve_right hb
      · exact h.1 x hx

/-- A record that `findRecord` finds is in the directory under that key. -/
theorem State.findRecord_some {s : State} {k : Key} {r : Record} (h : s.findRecord k = some r) :
    r ∈ s.records ∧ r.key = k :=
  ⟨List.mem_of_find?_eq_some h, by simpa using List.find?_some h⟩

/-- A key that `findRecord` does not find is no record's key. -/
theorem State.findRecord_none {s : State} {k : Key} (h : s.findRecord k = none) : ∀ x ∈ s.records, x.key ≠ k := by
  simpa [State.findRecord] using h

/-- In an ordered directory the record under a key is the one that `findRecord` finds. -/
theorem State.findRecord_of_mem {s : State} (h : s.records.Pairwise fun a b => a.key.before b.key = true)
    {r : Record} (hr : r ∈ s.records) : s.findRecord r.key = some r := by
  unfold State.findRecord
  generalize s.records = rs at *
  induction rs with
  | nil => cases hr
  | cons y rest ih =>
    simp only [List.pairwise_cons] at h
    rcases List.mem_cons.mp hr with rfl | hr
    · simp
    · have hy : y.key ≠ r.key := fun he => by
        have := h.1 r hr
        rw [he, Key.before_irrefl] at this
        cases this
      simp [hy, ih h.2 hr]

/-! ### The used blocks -/

@[simp] theorem mem_insertBlock {b x : Nat} {u : List Nat} : x ∈ insertBlock b u ↔ x = b ∨ x ∈ u := by
  induction u with
  | nil => simp [insertBlock]
  | cons y rest ih =>
    unfold insertBlock
    split
    · simp
    · split
      · next h => subst h; simp
      · simp only [List.mem_cons, ih]; tauto

theorem insertBlock_ascending {b : Nat} {u : List Nat} (h : u.Pairwise (· < ·)) :
    (insertBlock b u).Pairwise (· < ·) := by
  induction u with
  | nil => simp [insertBlock]
  | cons y rest ih =>
    have h' := List.pairwise_cons.mp h
    unfold insertBlock
    split
    · next hb =>
      refine List.pairwise_cons.mpr ⟨fun x hx => ?_, h⟩
      rcases List.mem_cons.mp hx with rfl | hx
      · exact hb
      · exact Nat.lt_trans hb (h'.1 x hx)
    · split
      · exact h
      · refine List.pairwise_cons.mpr ⟨fun x hx => ?_, ih h'.2⟩
        rcases mem_insertBlock.mp hx with rfl | hx
        · omega
        · exact h'.1 x hx

/-- A block that is not used makes the list one longer. -/
theorem length_insertBlock {b : Nat} {u : List Nat} (h : b ∉ u) : (insertBlock b u).length = u.length + 1 := by
  induction u with
  | nil => rfl
  | cons y rest ih =>
    simp only [List.mem_cons, not_or] at h
    unfold insertBlock
    split
    · simp
    · simp [h.1, ih h.2]

/-- The blocks that a search of the free set gives lie in its range and are free. -/
theorem mem_freeFrom {used : List Nat} {fuel b need x : Nat} (h : x ∈ freeFrom used fuel b need) :
    b ≤ x ∧ x < b + fuel ∧ x ∉ used := by
  induction fuel generalizing b need with
  | zero => simp [freeFrom] at h
  | succ n ih =>
    cases need with
    | zero => simp [freeFrom] at h
    | succ m =>
      unfold freeFrom at h
      split at h
      · have := ih h; exact ⟨by omega, by omega, this.2.2⟩
      · next hu =>
        rcases List.mem_cons.mp h with rfl | h
        · exact ⟨Nat.le_refl _, by omega, by simpa using hu⟩
        · have := ih h; exact ⟨by omega, by omega, this.2.2⟩

theorem freeFrom_ascending (used : List Nat) (fuel b need : Nat) : (freeFrom used fuel b need).Pairwise (· < ·) := by
  induction fuel generalizing b need with
  | zero => simp [freeFrom]
  | succ n ih =>
    cases need with
    | zero => simp [freeFrom]
    | succ m =>
      unfold freeFrom
      split
      · exact ih _ _
      · exact List.pairwise_cons.mpr ⟨fun x hx => (mem_freeFrom hx).1, ih _ _⟩

theorem length_freeFrom_le (used : List Nat) (fuel b need : Nat) : (freeFrom used fuel b need).length ≤ need := by
  induction fuel generalizing b need with
  | zero => simp [freeFrom]
  | succ n ih =>
    cases need with
    | zero => simp [freeFrom]
    | succ m =>
      unfold freeFrom
      split
      · exact ih _ _
      · simpa using ih _ _

/-- Of the blocks that a search did not give, none below one that it gave is free. -/
theorem freeFrom_lowest {used : List Nat} {fuel b need x y : Nat} (hx : x ∈ freeFrom used fuel b need)
    (hy : b ≤ y) (hyx : y < x) (hu : y ∉ used) : y ∈ freeFrom used fuel b need := by
  induction fuel generalizing b need with
  | zero => simp [freeFrom] at hx
  | succ n ih =>
    cases need with
    | zero => simp [freeFrom] at hx
    | succ m =>
      unfold freeFrom at hx ⊢
      split
      · next hc =>
        rw [if_pos hc] at hx
        refine ih hx ?_
        rcases Nat.eq_or_lt_of_le hy with rfl | h
        · exact absurd (by simpa using hc) hu
        · exact h
      · next hc =>
        rw [if_neg hc] at hx
        rcases Nat.eq_or_lt_of_le hy with rfl | h
        · simp
        · rcases List.mem_cons.mp hx with rfl | hx
          · omega
          · exact List.mem_cons_of_mem _ (ih hx h)

/-- The used blocks stay blocks 0 to 4095 in ascending order through an allocation. -/
theorem insertBlocks_ordered {bs u : List Nat} {n : Nat} (hb : ∀ x ∈ bs, x < n)
    (h : u.Pairwise (· < ·) ∧ ∀ x ∈ u, x < n) :
    (bs.foldl (fun u b => insertBlock b u) u).Pairwise (· < ·) ∧
      ∀ x ∈ bs.foldl (fun u b => insertBlock b u) u, x < n := by
  induction bs generalizing u with
  | nil => exact h
  | cons b rest ih =>
    simp only [List.mem_cons, forall_eq_or_imp] at hb
    refine ih hb.2 ⟨insertBlock_ascending h.1, fun x hx => ?_⟩
    rcases mem_insertBlock.mp hx with rfl | hx
    · exact hb.1
    · exact h.2 x hx

/-- What an allocation that succeeds gives: the lowest free blocks, the pool without them, and the hold judged. -/
theorem State.allocate_some {s t : State} {need : Nat} {blocks : List Nat} (h : s.allocate need = some (blocks, t)) :
    need ≤ Config.blockCount - s.used.length ∧ blocks = lowestFree s.used need ∧
      t = ({ s with used := (lowestFree s.used need).foldl (fun u b => insertBlock b u) s.used } : State).judgeHold := by
  unfold State.allocate at h
  split at h
  · cases h
  · next hn => cases h; exact ⟨Nat.le_of_not_lt hn, rfl, rfl⟩

/-! ### The exposure queue -/

/-- An entry put between the entries before it in class order and the rest leaves a descending queue. -/
theorem splice_descending {p : Entry → Bool} {q : List Entry} {e : Entry}
    (hq : q.Pairwise fun a b => b.cls ≤ a.cls) (hp : ∀ x, p x = true → e.cls ≤ x.cls)
    (hn : ∀ x, p x = false → x.cls ≤ e.cls) :
    (q.takeWhile p ++ e :: q.dropWhile p).Pairwise fun a b => b.cls ≤ a.cls := by
  induction q with
  | nil => simp
  | cons y rest ih =>
    have hq' := List.pairwise_cons.mp hq
    cases hy : p y with
    | true =>
      simp only [List.takeWhile_cons, List.dropWhile_cons, hy, if_true, List.cons_append]
      refine List.pairwise_cons.mpr ⟨fun x hx => ?_, ih hq'.2⟩
      rcases List.mem_append.mp hx with hx | hx
      · exact hq'.1 x ((List.takeWhile_sublist p).subset hx)
      · rcases List.mem_cons.mp hx with rfl | hx
        · exact hp y hy
        · exact hq'.1 x ((List.dropWhile_sublist p).subset hx)
    | false =>
      have hd : (y :: rest).dropWhile p = y :: rest := by simp [hy]
      have ht : (y :: rest).takeWhile p = [] := by simp [hy]
      rw [hd, ht, List.nil_append]
      refine List.pairwise_cons.mpr ⟨fun x hx => ?_, hq⟩
      rcases List.mem_cons.mp hx with rfl | hx
      · exact hn x hy
      · exact Nat.le_trans (hq'.1 x hx) (hn y hy)

theorem joinQueue_descending {q : List Entry} (h : q.Pairwise fun a b => b.cls ≤ a.cls) (e : Entry) :
    (joinQueue q e).Pairwise fun a b => b.cls ≤ a.cls :=
  splice_descending h (fun _ hx => by simpa using hx) (fun _ hx => Nat.le_of_lt (by simpa using hx))

theorem returnQueue_descending {q : List Entry} (h : q.Pairwise fun a b => b.cls ≤ a.cls) (e : Entry) :
    (returnQueue q e).Pairwise fun a b => b.cls ≤ a.cls :=
  splice_descending h (fun _ hx => Nat.le_of_lt (by simpa using hx)) (fun _ hx => by simpa using hx)

theorem dropCellEntry_descending {q : List Entry} (h : q.Pairwise fun a b => b.cls ≤ a.cls) (i : Fin 12) (n : Nat) :
    (dropCellEntry q i n).Pairwise fun a b => b.cls ≤ a.cls :=
  h.sublist List.filter_sublist

end Sys2Proof.Machine
end

