-- ==== Sys2Proof/Laws/Drawing.lean ====
section
/-! SUPPORT. What a draw exposes (R65, R68, R80): the small lemmas of `pixelExposed`, `Draw.pixelArea` and
`Draw.characterBox`. -/

namespace Sys2Proof.Machine

theorem pixelExposed_of_width_le {width i : Nat} (h : width ≤ i) (height : Nat) (body : List Byte) (j : Nat) :
    pixelExposed width height body i j = false := by
  simp [pixelExposed, Nat.not_lt.mpr h]

theorem pixelExposed_of_height_le {height j : Nat} (h : height ≤ j) (width : Nat) (body : List Byte) (i : Nat) :
    pixelExposed width height body i j = false := by
  simp [pixelExposed, Nat.not_lt.mpr h]

/-- All that the writer exposes of an image. -/
theorem Draw.pixelArea_eq_some {d : Draw} {i j : Nat} {a : (Int × Int) × (Int × Int)} (h : d.pixelArea i j = some a) :
    ∃ x y width height scale body, d = .image x y width height scale body ∧ i < width ∧ j < height ∧
      a = (pixelExtent x scale i, pixelExtent y scale j) := by
  cases d with
  | image x y width height scale body =>
    simp only [Draw.pixelArea, pixelExposed, Bool.and_eq_true, decide_eq_true_eq, Option.ite_none_right_eq_some,
      Option.some.injEq] at h
    exact ⟨x, y, width, height, scale, body, rfl, h.1.1.1, h.1.1.2, h.2.symm⟩
  | title => simp [Draw.pixelArea] at h
  | index => simp [Draw.pixelArea] at h

theorem Draw.characterBox_image (x y : Int) (width height scale : Nat) (body : List Byte) (j m : Nat) :
    (Draw.image x y width height scale body).characterBox j m = none := rfl

theorem Draw.pixelArea_title (x y : Int) (wide top high : Nat) (text : Text) (i j : Nat) :
    (Draw.title x y wide top high text).pixelArea i j = none := rfl

theorem Draw.pixelArea_index (x y : Int) (high wide : Nat) (lines : List Text) (i j : Nat) :
    (Draw.index x y high wide lines).pixelArea i j = none := rfl

/-- The extents of neighbouring pixels share an edge (R65). -/
theorem pixelExtent_adjacent (start : Int) (scale i : Nat) :
    (pixelExtent start scale i).2 = (pixelExtent start scale (i + 1)).1 := rfl

end Sys2Proof.Machine
end

