-- ==== Sys2Proof/Laws/Requests.lean ====
section
/-! SUPPORT. What the one shape of a host request comes to: which request a command is, and what an IDLE port makes of an
owner's answer. A later proof cites these and does not unfold the port's cycle. -/

namespace Sys2Proof.Machine

/-- The state in which an owner finds a request that an IDLE port has started. -/
abbrev State.started (s : State) (code : Nat) (body : List Word) : State :=
  (s.writeRequest (requestMessage code body)).startRequest

/-- A host request's meaning is the request cycle about its owner. -/
theorem exec_request {i : Instr} {q : HostRequest} (h : requestOf i = some q) (s : State) :
    exec i s = .next (s.request q.code q.body q.owner) := by
  cases i <;> simp only [requestOf, Option.some.injEq, reduceCtorEq] at h <;> subst h <;> rfl

/-- An IDLE port writes its owner's answer over the response buffer. -/
theorem State.request_idle {s u : State} {code : Nat} {body : List Word} {owner : State → State × Response}
    {r : Response} (h : s.port.execution = none) (ho : owner (s.started code body) = (u, r))
    (hp : u.port.execution = (s.started code body).port.execution) :
    s.request code body owner = { u with port := { u.port with
      done := true
      execution := none
      responseBuffer := overwrite u.port.responseBuffer (responseWords (code % 256) r) } } := by
  have he : u.port.execution = some ⟨(s.writeRequest (requestMessage code body)).port.requestBuffer, false⟩ := hp
  unfold State.request
  rw [h]
  unfold State.started at ho
  simp only [ho, State.finishRequest, State.modPort, he, if_false, Bool.false_eq_true]

/-- An owner whose change leaves the port as the started request has it: every other part is the owner's, and the port is
that of the answered request. -/
theorem State.request_answered {s u : State} {code : Nat} {body : List Word} {owner : State → State × Response}
    {r : Response} (h : s.port.execution = none) (ho : owner (s.started code body) = (u, r))
    (hp : u.port = (s.started code body).port) :
    s.request code body owner = State.answered { u with port := s.port } code body r := by
  rw [State.request_idle h ho (by rw [hp]), hp]
  simp only [State.answered, State.started, State.writeRequest, State.startRequest, State.modPort]

/-- An owner that leaves the state as it is. -/
theorem State.request_same {s : State} {code : Nat} {body : List Word} {owner : State → State × Response} {r : Response}
    (h : s.port.execution = none) (ho : owner (s.started code body) = (s.started code body, r)) :
    s.request code body owner = s.answered code body r := by
  rw [State.request_answered h ho (by simp only)]
  simp only [State.answered, State.started, State.writeRequest, State.startRequest, State.modPort]

end Sys2Proof.Machine
end

