-- ==== Sys2Proof/Tests/Slice0.lean ====
section
/-! SUPPORT. Tests: the checks of WellFormed, the manual's worked values and examples, single commands on small states,
and one witness for the hypotheses of each statement (`witness_<statement>`), at boundary values where it has clauses.
Expected values come from the manual's sections named beside them, or by hand from its rules. -/

namespace Sys2Proof.Tests

open Sys2Proof Sys2Proof.Machine

/-! ### Helpers -/

/-- The state that a command answers. -/
def after (c : Instr) (s : State) : State :=
  match exec c s with
  | .next t => t
  | _ => s

/-- A frame with a good check. -/
def goodFrame (kind : Byte) (payload : List Byte) : Frame :=
  ⟨BitVec.ofNat 16 payload.length, payload,
    frameCheck (frameBytes kind ⟨BitVec.ofNat 16 payload.length, payload, 0⟩)⟩

/-- The key of the test record: date code 100, account number 1, item sequence 0; its words are 6553600, 0 and 1. -/
def aKey : Key := ⟨100, 1, 0⟩

/-- Cell 0 of the test fiche. -/
def aPlace : Place := ⟨⟨5, 100, 1⟩, 0, 0, 0, 1⟩

/-- The test record in a state, with the parts that the state has. -/
def aRecord (st : RecordState) : Record where
  key := aKey
  series := 5
  state := st
  source := ⟨0, 0, 7, 1, 2⟩
  image := if st = .exposed then none else some ⟨64, 64, 1, 16384, 256, 256, [0]⟩
  reserved := if st ∈ [.reserved, .exposing, .retakeReserved, .retakeExposing] then some ⟨0, aPlace⟩ else none
  current := if st = .exposed ∨ st.retake then some ⟨{ aPlace with cell := 1 }, false⟩ else none
  superseded := []

/-- A format of 2 rows and 3 columns: five document cells and one index cell. -/
def aFormat : Format := ⟨2, 3, 5000, 5000, 400, 400, 2000, 200⟩

/-- The test state: series 5 ACTIVE in format 0, its fiche in slot 0 of head 0 with the test record's cells, link 0 ACTIVE
under admission entry 0, head 0 with a roll of 20 sheets. -/
def board (st : RecordState) (cell : CellState) (slot : SlotState) : State :=
  { State.reset with
    formats := State.reset.formats.set 0 (some aFormat)
    series := State.reset.series.set 5
      { state := .active, format := 0, headMask := 15, template := [], date := 100, next := 2, exhausted := false }
    slots := State.reset.slots.set 0
      { state := slot, fiche := ⟨5, 100, 1⟩, format := 0, sheet := 0, title := false, redraw := false,
        cells := [⟨cell, some aKey, 1, false⟩, ⟨.exposed, some aKey, 1, false⟩, ⟨.empty, none, 1, false⟩,
          ⟨.empty, none, 1, false⟩, ⟨.empty, none, 1, false⟩, ⟨.indexPending, none, 1, false⟩], index := none }
    heads := State.reset.heads.set 0 { Head.reset with state := .running, sheets := 20, nextSheet := 1 }
    records := [aRecord st]
    used := [0]
    links := State.reset.links.set 0 { Link.reset with active := true }
    admission := State.reset.admission.set 0
      { enabled := true, link := 0, operator := 1, floor := 2, mask := 32, generation := 0 } }

/-- The test state with head 0 changed. -/
def withHead (s : State) (f : Head → Head) : State := s.modHead 0 f

/-- The test state with an entry in flight on head 0 in a phase, its tracker LOCKED from POSITIONING on. -/
def flying (s : State) (e : Entry) (p : Phase) : State :=
  withHead s fun k => { k with
    inFlight := some ⟨e, p⟩
    awaited := some 3
    transportLimit := if p = .advancing then some 8000 else none
    stageLimit := if p = .acquiring ∨ p = .positioning then some 1000 else none
    tracker := { k.tracker with
      locked := decide (p = .positioning ∨ p = .drawing), run := if p = .acquiring then some ⟨0, none⟩ else none } }

/-- The test state with a reception on link 0. -/
def receiving (s : State) (soFar : Nat) (withdrawn : Bool) : State :=
  s.modLink 0 fun k => { k with
    reception := some { tag := 7, key := aKey, retake := false, expected := 512, soFar := soFar, check := checkInitial,
                        withdrawn := withdrawn, timer := 2000 } }

/-- A SUBMIT-HEAD payload of operator 1 for series 5. -/
def headBytes (k : Key) (width : Nat) : List Byte :=
  bytesOf 2 7 ++ [1] ++ keyBytes k ++ [5] ++ bytesOf 2 width ++ bytesOf 2 64 ++ [1, 0]

/-! ### WellFormed: an ill-formed command for each check -/

theorem test_ill_formed_head : (Instr.submitHead 0 ⟨1, [], 0⟩).wellFormed = false := by decide
theorem test_ill_formed_body_length : (Instr.body 0 2 ⟨1, [], 0⟩).wellFormed = false := by decide
theorem test_ill_formed_body_kind : (Instr.body 0 3 ⟨0, [], 0⟩).wellFormed = false := by decide
theorem test_ill_formed_end : (Instr.submitEnd 0 ⟨4, [1], 0⟩).wellFormed = false := by decide
theorem test_ill_formed_probe : (Instr.probe 0 ⟨1, [], 0⟩).wellFormed = false := by decide
theorem test_well_formed_body : (Instr.body 0 2 ⟨1, [9], 0⟩).wellFormed = true := by decide
theorem test_words_spell_no_command : decodeTableWord 32 0x00040010 = none := by decide

/-! ### The manual's worked values -/

/-- R106: over the characters 1 to 9 the frame check is 10,673. -/
theorem test_frame_check : frameCheck [0x31, 0x32, 0x33, 0x34, 0x35, 0x36, 0x37, 0x38, 0x39] = 10673#16 := by decide +kernel
/-- R114: over the characters 1 to 9 the running check is 3,421,780,262. -/
theorem test_running_check :
    checkValue (checkAdvance checkInitial [0x31, 0x32, 0x33, 0x34, 0x35, 0x36, 0x37, 0x38, 0x39]) = 3421780262#32 := by
  decide +kernel
/-- spec/00_scope.md: cell 37 of a grid with 14 columns is C10. -/
theorem test_grid_reference : (Format.gridRef ⟨7, 14, 0, 0, 0, 0, 0, 0⟩ 37).text = [0x43, 0x31, 0x30] := by decide
/-- Section 1.10: 2480 × 3508 in format F98 fits at width 1 with S = 14,011, 8484 × 12,000 µm, in 17 blocks. -/
theorem test_fit_f98 :
    (match Format.fit ⟨7, 14, 10000, 12500, 0, 0, 0, 250⟩ 2480 3508 with
      | .fits x => (x.cells, x.scale, x.drawnWidth, x.drawnHeight)
      | .oversize _ _ => (0, 0, 0, 0)) = (1, 14011, 8484, 12000) ∧ blockNeed 2480 3508 = 17 := by decide
/-- Section 1.10: an integral of 31,900 at T = 32,768 is no deviation; R175: 28,672 is none, 28,671 is one. -/
theorem test_deviation : Dose.reset.deviates 31900 = false ∧ Dose.reset.deviates 28672 = false ∧
    Dose.reset.deviates 28671 = true ∧ Dose.reset.deviates 36865 = true := by decide
/-- R171: reads of 2207, 2270 and 2207 take no code; the fourth read decides. -/
theorem test_sheet_codes : codeOutcome [some 2207, some 2270, some 2207] = none ∧
    codeOutcome [some 2207, some 2270, some 2207, some 2207] = some (some 2207) ∧
    codeOutcome [none, none, none, none] = some none := by decide
/-- R67: template, space, date code, solidus and sequence. -/
theorem test_title_text : titleText [0x41] ⟨5, 14802, 3⟩ =
    [0x41, 0x20, 0x31, 0x34, 0x38, 0x30, 0x32, 0x2F, 0x30, 0x30, 0x30, 0x33] := by decide
/-- R27: k = ceil(R × C / 121). -/
theorem test_index_cells : (Format.indexCells ⟨7, 14, 0, 0, 0, 0, 0, 0⟩, Format.indexCells ⟨16, 32, 0, 0, 0, 0, 0, 0⟩) =
    (1, 5) := by decide
/-- Section 11.7, step 3: Set Event Enables answers status 0000H, length 1, code byte 61H. -/
theorem test_worked_response_header : responseHeader 0x61 (okWith []) = 0x61010000#32 := by decide

/-! ### Single commands -/

theorem test_power_on : (after (.powerOn 0b10) (board .exposed .empty .opened)).links[(1 : Fin 8)].active = true ∧
    (after (.powerOn 0b10) (board .exposed .empty .opened)).records = [] := by decide
theorem test_port_clear : (after .portClear { State.reset with port := { Port.reset with done := true } }).port.done =
    false := by decide
theorem test_find_not_found : (after (.find 6553600 0 1) State.reset).port.responseBuffer[0] = 0x10010003#32 := by
  decide
theorem test_find_next_first : (after (.findNext 0 0 0) (board .waiting .empty .opened)).port.responseBuffer[3] =
    1#32 := by decide
theorem test_withdraw_waiting : (after (.withdraw 6553600 0 1) (board .waiting .empty .opened)).records = [] ∧
    (after (.withdraw 6553600 0 1) (board .waiting .empty .opened)).used = [] := by decide
theorem test_withdraw_reserved_frees_cell :
    (after (.withdraw 6553600 0 1) (board .reserved .held .opened)).slots[(0 : Fin 12)].cells[0]? =
      some ⟨.empty, none, 1, false⟩ := by decide
theorem test_void_keeps_key : (after (.void 6553600 0 1) (board .exposed .spoiled .opened)).slots[(0 : Fin 12)].cells[1]? =
    some ⟨.void, some aKey, 1, false⟩ := by decide
theorem test_rekey_to_itself : (after (.rekey 6553600 0 1 6553600 0 1) (board .exposed .spoiled .opened)).port.responseBuffer[0]
    = 0x14010009#32 := by decide
theorem test_rekey_moves : ((after (.rekey 6553600 0 1 6553600 0 2) (board .exposed .spoiled .opened)).records.map Record.key,
    (after (.rekey 6553600 0 1 6553600 0 2) (board .exposed .spoiled .opened)).slots[(0 : Fin 12)].cells[1]?) =
      ([⟨100, 2, 0⟩], some ⟨.exposed, some ⟨100, 2, 0⟩, 1, false⟩) := by decide
theorem test_retire_open_fiche : (after (.retireFiche 5 100 1) (board .exposed .spoiled .opened)).port.responseBuffer[0] =
    0x1501000B#32 := by decide
theorem test_set_format_in_use : (after (.setFormat 0 2 3 5000 5000 400 400 2000 200)
    (board .exposed .spoiled .opened)).port.responseBuffer[0] = 0x2001000D#32 := by decide
theorem test_try_fit_clamped : (after (.tryFit 0 64 64) (board .exposed .spoiled .opened)).port.responseBuffer[6] =
    16384#32 := by decide
theorem test_cut_off_closes : (after (.cutOffSeries 5) (board .exposed .spoiled .opened)).slots[(0 : Fin 12)].state =
    .indexing := by decide
theorem test_close_held_fiche : (after (.closeFiche 0) (board .reserved .held .opened)).slots[(0 : Fin 12)].state =
    .closing := by decide
theorem test_set_admission_generation : (after (.setAdmission 0 0 0 0 0 0) (board .exposed .spoiled .opened)).admission[(0 : Fin 16)].generation
    = 1 := by decide
theorem test_load_roll_needs_no_roll : (after (.loadRoll 0 5 0 0) (board .exposed .spoiled .opened)).port.responseBuffer[0] =
    0x50010012#32 := by decide
theorem test_head_stop_idle : (after (.headStop 0) (board .exposed .spoiled .opened)).heads[(0 : Fin 4)].state = .ready := by
  decide
theorem test_head_reset_retries : (after (.headReset 0) (withHead State.reset fun k => { k with state := .fault })).retryEvents =
    [.faultLeft 0] := by decide
theorem test_submit_head_reserves_blocks :
    (after (.submitHead 0 (goodFrame 1 (headBytes ⟨100, 2, 0⟩ 64))) (board .exposed .spoiled .opened)).used = [0, 1] := by
  decide +kernel
theorem test_submit_head_duplicate :
    (after (.submitHead 0 (goodFrame 1 (headBytes aKey 64))) (board .exposed .spoiled .opened)).links[(0 : Fin 8)].outbox =
      [.refuse 7 .duplicateKey] := by decide +kernel
theorem test_body_stored : readByte (after (.body 0 2 (goodFrame 2 [9, 8]))
    (receiving (board .receiving .spoiled .opened) 0 false)).mem 1 = 8 := by decide +kernel
theorem test_body_overlength : (after (.body 0 2 (goodFrame 2 [9, 8]))
    (receiving (board .receiving .spoiled .opened) 511 false)).links[(0 : Fin 8)].outbox = [.refuse 7 .overlength] := by decide +kernel
theorem test_submit_end_places : ((after (.submitEnd 0 (goodFrame 3 [0, 0, 0, 0]))
    (receiving (board .receiving .spoiled .opened) 512 false)).records.map Record.state) = [.reserved] := by decide +kernel
theorem test_probe_of_withdrawn : (after (.probe 0 (goodFrame 4 [])) (receiving (board .receiving .spoiled .opened) 8 true)).links[(0 : Fin 8)].outbox
    = [.probeReply ⟨0, true, 1, 7, 512, 8, 0⟩] := by decide +kernel
theorem test_reception_timeout : (after (.receptionTimerExpiry 0) (receiving (board .receiving .spoiled .opened) 8 false)).records
    = [] := by decide
theorem test_entry_take_advances : (after (.entryTake 0)
    (withHead (board .reserved .held .opened) fun k => { k with queue := [.cell 0 0 2] })).heads[(0 : Fin 4)].transportOrder =
      some ⟨0, 0⟩ := by decide
theorem test_take_exposes : ((after (.entryTake 0)
    (withHead (board .reserved .held .opened) fun k => { k with queue := [.cell 0 0 2] })).records.map Record.state) =
      [.exposing] := by decide
theorem test_stale_arrival : after (.transportArrival 0 2) (flying (board .exposing .held .opened) (.title 0) .advancing) =
    flying (board .exposing .held .opened) (.title 0) .advancing := by decide
theorem test_loss_of_lock_returns : (after (.stageCompletion 0 3 .missing) (withHead
    (flying (board .exposing .held .opened) (.cell 0 0 2) .positioning)
      fun k => { k with tracker := { k.tracker with errors := 2 } })).heads[(0 : Fin 4)].queue = [.cell 0 0 2] := by decide
theorem test_lamp_failure_spoils : ((after (.photocellReport 0 0)
    (flying (board .exposing .held .opened) (.cell 0 0 2) .drawing)).slots[(0 : Fin 12)].cells.map Cell.state) =
      [.spoiled, .exposed, .held, .empty, .empty, .indexPending] := by decide
theorem test_cell_exposed : (after (.photocellReport 0 32768)
    (flying (board .exposing .held .opened) (.cell 0 0 2) .drawing)).records.map Record.current = [some ⟨aPlace, false⟩] := by
  decide
theorem test_placed_notice : (after (.photocellReport 0 32768)
    (flying (board .exposing .held .opened) (.cell 0 0 2) .drawing)).links[(0 : Fin 8)].outbox =
      [.placed ⟨7, aKey, ⟨5, 100, 1⟩, ⟨0, 0⟩, 1, false, false⟩] := by decide
theorem test_jam_in_fault : after (.jam 0) (withHead State.reset fun k => { k with state := .fault, faultKind := some .stageTimeout })
    = withHead State.reset fun k => { k with state := .fault, faultKind := some .stageTimeout } := by decide

/-! ### Witnesses: concrete states and operands that meet each statement's hypotheses together -/

/-- The board with its record EXPOSED on an OPEN fiche. -/
abbrev exposedBoard : State := board .exposed .spoiled .opened

/-- A port with Read Format of entry 0 in execution. -/
def running (cleared : Bool) : State :=
  { State.reset with port := { Port.reset with
    execution := some ⟨overwrite Port.reset.requestBuffer [0x00020021, 0], cleared⟩ } }

/-- A notice. -/
def aNotice : Notice := ⟨⟨5, 100, 1⟩, 0, 0, false, Vector.replicate 9 0⟩

/-- A port with that many notices. -/
def noticed (n : Nat) : State :=
  { State.reset with port := { Port.reset with notices := List.replicate n aNotice } }

theorem witness_StepsRunCommands : State.reset.pending = [] := by decide

theorem witness_GoStrobe : State.reset.port.execution = none ∧ headerPasses 0x00040010 = true ∧
    headerPasses 0x00030010 = false ∧ headerPasses 0x01040010 = false ∧ (running false).port.execution ≠ none ∧
    ((0x00030010 : Word).toNat % 65536, 4) ∈ requestCodes ∧
    (∀ c ∈ requestCodes, c.1 ≠ (0x00040016 : Word).toNat % 65536) := by decide

/-- Section 11.6: a BAD_REQUEST answer carries bits 7 to 0 of a code of the table, and 00H for any other code. -/
theorem test_bad_request_byte : badRequestByte 0x00030010 = 0x10 ∧ badRequestByte 0x00040016 = 0 := by decide

theorem witness_RequestCycle_idle : ∃ q u r, requestOf (.readFormat 0) = some q ∧ State.reset.port.execution = none ∧
    q.owner ((State.reset.writeRequest (requestMessage q.code q.body)).startRequest) = (u, r) :=
  ⟨_, _, _, rfl, by decide, rfl⟩

theorem witness_RequestCycle_busy : ∃ q e, requestOf (.readFormat 1) = some q ∧ (running false).port.execution = some e ∧
    carries e.request (requestMessage q.code q.body) = false := ⟨_, _, rfl, rfl, by decide⟩

theorem witness_RequestCycle_answer : ∃ q e d, requestOf (.readFormat 0) = some q ∧
    (running false).port.execution = some e ∧ carries e.request (requestMessage q.code q.body) = true ∧
    e.cleared = false ∧ (running true).port.execution = some d ∧
    carries d.request (requestMessage q.code q.body) = true ∧ d.cleared = true :=
  ⟨_, _, _, rfl, rfl, by decide, rfl, rfl, by decide, rfl⟩

theorem witness_RefusedRequestChangesNothing : ∃ q, requestOf (.find 6553600 0 1) = some q ∧
    (q.owner State.reset).2.status ≠ .ok ∧ (q.owner State.reset).2.status ≠ .oversize :=
  ⟨_, rfl, by decide, by decide⟩

theorem witness_MessageLayouts : (255 < 256 ∧ (List.replicate 63 (0 : Word)).length < 64 ∧ 0 + 1 < 64) ∧
    ((⟨65535, 999999999999, 65535⟩ : Key).date < 65536 ∧ (⟨65535, 999999999999, 65535⟩ : Key).account ≤ 999999999999) ∧
    (List.replicate 28 spaceCode).length = 28 ∧
    (Vector.replicate 7 (0x20202020 : Word)).toList = packText (List.replicate 28 spaceCode) ∧
    0x0064 < 65536 ∧ (List.replicate 12 (0 : Word)).length < 255 := by decide

theorem witness_IndicationsAndEvents : State.reset.port.execution = none ∧ (0x00200000 : Word).getLsbD 21 = true ∧
    (0x40000000 : Word).getLsbD 30 = true ∧ (0x80000000 : Word).getLsbD 31 = true ∧
    (∀ n < 10, (0x801FFFFF : Word).getLsbD (21 + n) = false) ∧ ∀ n < 11, (0x001FFFFF : Word).getLsbD (21 + n) = false := by
  decide

theorem witness_NoticeQueue : (noticed 31).port.notices.length < 32 ∧ 32 ≤ (noticed 32).port.notices.length ∧
    (noticed 0).port.notices = [] ∧ (noticed 1).port.notices = [aNotice] ∧ (noticed 2).port.notices = [aNotice, aNotice] ∧
    (noticed 2).port.execution = none := by decide

theorem witness_ReadStatistics : State.reset.port.execution = none ∧ (7 : Word).toNat = (7 : Fin 8).val ∧
    (3 : Word).toNat = (3 : Fin 4).val ∧ 1 < (2 : Word).toNat ∧ 7 < (8 : Word).toNat ∧ 3 < (4 : Word).toNat := by decide

theorem witness_FindAndFindNext : exposedBoard.port.execution = none ∧ exposedBoard.directoryOrdered ∧
    (keyOf 6553600 0 0).account = 0 ∧ 999999999999 < (keyOf 6553600 0xE8 0xD4A51000).account ∧
    (keyOf 6553600 0 1).account = 1 ∧ (∀ r ∈ exposedBoard.records, r.key ≠ keyOf 6553600 0 2) ∧
    aRecord .exposed ∈ exposedBoard.records ∧ (aRecord .exposed).key = keyOf 6553600 0 1 ∧
    (∀ r ∈ exposedBoard.records, (keyOf 6553600 0 1).before r.key = false) ∧
    (keyOf 6553600 0 0).before (aRecord .exposed).key = true := by decide

theorem witness_WithdrawAndRekeyRefusals : State.reset.findRecord (keyOf 6553600 0 1) = none ∧
    (∀ st ∈ [RecordState.receiving, .waiting, .reserved, .exposing, .exposed, .retakeReceiving, .retakeWaiting,
      .retakeReserved, .retakeExposing], (board st .empty .opened).findRecord (keyOf 6553600 0 1) = some (aRecord st)) ∧
    (keyOf 6553600 0 1).accountInRange = true ∧ (keyOf 6553600 0 0).accountInRange = false ∧
    (∃ p ∈ (aRecord .exposed).filmPlaces, (board .exposed .empty .indexing).liveSlotOfPlace p = none) ∧
    (∀ p ∈ (aRecord .exposed).filmPlaces, exposedBoard.liveSlotOfPlace p ≠ none) ∧
    exposedBoard.liveOnly 0 { aPlace with cell := 1 } ∧
    (∀ i, (board .exposed .empty .indexing).slotMatches i aPlace → (board .exposed .empty .indexing).slots[i].state = .indexing) := by
  decide

theorem witness_WithdrawTakesEffect : exposedBoard.port.execution = none ∧
    (∀ st ∈ [RecordState.receiving, .waiting, .retakeReceiving, .retakeWaiting],
      (board st .empty .opened).findRecord (keyOf 6553600 0 1) = some (aRecord st)) ∧
    (∀ st ∈ [RecordState.reserved, .retakeReserved],
      (board st .held .opened).findRecord (keyOf 6553600 0 1) = some (aRecord st) ∧
      (aRecord st).reserved = some ⟨0, aPlace⟩) ∧
    (∀ l : Fin 8, exposedBoard.links[l].reception = none) ∧
    (∃ c, (receiving (board .receiving .empty .opened) 0 false).links[(0 : Fin 8)].reception = some c ∧ c.key = aKey ∧
      c.withdrawn = false) ∧
    ∀ m : Fin 8, m ≠ 0 → (receiving (board .receiving .empty .opened) 0 false).links[m].reception = none :=
  ⟨by decide, by decide, by decide, by decide, ⟨_, rfl, rfl, rfl⟩, by decide⟩

theorem witness_VoidAnswers : exposedBoard.findRecord (keyOf 6553600 0 1) = some (aRecord .exposed) ∧
    (aRecord .exposed).current = some ⟨{ aPlace with cell := 1 }, false⟩ ∧
    exposedBoard.liveOnly 0 { aPlace with cell := 1 } ∧ (board .exposed .empty .closing).liveOnly 0 { aPlace with cell := 1 } ∧
    (∀ i : Fin 12, (board .exposed .empty .indexing).slotMatches i { aPlace with cell := 1 } →
      (board .exposed .empty .indexing).slots[i].state = .indexing) := by decide

theorem witness_RekeyMovesRecord : ∀ st ∈ [RecordState.waiting, .reserved, .exposed],
    (board st .held .opened).port.execution = none ∧ (board st .held .opened).directoryOrdered ∧
    (board st .held .opened).findRecord (keyOf 6553600 0 1) = some (aRecord st) ∧
    (∀ p ∈ (aRecord st).filmPlaces, (board st .held .opened).liveSlotOfPlace p ≠ none) ∧
    (board st .held .opened).findRecord (keyOf 6553600 0 2) = none := by decide

theorem witness_RetireFicheAnswers : exposedBoard.port.execution = none ∧ 31 < (32 : Word).toNat ∧
    65535 < (65536 : Word).toNat ∧ 9999 < (10000 : Word).toNat ∧ (5 : Word).toNat = (5 : Fin 32).val ∧
    (∃ i : Fin 12, exposedBoard.slots[i].state ≠ .free ∧ exposedBoard.slots[i].fiche = ⟨5, 100, 1⟩) ∧
    ∀ i : Fin 12, exposedBoard.slots[i].state ≠ .free → exposedBoard.slots[i].fiche ≠ ⟨5, 100, 9999⟩ := by decide

theorem witness_FormatRequests : exposedBoard.port.execution = none ∧ exposedBoard.slots[(0 : Fin 12)].format = 0 ∧ 0 < 121 ∧ 3 < (4 : Word).toNat ∧ aFormat.inRange = true ∧
    aFormat.valid = true ∧ { aFormat with ox := 399 }.inRange = true ∧ { aFormat with ox := 399 }.valid = false ∧
    (∃ e : Fin 32, exposedBoard.series[e].state ≠ .undefined ∧ exposedBoard.series[e].format = 0) ∧
    (∀ e : Fin 32, exposedBoard.series[e].state ≠ .undefined → exposedBoard.series[e].format ≠ 3) ∧
    exposedBoard.formats[(3 : Fin 4)] = none ∧ exposedBoard.formats[(0 : Fin 4)] = some aFormat := by decide

theorem witness_ValidFormats : aFormat.valid = true ∧ 5 < aFormat.rows * aFormat.cols ∧
    { aFormat with ox := 399 }.valid = false ∧ (400 : Int).natAbs ≤ 400 ∧ (-400 : Int).natAbs ≤ 400 := by decide

theorem witness_FitsAndTryFit : exposedBoard.formats[(0 : Fin 4)] = some aFormat ∧
    exposedBoard.formats[(3 : Fin 4)] = none ∧ 8192 < (8193 : Word).toNat ∧
    (∃ x y, aFormat.fit 64 8192 = .oversize x y) ∧ (∃ x, aFormat.fit 64 64 = .fits x ∧ x.clamped = true) ∧
    ∃ x, aFormat.fit 8192 64 = .fits x ∧ x.cells = 2 :=
  ⟨by decide, by decide, by decide, ⟨_, _, by rfl⟩, ⟨_, by rfl, by decide⟩, ⟨_, by rfl, by decide⟩⟩

theorem witness_FitBounds : aFormat.inRange = true ∧ aFormat.valid = true ∧ (∃ x, aFormat.fit 64 64 = .fits x) ∧
    ∃ x, aFormat.fit 8192 64 = .fits x := ⟨by decide, by decide, ⟨_, by rfl⟩, ⟨_, by rfl⟩⟩

theorem witness_SetAndReadSeries : exposedBoard.port.execution = none ∧ 31 < (32 : Word).toNat ∧
    templateChar 0x61 = false ∧ templateText 1 #v[0x41000000, 0, 0, 0, 0, 0, 0] = [0x41] ∧
    exposedBoard.series[(5 : Fin 32)].state = .active ∧ exposedBoard.formats[(0 : Fin 4)] ≠ none ∧
    (∃ j : Fin 12, exposedBoard.slots[j].state ≠ .free ∧ exposedBoard.slots[j].fiche.series = 5) ∧
    (board .exposed .empty .free).series[(5 : Fin 32)].date = (100 : Word).toNat ∧
    (∀ j : Fin 12, (board .exposed .empty .free).slots[j].state = .free) ∧
    State.reset.series[(31 : Fin 32)].state = .undefined ∧ (List.replicate 28 spaceCode).length ≤ 28 ∧
    exposedBoard.openSlot 5 = some 0 ∧ State.reset.openSlot 5 = none := by decide

theorem witness_ClearCutOffReopen : exposedBoard.port.execution = none ∧ 65535 < (65536 : Word).toNat ∧
    exposedBoard.series[(5 : Fin 32)].state = .active ∧ (∃ r ∈ exposedBoard.records, r.series = 5) ∧
    (∃ r ∈ (board .waiting .empty .opened).records, r.series = 5 ∧ r.state = .waiting) ∧
    exposedBoard.slots[(0 : Fin 12)].state = .opened ∧
    (∀ j : Fin 12, exposedBoard.slots[j].state = .opened → exposedBoard.slots[j].fiche.series = 5 → j = 0) ∧
    (after (.cutOffSeries 5) (board .exposed .empty .free)).series[(5 : Fin 32)].state = .cutOff ∧
    (after (.cutOffSeries 5) (board .waiting .empty .opened)).series[(5 : Fin 32)].state = .cutOff ∧
    State.reset.series[(5 : Fin 32)].state = .undefined := by decide

theorem witness_ClosingAndSlotRequests : exposedBoard.slots[(0 : Fin 12)].state = .opened ∧
    (∀ c ∈ exposedBoard.slots[(0 : Fin 12)].cells, c.state ≠ .held) ∧
    (∃ c ∈ (board .reserved .held .opened).slots[(0 : Fin 12)].cells, c.state = .held) ∧
    exposedBoard.queuesDescend ∧ (∀ e ∈ exposedBoard.heads[(0 : Fin 4)].queue, e.cls ≤ 4) ∧
    exposedBoard.slots[(11 : Fin 12)].state = .free ∧ 11 < (12 : Word).toNat ∧
    (1 : Word).toNat < (exposedBoard.slotFormat 0).rows ∧ (2 : Word).toNat < (exposedBoard.slotFormat 0).cols ∧
    (exposedBoard.slotFormat 0).rows ≤ (2 : Word).toNat ∧
    (after (.cutOffSeries 5) (board .waiting .empty .opened)).series[(5 : Fin 32)].state = .cutOff ∧
    (∀ r ∈ ({ after (.cutOffSeries 5) (board .waiting .empty .opened) with records := [] } : State).records,
      r.series ≠ 5) ∧
    (∃ c ∈ (board .reserved .held .closing).slots[(0 : Fin 12)].cells, c.state = .held) ∧
    (∀ c ∈ (board .exposed .spoiled .closing).slots[(0 : Fin 12)].cells, c.state ≠ .held) ∧
    (board .exposed .spoiled .closing).queuesDescend ∧
    (⟨.held, some ⟨65535, 999999999999, 65535⟩, 2, true⟩ : Cell).width ≤ 2 := by decide

theorem witness_DoubleCellSearch : (exposedBoard.slotFormat 0).valid = true ∧ exposedBoard.searchCell 0 2 = some 3 ∧
    exposedBoard.searchCell 0 1 = some 2 ∧ exposedBoard.searchCell 1 1 = none ∧
    (∃ x, aFormat.fit 8192 64 = .fits x ∧ x.cells = 2) :=
  ⟨by decide, by decide, by decide, by decide, ⟨_, by rfl, by decide⟩⟩

/-- The test state with its fiche's cells 2 to 4 in given states. -/
def threeCells (a b c : CellState) : State :=
  exposedBoard.modSlot 0 fun t => { t with
    cells := t.cells.take 2 ++ [⟨a, none, 1, false⟩, ⟨b, none, 1, false⟩, ⟨c, none, 1, false⟩] ++ t.cells.drop 5 }

theorem witness_GrantAndOpening_grant : exposedBoard.slots[(0 : Fin 12)].state = .opened ∧
    exposedBoard.slots[(0 : Fin 12)].cells[2]? = some ⟨.empty, none, 1, false⟩ ∧
    (∃ m < (exposedBoard.slotFormat 0).documentCells, m ≠ 2 ∧ emptyAt exposedBoard.slots[(0 : Fin 12)].cells m = true) ∧
    (∀ m < 5, m ≠ 2 → emptyAt (threeCells .empty .void .void).slots[(0 : Fin 12)].cells m = false) ∧
    [Entry.title 0, .cell 0 0 3, .cell 0 1 3, .cell 0 2 1].Pairwise (fun a b => b.cls ≤ a.cls) := by decide

theorem witness_GrantAndOpening_placement :
    (∀ j : Fin 12, exposedBoard.slots[j].state = .opened → exposedBoard.slots[j].fiche.series = 5 → j = 0) ∧
    exposedBoard.searchCell 0 1 = some 2 ∧ exposedBoard.searchCell 0 2 = some 3 ∧
    (threeCells .empty .void .empty).searchCell 0 2 = none ∧
    (∀ j : Fin 12, (board .waiting .empty .free).slots[j].state ≠ .opened) ∧
    State.reset.series[(5 : Fin 32)].state = .undefined ∧
    (exposedBoard.modSeries 5 fun v => { v with exhausted := true }).series[(5 : Fin 32)].exhausted = true ∧
    (withHead exposedBoard fun k => { k with state := .fault }).chooseHead 5 = none ∧
    exposedBoard.chooseHead 5 = some 0 ∧ exposedBoard.slots[(1 : Fin 12)].state = .free ∧
    (∀ j : Fin 12, headOf j = 0 → exposedBoard.slots[j].state = .free → 1 ≤ j) ∧
    (exposedBoard.formatAt 0).valid = true ∧ (exposedBoard.formatAt 0).doubleCapacity = true := by decide

theorem witness_HeadChoice : exposedBoard.chooseHead 5 = some 0 ∧ State.reset.chooseHead 5 = none := by decide

theorem witness_ServingPass : State.reset.retryEvents = [] ∧
    ({ exposedBoard with retryEvents := [.slotFree 1] } : State).retryEvents = [.slotFree 1] ∧
    ((board .waiting .empty .opened).joinWaiting 5 aKey).waiting[(5 : Fin 32)] = [aKey] ∧
    ((board .waiting .empty .opened).joinWaiting 5 aKey).findRecord aKey = some (aRecord .waiting) ∧
    (((board .waiting .empty .opened).joinWaiting 5 aKey).offer (aRecord .waiting)).2 = true ∧
    (((board .waiting .empty .free).modHead 0 fun k => { k with state := .fault }).offer (aRecord .waiting)).2 = false := by
  decide

theorem witness_ServingPass_offer : (aRecord .waiting).image = some ⟨64, 64, 1, 16384, 256, 256, [0]⟩ ∧
    ∀ st ∈ [RecordState.waiting, .retakeWaiting], (board st .empty .opened).directoryOrdered ∧
      (board st .empty .opened).findRecord (aRecord st).key = some (aRecord st) ∧
      ((board st .empty .opened).normalPlacement (aRecord st).request).granted.isSome = true ∧
      ((board st .empty .opened).normalPlacement (aRecord st).request).opened = false ∧
      ((board st .empty .free).normalPlacement (aRecord st).request).opened = true ∧
      ((withHead (board st .empty .free) fun k => { k with state := .fault }).normalPlacement
        (aRecord st).request).granted = none := by decide

theorem witness_IndexBuild : buildIndex exposedBoard.slots[(0 : Fin 12)].cells ≠ [] ∧
    buildIndex [⟨.indexPending, none, 1, false⟩] = [] ∧ 2 ≤ aFormat.cellCount ∧
    (buildIndex exposedBoard.slots[(0 : Fin 12)].cells).length ≤ aFormat.documentCells := by decide

theorem witness_IntakeRequests : exposedBoard.port.execution = none ∧ 15 < (16 : Word).toNat ∧
    (∃ j : Fin 16, j ≠ 1 ∧ exposedBoard.admission[j].enabled = true ∧ exposedBoard.admission[j].link = 0 ∧
      exposedBoard.admission[j].operator.toNat = (1 : Word).toNat) ∧
    10 ≤ (10 : Word).toNat ∧ (60000 : Word).toNat ≤ 60000 ∧ (9 : Word).toNat < 10 ∧ 60000 < (60001 : Word).toNat ∧
    exposedBoard.links[(7 : Fin 8)].reception = none ∧
    (receiving exposedBoard 0 false).links[(0 : Fin 8)].reception ≠ none ∧
    1 ∉ exposedBoard.used ∧ (∀ a < 1, a ∈ exposedBoard.used) := by decide

/-- The state after reset with the first `n` blocks used. -/
def firstUsed (n : Nat) : State := { State.reset with used := List.range n }

theorem mem_firstUsed (n b : Nat) (h : b < n) : b ∈ (firstUsed n).used := List.mem_range.mpr h

/-- A state whose blocks are all used has no free block to name. -/
theorem witness_IntakeRequests_full : ∀ b < 4096, b ∈ (firstUsed 4096).used := mem_firstUsed 4096

theorem witness_CarrierChanges : exposedBoard.links[(0 : Fin 8)].active = true ∧
    exposedBoard.links[(1 : Fin 8)].active = false ∧ exposedBoard.holdAsserted = false ∧
    ({ exposedBoard with holdAsserted := true } : State).links[(1 : Fin 8)].active = false ∧
    (∃ r, (receiving (board .receiving .spoiled .opened) 0 false).links[(0 : Fin 8)].reception = some r ∧
      r.withdrawn = false ∧ (board .receiving .spoiled .opened).findRecord r.key = some (aRecord .receiving)) ∧
    (∃ r, (receiving (board .retakeReceiving .spoiled .opened) 0 false).links[(0 : Fin 8)].reception = some r ∧
      r.withdrawn = false ∧ (board .retakeReceiving .spoiled .opened).findRecord r.key = some (aRecord .retakeReceiving)) ∧
    (∃ r, (receiving exposedBoard 0 true).links[(0 : Fin 8)].reception = some r ∧ r.withdrawn = true) :=
  ⟨by decide, by decide, by decide, by decide, ⟨_, rfl, rfl, by decide⟩, ⟨_, rfl, rfl, by decide⟩, ⟨_, rfl, rfl⟩⟩

theorem witness_DiscardedFrames : exposedBoard.links[(0 : Fin 8)].active = true ∧
    exposedBoard.links[(1 : Fin 8)].active = false ∧ frameGood 1 ⟨0, [], 0⟩ = false ∧ frameGood 2 ⟨0, [], 0⟩ = false ∧
    frameGood 3 ⟨0, [], 0⟩ = false ∧ frameGood 4 ⟨0, [], 0⟩ = false ∧ frameGood 1 (goodFrame 1 [0]) = true ∧
    frameGood 3 (goodFrame 3 [0]) = true ∧ frameGood 4 (goodFrame 4 [0]) = true ∧
    frameGood 0x81 (goodFrame 0x81 []) = true ∧ kindHasOtherRow 0x81 = false ∧ kindHasOtherRow 0x05 = false := by
  decide +kernel

/-- The fields of a SUBMIT-HEAD for a series. -/
def headFor (series : Nat) : HeadFields := ⟨7, 1, ⟨100, 2, 0⟩, series, 64, 64, 1, false⟩

theorem witness_SubmitHeadFrames_checks :
    (∀ i : Fin 16, ¬ (exposedBoard.admission[i].enabled = true ∧ exposedBoard.admission[i].link = 7)) ∧
    (exposedBoard.admission[(0 : Fin 16)].enabled = true ∧ exposedBoard.admission[(0 : Fin 16)].link = 0 ∧
      exposedBoard.admission[(0 : Fin 16)].operator = (headFor 5).operator) ∧
    (∀ j : Fin 16, exposedBoard.admission[j].enabled = true → j = 0) ∧ 32 ≤ (headFor 32).series ∧
    exposedBoard.series[(31 : Fin 32)].state = .undefined ∧
    (exposedBoard.modSeries 4 fun v => { v with state := .active }).series[(4 : Fin 32)].state ≠ .undefined ∧
    exposedBoard.admission[(0 : Fin 16)].mask.getLsbD 4 = false ∧
    exposedBoard.admission[(0 : Fin 16)].mask.getLsbD 5 = true ∧ exposedBoard.series[(5 : Fin 32)].state = .active ∧
    (exposedBoard.modSeries 5 fun v => { v with state := .cutOff }).series[(5 : Fin 32)].state = .cutOff ∧
    (∃ x, (exposedBoard.formatAt 0).fit 64 64 = .fits x) ∧ ∃ x y, (exposedBoard.formatAt 0).fit 64 8192 = .oversize x y :=
  ⟨by decide, by decide, by decide, by decide, by decide, by decide, by decide, by decide, by decide, by decide,
    ⟨_, by rfl⟩, ⟨_, _, by rfl⟩⟩

theorem witness_SubmitHeadFrames_outcomes : exposedBoard.links[(0 : Fin 8)].active = true ∧
    frameGood 1 (goodFrame 1 (headBytes ⟨100, 2, 0⟩ 64)) = true ∧
    (goodFrame 1 (headBytes ⟨100, 2, 0⟩ 64)).length.toNat = 19 ∧
    exposedBoard.links[(0 : Fin 8)].reception = none ∧ (receiving exposedBoard 0 false).links[(0 : Fin 8)].reception ≠ none ∧
    (after (.submitHead 0 (goodFrame 1 (headBytes ⟨100, 2, 0⟩ 64))) exposedBoard).links[(0 : Fin 8)].reception ≠ none ∧
    (after (.submitHead 0 (goodFrame 1 (headBytes ⟨100, 2, 0⟩ 63))) exposedBoard).links[(0 : Fin 8)].outbox =
      [.refuse 7 .malformed] := by decide +kernel

/-- Section 11.6: a SUBMIT-HEAD payload of bytes 01H to 13H, field by field; bit 0 of byte 18 is the retake flag. -/
theorem test_head_fields : headFields [1, 2, 3, 4, 5, 6, 7, 8, 9, 10, 11, 12, 13, 14, 15, 16, 17, 18, 19] =
    ⟨0x0102, 3, ⟨0x0405, 0x060708090A, 0x0B0C⟩, 13, 0x0E0F, 0x1011, 18, true⟩ := by decide +kernel

/-- Section 11.6: a PLACED payload: tag, key, fiche identity, grid reference B03, submitted class, dose and retake flags. -/
theorem test_placed_payload : outPayload (.placed ⟨0x0102, ⟨0x0304, 0x05060708, 0x090A⟩, ⟨11, 0x0C0D, 0x0E0F⟩, ⟨1, 2⟩, 3,
    false, true⟩) = [1, 2, 3, 4, 0, 5, 6, 7, 8, 9, 10, 11, 12, 13, 14, 15, 0x42, 0x30, 0x33, 3, 2] := by decide

theorem witness_SubmitHeadFrames_claim : exposedBoard.links[(0 : Fin 8)].active = true ∧
    (exposedBoard.checkHead 0 { headFor 5 with cls := 4 } = .error .malformed) ∧
    (∃ c, exposedBoard.checkHead 0 { headFor 5 with key := aKey } = .ok c ∧ exposedBoard.takeClaim c = .error .duplicateKey) ∧
    ∃ c t, exposedBoard.checkHead 0 (headFor 5) = .ok c ∧ exposedBoard.takeClaim c = .ok t :=
  ⟨by decide, by rfl, ⟨_, by rfl, by rfl⟩, ⟨_, _, by rfl, by rfl⟩⟩

/-- A claim of a key for series 5. -/
def aClaim (k : Key) (retake : Bool) (width height : Nat) : Claim :=
  ⟨k, 5, retake, ⟨0, 0, 7, 1, 2⟩, width, height, aFormat.settleFit 1 width height 16384 true⟩

theorem witness_ClaimOutcomes : exposedBoard.findRecord aKey = some (aRecord .exposed) ∧
    exposedBoard.findRecord ⟨100, 2, 0⟩ = none ∧ exposedBoard.records.length < 16384 ∧ exposedBoard.directoryOrdered ∧
    ¬ 4096 - exposedBoard.used.length < blockNeed 8192 8192 ∧ (aClaim aKey true 64 64).series = (aRecord .exposed).series ∧
    (aRecord .exposed).superseded.length < 3 ∧ 3 ≤ (List.replicate 3 (⟨aPlace, false⟩ : Location)).length ∧
    (board .waiting .empty .opened).findRecord aKey = some (aRecord .waiting) ∧
    (board .retakeWaiting .empty .opened).findRecord aKey = some (aRecord .retakeWaiting) ∧
    exposedBoard.poolOrdered := by decide

theorem witness_ClaimOutcomes_full : 4096 - (List.range 4096).length < blockNeed 64 64 ∧
    16384 ≤ (List.replicate 16384 (aRecord .exposed)).length ∧
    ({ exposedBoard with records := List.replicate 16384 (aRecord .exposed) } : State).findRecord ⟨100, 2, 0⟩ = none := by
  refine ⟨by rw [List.length_range]; decide, by rw [List.length_replicate], ?_⟩
  refine List.find?_eq_none.mpr fun x hx => ?_
  rw [List.eq_of_mem_replicate hx]
  decide

theorem witness_BodyFrames : frameGood 2 (goodFrame 2 [9, 8]) = true ∧
    (receiving (board .receiving .spoiled .opened) 510 false).links[(0 : Fin 8)].reception.map Reception.soFar = some 510 ∧
    510 + [9, 8].length ≤ 512 ∧ 512 < 511 + [9, 8].length ∧
    (receiving (board .receiving .spoiled .opened) 0 true).links[(0 : Fin 8)].reception ≠ none ∧
    exposedBoard.links[(0 : Fin 8)].reception = none ∧ exposedBoard.memoryCanonical ∧
    ((board .receiving .spoiled .opened).receptionBlocks aKey).Nodup ∧
    bodyAddress ((board .receiving .spoiled .opened).receptionBlocks aKey) 510 = some 510 := by decide +kernel

theorem witness_SubmitEndOutcomes : frameGood 3 (goodFrame 3 [0, 0, 0, 0]) = true ∧
    (goodFrame 3 [0, 0, 0, 0]).length.toNat = 4 ∧ exposedBoard.links[(0 : Fin 8)].reception = none ∧
    (receiving (board .receiving .spoiled .opened) 511 false).links[(0 : Fin 8)].reception.map Reception.soFar = some 511 ∧
    (receiving (board .receiving .spoiled .opened) 512 false).links[(0 : Fin 8)].reception.map Reception.soFar = some 512 ∧
    BitVec.ofNat 32 (numberOf [0, 0, 0, 0]) = ~~~checkInitial ∧ BitVec.ofNat 32 (numberOf [0, 0, 0, 1]) ≠ ~~~checkInitial ∧
    (board .receiving .spoiled .opened).directoryOrdered ∧
    (board .receiving .spoiled .opened).findRecord aKey = some (aRecord .receiving) ∧
    (board .retakeReceiving .spoiled .opened).findRecord aKey = some (aRecord .retakeReceiving) ∧
    (board .receiving .spoiled .opened).waiting[(5 : Fin 32)] = [] ∧
    ((board .receiving .spoiled .opened).joinWaiting 5 ⟨100, 2, 0⟩).waiting[(5 : Fin 32)] ≠ [] ∧
    (State.normalPlacement (board .waiting .spoiled .opened) (aRecord .waiting).request).granted.isSome = true ∧
    (State.normalPlacement (board .waiting .spoiled .opened) (aRecord .waiting).request).opened = false ∧
    (State.normalPlacement (board .waiting .spoiled .free) (aRecord .waiting).request).opened = true ∧
    (State.normalPlacement State.reset (aRecord .waiting).request).granted = none := by decide +kernel

theorem witness_ReceptionEndings : exposedBoard.links[(0 : Fin 8)].reception = none ∧
    exposedBoard.links[(0 : Fin 8)].active = true ∧
    (∀ st ∈ [RecordState.receiving, .retakeReceiving],
      (receiving (board st .spoiled .opened) 0 false).links[(0 : Fin 8)].reception.map Reception.key = some aKey ∧
      (receiving (board st .spoiled .opened) 0 false).findRecord aKey = some (aRecord st)) ∧
    (receiving exposedBoard 0 true).links[(0 : Fin 8)].reception.map Reception.withdrawn = some true := by decide

theorem witness_ProbeReplies : exposedBoard.links[(0 : Fin 8)].active = true ∧ frameGood 4 (goodFrame 4 []) = true ∧
    (goodFrame 4 []).length.toNat = 0 ∧ (receiving exposedBoard 0 true).links[(0 : Fin 8)].reception ≠ none := by
  decide +kernel

/-- The test state during a hold, with that many blocks used. -/
def held (used : Nat) : State :=
  ({ exposedBoard with holdAsserted := true, used := List.range used } : State).modLink 0 fun k =>
    { k with holdTimer := some 500, quantum := 500 }

theorem witness_HoldsAndBlocks : (held 0).links[(0 : Fin 8)].holdTimer ≠ none ∧ (held 0).holdAsserted = true ∧
    (held 0).links[(0 : Fin 8)].active = true ∧ exposedBoard.links[(0 : Fin 8)].holdTimer = none ∧
    exposedBoard.poolOrdered ∧ exposedBoard.used.length < 3584 ∧ (held 0).used.length ≤ 3072 ∧
    4096 - exposedBoard.used.length < 4096 ∧ 4095 ≤ 4096 - exposedBoard.used.length := by decide

theorem witness_HoldsAndBlocks_marks : (held 3072).used.length ≤ 3072 ∧ 3072 < (held 3073).used.length ∧
    3584 ≤ ({ held 3584 with holdAsserted := false } : State).used.length ∧
    ({ held 3583 with holdAsserted := false } : State).used.length < 3584 := by
  have h : ∀ n, (held n).used.length = n := fun n => by simp [held, State.modLink]
  simp only [h]
  decide

theorem witness_BlockNeed : 64 ≤ 64 ∧ 8192 ≤ 8192 := by decide

/-- The test state with head 0 in a state, its slots FREE. -/
def headIn (st : HeadState) : State := withHead (board .exposed .empty .free) fun k => { k with state := st }

theorem witness_HeadControlRequests : (headIn .ready).port.execution = none ∧ (250 : Word).toNat ≤ 250 ∧
    250 < (251 : Word).toNat ∧ 3 < (4 : Word).toNat ∧
    (∀ st ∈ [HeadState.noRoll, .ready, .running, .stopping, .fault], (headIn st).heads[(0 : Fin 4)].state = st) ∧
    (∃ i : Fin 12, i.val / 3 = 0 ∧ exposedBoard.slots[i].state ≠ .free) ∧
    (∀ i : Fin 12, i.val / 3 = 0 → (headIn .fault).slots[i].state = .free) ∧
    (headIn .running).heads[(0 : Fin 4)].inFlight = none ∧
    (flying exposedBoard (.title 0) .drawing).heads[(0 : Fin 4)].inFlight ≠ none := by decide

theorem witness_HeadReportsAndSettings : exposedBoard.port.execution = none ∧ 3 < (4 : Word).toNat ∧
    1 < (2 : Word).toNat ∧ 65535 < (65536 : Word).toNat ∧ 255 < (256 : Word).toNat ∧ (65535 : Word).toNat ≤ 65535 ∧
    (flying exposedBoard (.title 0) .acquiring).heads[(0 : Fin 4)].inFlight = some ⟨.title 0, .acquiring⟩ ∧
    (flying exposedBoard (.title 0) .acquiring).heads[(0 : Fin 4)].tracker.run = some ⟨0, none⟩ ∧
    exposedBoard.heads[(0 : Fin 4)].inFlight = none := by decide

/-- The test state with an entry queued on head 0. -/
def queued (sheet : Option Nat) (locked : Bool) : State :=
  withHead (board .reserved .held .opened) fun k =>
    { k with queue := [.cell 0 0 2], stageSheet := sheet, tracker := { k.tracker with locked := locked } }

theorem witness_EntryTakesAndPositions : (queued none false).heads[(0 : Fin 4)].state = .running ∧
    (queued none false).heads[(0 : Fin 4)].inFlight = none ∧ (queued none false).retryEvents = [] ∧
    (queued none false).heads[(0 : Fin 4)].queue = [.cell 0 0 2] ∧ (queued none false).keyAt 0 0 = some aKey ∧
    (queued none false).heads[(0 : Fin 4)].stageSheet ≠ some 0 ∧
    (queued (some 0) false).heads[(0 : Fin 4)].stageSheet = some (queued none false).slots[(0 : Fin 12)].sheet ∧
    (queued (some 0) true).heads[(0 : Fin 4)].tracker.locked = true ∧
    RetryEvent.slotFree 2 ∈ ({ queued none false with retryEvents := [.slotFree 2] } : State).retryEvents ∧
    headOf 2 = 0 ∧ [spaceCode] ≠ [] ∧ (queued none false).findRecord aKey = some (aRecord .reserved) ∧ (aRecord .reserved).image ≠ none ∧
    (List.replicate 28 spaceCode).length ≤ 28 := by decide

theorem witness_SheetArrivals :
    (flying exposedBoard (.title 0) .advancing).heads[(0 : Fin 4)].inFlight = some ⟨.title 0, .advancing⟩ ∧
    (flying exposedBoard (.title 0) .advancing).heads[(0 : Fin 4)].transportLimit ≠ none ∧
    (flying exposedBoard (.title 0) .advancing).heads[(0 : Fin 4)].awaited = some 3 ∧
    (flying exposedBoard (.title 0) .advancing).heads[(0 : Fin 4)].coded = false ∧
    (withHead exposedBoard fun k => { k with coded := true }).heads[(0 : Fin 4)].coded = true ∧
    (withHead (flying exposedBoard (.title 0) .advancing) fun k =>
      { k with transportLimit := none, codeReads := some [some 0] }).heads[(0 : Fin 4)].codeReads = some [some 0] ∧
    codeOutcome ([some 0] ++ [some 0]) = some (some 0) ∧ codeOutcome ([none, none, none] ++ [none]) = some none ∧
    codeOutcome ([some 0] ++ [none]) = none ∧ (0 : BitVec 16).toNat = (0 + 0) % 65536 ∧ [none, some 0].getLast? = some (some 0) ∧
    (1 : BitVec 16).toNat ≠ (0 + 0) % 65536 := by decide

theorem witness_HeadFaults : exposedBoard.heads[(0 : Fin 4)].transportLimit = none ∧
    (flying exposedBoard (.title 0) .advancing).heads[(0 : Fin 4)].transportLimit ≠ none ∧
    (flying exposedBoard (.title 0) .acquiring).heads[(0 : Fin 4)].stageLimit ≠ none ∧
    (headIn .fault).heads[(0 : Fin 4)].state = .fault ∧
    (flying (board .exposing .held .opened) (.cell 0 0 2) .positioning).heads[(0 : Fin 4)].inFlight =
      some ⟨.cell 0 0 2, .positioning⟩ ∧
    (flying (board .exposing .held .opened) (.cell 0 0 2) .positioning).keyAt 0 0 = some aKey ∧
    exposedBoard.queuesDescend := by decide

/-- The test state with a double HELD in cells 0 and 1. -/
def doubleHeld (st : RecordState) : State :=
  (board st .held .opened).modSlot 0 fun t => { t with
    cells := [⟨.held, some aKey, 2, false⟩, ⟨.trailing, some aKey, 0, false⟩] ++ t.cells.drop 2 }

theorem witness_InterruptedDraws :
    (flying exposedBoard (.title 0) .drawing).heads[(0 : Fin 4)].inFlight = some ⟨.title 0, .drawing⟩ ∧
    (flying (board .exposing .held .opened) (.cell 0 0 2) .drawing).heads[(0 : Fin 4)].inFlight =
      some ⟨.cell 0 0 2, .drawing⟩ ∧
    (board .exposing .held .opened).slots[(0 : Fin 12)].cells[0]? = some ⟨.held, some aKey, 1, false⟩ ∧
    (doubleHeld .exposing).slots[(0 : Fin 12)].cells[0]? = some ⟨.held, some aKey, 2, false⟩ ∧
    (doubleHeld .exposing).slots[(0 : Fin 12)].cells[0 + 1]? = some ⟨.trailing, some aKey, 0, false⟩ ∧
    (board .exposing .held .opened).directoryOrdered ∧
    (∀ st ∈ [RecordState.exposing, .retakeExposing], (board st .held .opened).findRecord aKey = some (aRecord st) ∧
      (aRecord st).image = some ⟨64, 64, 1, 16384, 256, 256, [0]⟩ ∧
      ((board st .spoiled .opened).rePlacement 0 (aRecord st).request).granted.isSome = true ∧
      ((withHead (board st .spoiled .closing) fun k => { k with state := .fault }).rePlacement 0
        (aRecord st).request).granted = none) ∧
    exposedBoard.queuesDescend ∧ (∀ x ∈ exposedBoard.heads[(0 : Fin 4)].queue, x.cls ≤ 4) := by decide

theorem witness_AcquisitionReadings :
    (flying exposedBoard (.title 0) .acquiring).heads[(0 : Fin 4)].inFlight = some ⟨.title 0, .acquiring⟩ ∧
    (flying exposedBoard (.title 0) .acquiring).heads[(0 : Fin 4)].tracker.run = some ⟨0, none⟩ ∧
    (flying exposedBoard (.title 0) .acquiring).heads[(0 : Fin 4)].stageLimit ≠ none ∧
    (flying exposedBoard (.title 0) .acquiring).heads[(0 : Fin 4)].awaited = some 3 ∧
    readingsAgree (.offset 400 (-400)) (.offset 390 (-390)) = true ∧
    readingsAgree (.offset 400 0) (.offset 389 0) = false ∧ 6 + 1 < 8 ∧ 8 ≤ 7 + 1 := by decide

theorem witness_AcquisitionReadings_disregarded : exposedBoard.heads[(0 : Fin 4)].inFlight = none ∧
    (∀ p ∈ [Phase.advancing, .drawing], (flying exposedBoard (.title 0) p).heads[(0 : Fin 4)].inFlight = some ⟨.title 0, p⟩) ∧
    (withHead (flying exposedBoard (.title 0) .positioning) fun k => { k with stageLimit := none }).heads[(0 : Fin 4)].stageLimit =
      none ∧
    (flying exposedBoard (.title 0) .positioning).heads[(0 : Fin 4)].awaited ≠ some 4 := by decide

theorem witness_PositioningReadings :
    (flying (board .exposing .held .opened) (.cell 0 0 2) .positioning).heads[(0 : Fin 4)].inFlight =
      some ⟨.cell 0 0 2, .positioning⟩ ∧
    (flying (board .exposing .held .opened) (.cell 0 0 2) .positioning).heads[(0 : Fin 4)].tracker.locked = true ∧
    (flying (board .exposing .held .opened) (.cell 0 0 2) .positioning).heads[(0 : Fin 4)].tracker.run = none ∧
    (flying (board .exposing .held .opened) (.cell 0 0 2) .positioning).heads[(0 : Fin 4)].stageLimit ≠ none ∧
    (flying (board .exposing .held .opened) (.cell 0 0 2) .positioning).heads[(0 : Fin 4)].awaited = some 3 ∧
    Tracker.reset.good (.offset 40 (-40)) = true ∧ Tracker.reset.good (.offset 41 0) = false ∧
    Tracker.reset.errors < 2 ∧ 2 ≤ { Tracker.reset with errors := 2 }.errors ∧ Tracker.reset.holdLock = false ∧
    (flying exposedBoard (.title 0) .positioning).heads[(0 : Fin 4)].inFlight = some ⟨.title 0, .positioning⟩ ∧
    (flying exposedBoard (.title 0) .positioning).queuesDescend := by decide

theorem witness_PositioningReadings_draws : (board .exposing .held .opened).keyAt 0 0 = some aKey ∧
    (board .exposing .held .opened).findRecord aKey = some (aRecord .exposing) ∧
    (aRecord .exposing).image = some ⟨64, 64, 1, 16384, 256, 256, [0]⟩ ∧ [0][511 / 65536]? = some 0 ∧
    [[0x41#8], [0x42]][1]? = some [0x42] ∧ [[0x41#8]][1]? = none := by decide

/-- R65: the bits beyond the W-th pixel of a row are not drawn; the first pixel of a row is in its first byte's highest bit. -/
theorem test_padding_bits_not_drawn :
    (Draw.image 10 20 9 2 4096 [0x80, 0xFF, 0x00, 0x80]).pixelArea 8 0 = some ((18, 19), (20, 21)) ∧
    (Draw.image 10 20 9 2 4096 [0x80, 0xFF, 0x00, 0x80]).pixelArea 9 0 = none ∧
    (Draw.image 10 20 9 2 4096 [0x80, 0xFF, 0x00, 0x80]).pixelArea 0 0 = some ((10, 11), (20, 21)) ∧
    (Draw.image 10 20 9 2 4096 [0x80, 0xFF, 0x00, 0x80]).pixelArea 8 1 = some ((18, 19), (21, 22)) := by decide

theorem witness_TitleAndIndexDraws :
    (flying exposedBoard (.title 0) .drawing).heads[(0 : Fin 4)].inFlight = some ⟨.title 0, .drawing⟩ ∧
    (flying (board .exposed .spoiled .indexing) (.index 0 5 0) .drawing).heads[(0 : Fin 4)].inFlight =
      some ⟨.index 0 5 0, .drawing⟩ ∧
    (1 : BitVec 16) ≠ 0 ∧ exposedBoard.heads[(0 : Fin 4)].inFlight = none ∧
    (∀ j < 6, j ≠ 5 → ∀ x ∈ (board .exposed .spoiled .indexing).slots[(0 : Fin 12)].cells[j]?, x.state ≠ .indexPending) ∧
    (∃ x, (board .exposed .indexPending .indexing).slots[(0 : Fin 12)].cells[0]? = some x ∧ x.state = .indexPending) :=
  ⟨by decide, by decide, by decide, by decide, by decide, ⟨_, rfl, rfl⟩⟩

theorem witness_CellDrawsAndNotices : (∀ st ∈ [RecordState.exposing, .retakeExposing],
      (flying (board st .held .opened) (.cell 0 0 2) .drawing).heads[(0 : Fin 4)].inFlight = some ⟨.cell 0 0 2, .drawing⟩ ∧
      (board st .held .opened).keyAt 0 0 = some aKey ∧ (board st .held .opened).directoryOrdered ∧
      (board st .held .opened).findRecord aKey = some (aRecord st) ∧ (aRecord st).reserved = some ⟨0, aPlace⟩) ∧
    (aRecord .retakeExposing).current = some ⟨{ aPlace with cell := 1 }, false⟩ ∧
    (board .retakeExposing .held .opened).liveOnly 0 { aPlace with cell := 1 } ∧
    (∀ i : Fin 12, ¬ (board .retakeExposing .held .opened).slotMatches i { aPlace with sheet := 7 }) ∧
    exposedBoard.admission[(1 : Fin 16)].enabled = false ∧ exposedBoard.admission[(0 : Fin 16)].enabled = true ∧
    exposedBoard.admission[(0 : Fin 16)].generation = (aRecord .exposing).source.generation ∧
    exposedBoard.links[(0 : Fin 8)].active = true ∧
    (after (.linkDown 0) exposedBoard).links[(0 : Fin 8)].active = false := by decide

theorem witness_DoseWindow : { Dose.reset with position := 254 }.position < 255 ∧
    { Dose.reset with position := 255 }.position = 255 := by decide

/-- The test state with a command waiting meets every invariant that the steps keep. -/
theorem witness_invariants_kept : exposedBoard.memoryCanonical ∧ exposedBoard.poolOrdered ∧ exposedBoard.directoryOrdered :=
  by decide
theorem witness_StagingAndDirectoryKept_blocks : (board .reserved .held .opened).poolOrdered ∧
    (∀ r ∈ (board .reserved .held .opened).records, r.imageFits) ∧
    ∀ b, b ∈ (board .reserved .held .opened).used ↔
      ∃ r ∈ (board .reserved .held .opened).records, b ∈ blocksOf r.image :=
  ⟨by decide, by decide, fun _ => by simp [board, aRecord, blocksOf]⟩
/-- The test state with its record RETAKE-RESERVED, the record's CELL entry queued, and its old exposure in cell 1. -/
def retakeQueued : State := withHead (board .retakeReserved .held .opened) fun k => { k with queue := [.cell 0 0 2] }

theorem witness_RecordsKept_entries : retakeQueued.entriesAgree := by
  refine ⟨fun h => ?_, by decide⟩
  have none_flies : ∀ f, f ∉ retakeQueued.heads[h].inFlight := by revert h; decide
  refine ⟨fun e he => ?_, fun f hf => absurd hf (none_flies f), by revert h; decide⟩
  have only : ∀ h : Fin 4, ∀ e ∈ retakeQueued.heads[h].queue, h = 0 ∧ e = .cell 0 0 2 := by decide
  obtain ⟨rfl, rfl⟩ := only h e he
  exact ⟨by decide, by decide⟩

theorem witness_RecordsKept : retakeQueued.directoryOrdered ∧ retakeQueued.slotsFit ∧ retakeQueued.filmAgrees ∧
    retakeQueued.recordsAgree ∧ ∃ t, step { retakeQueued with pending := [.entryTake 0] } = .next t :=
  ⟨by decide, by decide, by decide,
    ⟨by decide, by decide, by decide, by decide, witness_RecordsKept_entries, by decide⟩, _, rfl⟩
theorem witness_HeadsKept : exposedBoard.flightsAgree ∧ exposedBoard.queuesDescend := ⟨by decide, by decide⟩
theorem witness_LinksKept : exposedBoard.linksRest := by decide
theorem witness_SlotFormatsKept : exposedBoard.slotsFit := by decide
theorem witness_SlotLimitsKept : exposedBoard.slotsLimited := by decide
theorem witness_RangesKept : exposedBoard.inRange := by decide
theorem witness_kept_step : ∃ t, step { exposedBoard with pending := [.entryTake 0] } = .next t := ⟨_, rfl⟩
theorem witness_OwnersAlone : (∃ t, exec (.entryTake 0) (queued none false) = .next t) ∧
    (∀ b, Instr.entryTake 0 ≠ .powerOn b) ∧ ∀ l k f, Instr.entryTake 0 ≠ .body l k f :=
  ⟨⟨_, rfl⟩, fun _ => by simp, fun _ _ _ => by simp⟩

end Sys2Proof.Tests
end

section
/-! The Format Table's validity test (R28) and what it guarantees of every cell of a valid format. -/

namespace Sys2Proof.Machine

/-! ### The tests of R28 and the place of a cell -/

theorem Format.valid_iff (f : Format) :
    f.valid = true ↔ (400 ≤ f.ox ∧ 400 ≤ f.oy) ∧ f.ox + f.cols * f.px + 400 ≤ 148000 ∧
      f.oy + f.band + f.rows * f.py + 400 ≤ 105000 ∧
      (2 * f.gutter + 500 ≤ f.px ∧ 2 * f.gutter + 500 ≤ f.py) ∧ 2 ≤ f.rows * f.cols := by
  simp only [Format.valid, Bool.and_eq_true, decide_eq_true_eq, and_assoc]
  rfl

/-- The far edge of place `i` of `n` places with one pitch lies within their whole extent. -/
theorem pitch_extent_le {i n : Nat} (pitch : Nat) (h : i < n) : i * pitch + pitch ≤ n * pitch := by
  rw [← Nat.succ_mul]
  exact Nat.mul_le_mul_right pitch h

/-- A cell lies in the grid: at or after its corner (Ox, Oy + Hb), and not beyond C columns and R rows from there. -/
theorem Format.cellOrigin_bounds {f : Format} {n : Nat} (h : n < f.rows * f.cols) :
    ((f.ox : Int) ≤ (f.cellOrigin n).1 ∧ (f.cellOrigin n).1 + f.px ≤ (f.ox + f.cols * f.px : Nat)) ∧
      (f.oy + f.band : Int) ≤ (f.cellOrigin n).2 ∧
      (f.cellOrigin n).2 + f.py ≤ (f.oy + f.band + f.rows * f.py : Nat) := by
  have hcols : 0 < f.cols := Nat.pos_of_mul_pos_left (Nat.zero_lt_of_lt h)
  have hcol := pitch_extent_le f.px (Nat.mod_lt n hcols)
  have hrow := pitch_extent_le f.py (Nat.div_lt_of_lt_mul (Nat.mul_comm f.rows f.cols ▸ h))
  simp only [Format.cellOrigin]
  omega

/-- A grid of two cells or more keeps a document cell beside its index cells (R27, R28 test 5). -/
theorem Format.documentCells_pos {f : Format} (h : 2 ≤ f.rows * f.cols) : 1 ≤ f.documentCells := by
  unfold Format.documentCells Format.indexCells Format.cellCount ceilDiv
  omega

/-- Every cell of a valid format keeps 400 µm to each edge of the sheet, and the title band above it too. -/
theorem Format.valid_cell_margins {f : Format} (hf : f.valid = true) {n : Nat} (hn : n < f.rows * f.cols) :
    400 ≤ (f.cellOrigin n).1 ∧ (f.cellOrigin n).1 + f.px + 400 ≤ 148000 ∧
      400 + (f.band : Int) ≤ (f.cellOrigin n).2 ∧ (f.cellOrigin n).2 + f.py + 400 ≤ 105000 := by
  obtain ⟨⟨hox, hoy⟩, hright, hbottom, -, -⟩ := f.valid_iff.mp hf
  obtain ⟨⟨hx, hx'⟩, hy, hy'⟩ := f.cellOrigin_bounds hn
  omega

/-- Set Format leaves the table as it is on a format that is not valid, and answers a refusal (R29). -/
theorem setFormatOwner_of_not_valid {f : Format} (hf : f.valid = false) (i : Word) (s : State) :
    ∃ st, st ≠ Status.ok ∧ setFormatOwner i f s = (s, refusal st) := by
  unfold setFormatOwner
  split
  · exact ⟨.badArgument, nofun, rfl⟩
  · split_ifs with hrange huse hvalid
    · exact ⟨.badArgument, nofun, rfl⟩
    · exact ⟨.formatInUse, nofun, rfl⟩
    · exact ⟨.badFormat, nofun, rfl⟩
    · simp [hf] at hvalid

/-- Settles O19: the tests are R28's by definition, the margins follow from a cell's place in the grid, and an offset of
at most 400 µm uses up no more than a margin. -/
theorem validFormats : Obligations.ValidFormats := by
  intro f
  refine ⟨?_, fun hf => ⟨fun n hn => ?_, ?_⟩, fun i s hf => ?_⟩
  · rw [f.valid_iff]
    omega
  · obtain ⟨hleft, hright, htop, hbottom⟩ := f.valid_cell_margins hf hn
    exact ⟨hleft, hright, htop, hbottom, fun dx dy hdx hdy => by omega⟩
  · obtain ⟨-, -, -, ⟨hpx, hpy⟩, hcells⟩ := f.valid_iff.mp hf
    refine ⟨?_, ?_, f.documentCells_pos hcells⟩
    · unfold Format.drawableWidth
      omega
    · unfold Format.drawableHeight
      omega
  · obtain ⟨st, hst, h⟩ := setFormatOwner_of_not_valid hf i s
    rw [h]
    exact ⟨rfl, hst, rfl⟩

end Sys2Proof.Machine
end

section
/-! The choice of a head for a new fiche (R45): the eligible heads, and the fold over them as the least by the first two
tests, the first such in ascending order. -/

namespace Sys2Proof.Machine

/-! ### Eligible heads -/

theorem HeadState.holdsRoll_iff (k : HeadState) :
    k.holdsRoll = true ↔ k = .ready ∨ k = .running ∨ k = .stopping := by
  cases k <;> simp [HeadState.holdsRoll]

theorem mem_slotsOf {i : Fin 12} {h : Fin 4} : i ∈ slotsOf h ↔ i.val / 3 = h.val := by
  simp only [slotsOf, List.mem_cons, List.not_mem_nil, or_false, Fin.ext_iff]
  omega

theorem State.freeSlot_isSome_iff (s : State) (h : Fin 4) :
    (s.freeSlot h).isSome = true ↔ ∃ i : Fin 12, i.val / 3 = h.val ∧ s.slots[i].state = .free := by
  simp [State.freeSlot, mem_slotsOf]

theorem State.eligible_iff (s : State) (c : Fin 32) (h : Fin 4) :
    s.eligible c h = true ↔ s.series[c].headMask.getLsbD h.val = true ∧
      (s.heads[h].state = .ready ∨ s.heads[h].state = .running ∨ s.heads[h].state = .stopping) ∧
      (∃ i : Fin 12, i.val / 3 = h.val ∧ s.slots[i].state = .free) ∧ s.heads[h].nextSheet < s.heads[h].sheets := by
  simp only [State.eligible, Bool.and_eq_true, decide_eq_true_eq, HeadState.holdsRoll_iff, State.freeSlot_isSome_iff,
    and_assoc]

/-! ### The first two tests as a rank -/

/-- What the first two tests of R45 compare, in their order: the DEGRADED flag, then the entries waiting. -/
def State.headRank (s : State) (h : Fin 4) : Bool ×ₗ Nat :=
  toLex (s.heads[h].dose.degraded, s.heads[h].queue.length)

theorem State.headRank_lt_iff (s : State) (a b : Fin 4) :
    s.headRank a < s.headRank b ↔
      (s.heads[a].dose.degraded = false ∧ s.heads[b].dose.degraded = true) ∨
      (s.heads[a].dose.degraded = s.heads[b].dose.degraded ∧ s.heads[a].queue.length < s.heads[b].queue.length) := by
  rw [State.headRank, State.headRank, Prod.Lex.toLex_lt_toLex, Bool.lt_iff]

theorem State.headRank_eq_iff (s : State) (a b : Fin 4) :
    s.headRank a = s.headRank b ↔
      s.heads[a].dose.degraded = s.heads[b].dose.degraded ∧ s.heads[a].queue.length = s.heads[b].queue.length := by
  rw [State.headRank, State.headRank, toLex_inj, Prod.mk.injEq]

theorem State.chosenBefore_iff (s : State) (a b : Fin 4) :
    s.chosenBefore a b = true ↔ s.headRank a < s.headRank b := by
  rw [State.headRank_lt_iff, State.chosenBefore]
  cases s.heads[a].dose.degraded <;> cases s.heads[b].dose.degraded <;> simp

/-! ### The third test: the first of the least -/

/-- The heads that R45 chooses among, in ascending number. -/
def State.eligibleHeads (s : State) (c : Fin 32) : List (Fin 4) := allHeads.filter (s.eligible c)

theorem State.mem_eligibleHeads {s : State} {c : Fin 32} {h : Fin 4} :
    h ∈ s.eligibleHeads c ↔ s.eligible c h = true := by
  simp [State.eligibleHeads, allHeads]

theorem State.eligibleHeads_sorted (s : State) (c : Fin 32) : (s.eligibleHeads c).SortedLT :=
  ((List.sortedLT_finRange 4).pairwise.filter _).sortedLT

/-- In a strictly ascending list the order of places is the order of members. -/
theorem idxOf_le_idxOf_iff {α : Type} [LinearOrder α] {l : List α} (hl : l.SortedLT) {a b : α} (ha : a ∈ l)
    (hb : b ∈ l) : l.idxOf a ≤ l.idxOf b ↔ a ≤ b :=
  (hl.getIso l).symm.le_iff_le (x := ⟨a, ha⟩) (y := ⟨b, hb⟩)

/-- Of a strictly ascending list the library's `argmin` gives the member of least rank, of equal ones the least member. -/
theorem argmin_eq_some_iff_of_sortedLT {α β : Type} [LinearOrder α] [LinearOrder β] {l : List α} (hl : l.SortedLT)
    (f : α → β) (m : α) :
    l.argmin f = some m ↔ m ∈ l ∧ ∀ a ∈ l, a ≠ m → f m < f a ∨ f m = f a ∧ m < a := by
  rw [List.argmin_eq_some_iff]
  constructor
  · rintro ⟨hm, hle, hfirst⟩
    refine ⟨hm, fun a ha hne => ?_⟩
    rcases (hle a ha).lt_or_eq with hlt | heq
    · exact .inl hlt
    · exact .inr ⟨heq, ((idxOf_le_idxOf_iff hl hm ha).mp (hfirst a ha heq.ge)).lt_of_ne hne.symm⟩
  · rintro ⟨hm, hbest⟩
    refine ⟨hm, fun a ha => ?_, fun a ha hle => (idxOf_le_idxOf_iff hl hm ha).mpr ?_⟩
    · rcases eq_or_ne a m with rfl | hne
      · exact le_rfl
      · exact (hbest a ha hne).elim le_of_lt fun h => h.1.le
    · rcases eq_or_ne a m with rfl | hne
      · exact le_rfl
      · exact (hbest a ha hne).elim (fun h => absurd hle h.not_ge) fun h => h.2.le

/-- The fold of R45 is the library's search for a member of least rank. -/
theorem State.chooseHead_eq_argmin (s : State) (c : Fin 32) :
    s.chooseHead c = (s.eligibleHeads c).argmin s.headRank := by
  unfold State.chooseHead List.argmin
  refine congrArg (fun step => List.foldl step none (s.eligibleHeads c)) (funext₂ fun best h => ?_)
  cases best with
  | none => rfl
  | some b => exact if_congr (s.chosenBefore_iff h b) rfl rfl

theorem State.chooseHead_eq_none_iff (s : State) (c : Fin 32) :
    s.chooseHead c = none ↔ ∀ h, ¬ s.eligible c h = true := by
  rw [State.chooseHead_eq_argmin, List.argmin_eq_none, List.eq_nil_iff_forall_not_mem]
  simp only [State.mem_eligibleHeads]

/-- A head is chosen exactly when it is eligible and every other eligible head has a higher rank, or the same rank and a
higher number. -/
theorem State.chooseHead_eq_some_iff (s : State) (c : Fin 32) (h : Fin 4) :
    s.chooseHead c = some h ↔ s.eligible c h = true ∧ ∀ g, s.eligible c g = true → g ≠ h →
      s.headRank h < s.headRank g ∨ s.headRank h = s.headRank g ∧ h < g := by
  rw [State.chooseHead_eq_argmin, argmin_eq_some_iff_of_sortedLT (s.eligibleHeads_sorted c)]
  simp only [State.mem_eligibleHeads]

/-- Settles O27: the fold finds the first eligible head of least rank, and the heads come in ascending number. -/
theorem headChoice : Obligations.HeadChoice := by
  intro s c can
  have hcan : ∀ h, s.eligible c h = true ↔ can h := s.eligible_iff c
  refine ⟨fun h => ?_, ?_⟩
  · rw [State.chooseHead_eq_some_iff]
    simp only [hcan, State.headRank_lt_iff, State.headRank_eq_iff, or_assoc, and_assoc, and_or_left]
  · rw [State.chooseHead_eq_none_iff]
    simp only [hcan]

end Sys2Proof.Machine
end

section
/-! The fit of an image in a format (R50 to R53): what answers a fit, the clamp at width 2 that cannot occur (R51), and the
drawn image within its cell. -/

namespace Sys2Proof.Machine

/-! ### The answers of the fit -/

/-- The two ways to a fit (R50 to R52): at width 1 with the pitch clamped at 16,384, or, when that pitch is below 4096 in a
format with the double-cell capacity, at width 2. -/
theorem Format.fit_eq_fits_iff (f : Format) (w h : Nat) (x : Fit) :
    f.fit w h = .fits x ↔
      (4096 ≤ (f.trial 1 w h).pitch ∧
        f.settleFit 1 w h (min (f.trial 1 w h).pitch 16384) (decide (16384 < (f.trial 1 w h).pitch)) = x) ∨
      ((f.trial 1 w h).pitch < 4096 ∧ f.doubleCapacity = true ∧ 4096 ≤ (f.trial 2 w h).pitch ∧
        f.settleFit 2 w h (f.trial 2 w h).pitch false = x) := by
  simp only [Format.fit]
  split_ifs with hclamp hone hdouble htwo
  · have hmin : min (f.trial 1 w h).pitch 16384 = 16384 := by omega
    simp [hmin, hclamp, show 4096 ≤ (f.trial 1 w h).pitch by omega]
  · have hmin : min (f.trial 1 w h).pitch 16384 = (f.trial 1 w h).pitch := by omega
    simp [hmin, hclamp, hone]
  · simp [hone, hdouble, htwo, Nat.lt_of_not_le hone]
  · simp [hone, htwo]
  · simp [hone, hdouble]

/-! ### The drawable area of a valid format -/

theorem Format.drawableWidth_add_gutters {f : Format} (hf : f.valid = true) {c : Nat} (hc : 1 ≤ c) :
    f.drawableWidth c + 2 * f.gutter = c * f.px := by
  obtain ⟨-, -, -, ⟨hpx, -⟩, -⟩ := f.valid_iff.mp hf
  have hle : f.px ≤ c * f.px := Nat.le_mul_of_pos_left _ hc
  unfold Format.drawableWidth
  omega

theorem Format.drawableHeight_add_gutters {f : Format} (hf : f.valid = true) :
    f.drawableHeight + 2 * f.gutter = f.py := by
  obtain ⟨-, -, -, ⟨-, hpy⟩, -⟩ := f.valid_iff.mp hf
  unfold Format.drawableHeight
  omega

theorem Format.gutter_le_of_inRange {f : Format} (hf : f.inRange = true) : f.gutter ≤ 500 := by
  simp only [Format.inRange, Bool.and_eq_true, decide_eq_true_eq] at hf
  exact hf.2

/-- R51: two cells are drawable at most four times as wide as one, since Px - 2g ≥ 500 and g ≤ 500. -/
theorem Format.drawableWidth_two_le {f : Format} (hr : f.inRange = true) (hf : f.valid = true) :
    f.drawableWidth 2 ≤ 4 * f.drawableWidth 1 := by
  obtain ⟨-, -, -, ⟨hpx, -⟩, -⟩ := f.valid_iff.mp hf
  have hg := f.gutter_le_of_inRange hr
  unfold Format.drawableWidth
  omega

/-- R51: no clamp occurs at width 2, which is tried only after a pitch below 4096 at width 1. -/
theorem Format.pitch_two_lt {f : Format} (hr : f.inRange = true) (hf : f.valid = true) {w h : Nat} (hw : 0 < w)
    (hone : (f.trial 1 w h).pitch < 4096) (htwo : 4096 ≤ (f.trial 2 w h).pitch) : (f.trial 2 w h).pitch < 16384 := by
  simp only [Trial.pitch, Format.trial, min_lt_iff, le_min_iff] at hone htwo ⊢
  have hsx : f.drawableWidth 1 * 4096 / w < 4096 := hone.resolve_right htwo.2.not_gt
  have hwide := f.drawableWidth_two_le hr hf
  left
  rw [Nat.div_lt_iff_lt_mul hw] at hsx ⊢
  linarith

/-! ### The drawn image in its cell -/

/-- The scale of a fit in a valid format: at least 4096, at most 16,384, and no more than the pitch of the width drawn at. -/
theorem Format.fit_settled {f : Format} {w h : Nat} {x : Fit} (hr : f.inRange = true) (hf : f.valid = true) (hw : 0 < w)
    (hfit : f.fit w h = .fits x) :
    ∃ c scale clamped, f.settleFit c w h scale clamped = x ∧ 1 ≤ c ∧ 4096 ≤ scale ∧ scale ≤ 16384 ∧
      scale ≤ (f.trial c w h).pitch := by
  rcases (f.fit_eq_fits_iff w h x).mp hfit with ⟨hone, hx⟩ | ⟨hone, -, htwo, hx⟩
  · exact ⟨1, _, _, hx, le_rfl, le_min hone (by decide), min_le_right _ _, min_le_left _ _⟩
  · exact ⟨2, _, _, hx, by decide, htwo, (f.pitch_two_lt hr hf hw hone htwo).le, le_rfl⟩

theorem ceilDiv_le_iff {a b c : Nat} (hb : 0 < b) : ceilDiv a b ≤ c ↔ a ≤ c * b := by
  rw [ceilDiv, ← Nat.ceilDiv_eq_add_pred_div, ceilDiv_le_iff_le_mul hb, Nat.mul_comm]

/-- Along one axis an image no longer than the drawable length, centred there, keeps a gutter on both sides, and the odd
micrometre is on the far side. -/
theorem centred_bounds {gutter drawable extent drawn o : Nat} (hextent : drawable + 2 * gutter = extent)
    (hdrawn : drawn ≤ drawable) (ho : o = gutter + (drawable - drawn) / 2) :
    (gutter ≤ o ∧ o + drawn + gutter ≤ extent) ∧ o ≤ extent - (o + drawn) ∧ extent - (o + drawn) ≤ o + 1 := by
  omega

/-- Settles O21: the scale of a fit is no more than either pitch, so its drawn size is within the drawable area, in which
each axis is centred alike. -/
theorem fitBounds : Obligations.FitBounds := by
  intro f w h x hr hf hw _ hh _ hfit
  obtain ⟨c, scale, clamped, rfl, hc, hlow, hhigh, hpitch⟩ := f.fit_settled hr hf (by omega) hfit
  obtain ⟨hsx, hsy⟩ := le_min_iff.mp hpitch
  have hwidth : w * scale ≤ f.drawableWidth c * 4096 := Nat.mul_comm w _ ▸ Nat.mul_le_of_le_div _ _ _ hsx
  have hheight : h * scale ≤ f.drawableHeight * 4096 := Nat.mul_comm h _ ▸ Nat.mul_le_of_le_div _ _ _ hsy
  have hdw := (ceilDiv_le_iff (by decide)).mpr hwidth
  have hdh := (ceilDiv_le_iff (by decide)).mpr hheight
  obtain ⟨⟨hleft, hright⟩, hx, hx'⟩ := centred_bounds (f.drawableWidth_add_gutters hf hc) hdw rfl
  obtain ⟨⟨htop, hbottom⟩, hy, hy'⟩ := centred_bounds (f.drawableHeight_add_gutters hf) hdh rfl
  exact ⟨rfl, rfl, rfl, rfl, rfl, rfl, hsx, hsy, hwidth, hheight, hlow, hhigh, hdw, hdh, hleft, hright, htop, hbottom,
    hx, hx', hy, hy'⟩

end Sys2Proof.Machine
end

section
/-! The search of a cell map (R57, R58): what a suitable cell is, and the search as the least suitable one. -/

namespace Sys2Proof.Machine

/-! ### Suitable cells -/

theorem emptyAt_iff (cells : List Cell) (n : Nat) :
    emptyAt cells n = true ↔ ∃ c, cells[n]? = some c ∧ c.state = .empty := by
  unfold emptyAt
  cases cells[n]? <;> simp

/-- R58's condition on the column says that the next cell is of the same row. -/
theorem mod_lt_pred_iff_div_eq {n c : Nat} (hc : 0 < c) : n % c < c - 1 ↔ n / c = (n + 1) / c := by
  have hdiv : (n + 1) / c = n / c + (n % c + 1) / c := by
    rw [← Nat.mul_add_div hc, ← Nat.add_assoc, Nat.div_add_mod]
  rw [hdiv, left_eq_add, Nat.div_eq_zero_iff_lt hc]
  omega

theorem Format.suitable_one_iff (f : Format) (cells : List Cell) (n : Nat) :
    f.suitable cells 1 n = true ↔ n < f.documentCells ∧ ∃ c, cells[n]? = some c ∧ c.state = .empty := by
  simp [Format.suitable, emptyAt_iff, and_comm]

theorem Format.suitable_two_iff {f : Format} (hf : f.valid = true) (cells : List Cell) (n : Nat) :
    f.suitable cells 2 n = true ↔
      (∃ c, cells[n]? = some c ∧ c.state = .empty) ∧ (∃ c, cells[n + 1]? = some c ∧ c.state = .empty) ∧
        n / f.cols = (n + 1) / f.cols ∧ n + 1 < f.documentCells := by
  obtain ⟨-, -, -, -, hcells⟩ := f.valid_iff.mp hf
  have hcols : 0 < f.cols := Nat.pos_of_mul_pos_left (Nat.zero_lt_of_lt hcells)
  simp only [Format.suitable, if_true, Bool.and_eq_true, decide_eq_true_eq, emptyAt_iff, mod_lt_pred_iff_div_eq hcols,
    and_assoc]

theorem Format.documentCell_of_suitable {f : Format} {cells : List Cell} {w n : Nat} (h : f.suitable cells w n = true) :
    n < f.documentCells := by
  unfold Format.suitable at h
  split at h <;> simp only [Bool.and_eq_true, decide_eq_true_eq] at h <;> omega

/-! ### The search -/

theorem State.searchCell_eq_some_iff (s : State) (i : Fin 12) (w n : Nat) :
    s.searchCell i w = some n ↔ (s.slotFormat i).suitable s.slots[i].cells w n = true ∧
      ∀ m < n, ¬ (s.slotFormat i).suitable s.slots[i].cells w m = true := by
  rw [State.searchCell, List.find?_range_eq_some]
  simp only [List.mem_range, Bool.not_eq_true', Bool.not_eq_true]
  exact ⟨fun ⟨hn, _, hm⟩ => ⟨hn, hm⟩, fun ⟨hn, hm⟩ => ⟨hn, Format.documentCell_of_suitable hn, hm⟩⟩

theorem State.searchCell_eq_none_iff (s : State) (i : Fin 12) (w : Nat) :
    s.searchCell i w = none ↔ ∀ n, ¬ (s.slotFormat i).suitable s.slots[i].cells w n = true := by
  rw [State.searchCell, List.find?_eq_none]
  exact ⟨fun h n hn => h n (List.mem_range.mpr (Format.documentCell_of_suitable hn)) hn, fun h n _ => h n⟩

theorem Format.doubleCapacity_of_fit_cells {f : Format} {w h : Nat} {x : Fit} (hfit : f.fit w h = .fits x)
    (hx : x.cells = 2) : f.doubleCapacity = true := by
  rcases (f.fit_eq_fits_iff w h x).mp hfit with ⟨-, rfl⟩ | ⟨-, hdouble, -⟩
  · exact absurd hx (by simp [Format.settleFit])
  · exact hdouble

/-- Settles O25: the search finds the least suitable cell, a cell suitable for width 1 being an EMPTY document cell and one
for width 2 the first of an EMPTY pair of one row. -/
theorem doubleCellSearch : Obligations.DoubleCellSearch := by
  refine ⟨?_, ?_, fun f w h x => Format.doubleCapacity_of_fit_cells⟩
  · intro s i f empty pair hf
    have hpair : ∀ n, f.suitable s.slots[i].cells 2 n = true ↔ pair n := Format.suitable_two_iff hf _
    simp only [← hpair]
    exact ⟨s.searchCell_eq_some_iff i 2, s.searchCell_eq_none_iff i 2⟩
  · intro s i single
    have hsingle : ∀ n, (s.slotFormat i).suitable s.slots[i].cells 1 n = true ↔ single n := Format.suitable_one_iff _ _
    simp only [← hsingle]
    exact ⟨s.searchCell_eq_some_iff i 1, s.searchCell_eq_none_iff i 1⟩

end Sys2Proof.Machine
end

section
/-! The block need of an image (R129): its formula, and its range as what fits in a number of blocks. -/

namespace Sys2Proof.Machine

theorem ceilDiv_eq_add_div (a : Nat) {b : Nat} (hb : 0 < b) : ceilDiv a b = (a + (b - 1)) / b := by
  rw [ceilDiv, Nat.add_sub_assoc hb]

theorem lt_ceilDiv_iff {a b c : Nat} (hb : 0 < b) : c < ceilDiv a b ↔ c * b < a := by
  rw [← not_le, ceilDiv_le_iff hb, not_le]

/-- An image needs at most `n` blocks exactly when its H rows of ceil(W / 8) bytes fit in `n` blocks of 65,536 bytes. -/
theorem blockNeed_le_iff {w h n : Nat} : blockNeed w h ≤ n ↔ ceilDiv w 8 * h ≤ n * 65536 :=
  ceilDiv_le_iff (by decide)

/-- An image needs a block exactly when it has a pixel. -/
theorem blockNeed_pos_iff {w h : Nat} : 0 < blockNeed w h ↔ 0 < w ∧ 0 < h := by
  calc 0 < blockNeed w h
    _ ↔ 0 < ceilDiv w 8 * h := by rw [blockNeed, lt_ceilDiv_iff (by decide), Nat.zero_mul]
    _ ↔ 0 < w ∧ 0 < h := by rw [CanonicallyOrderedAdd.mul_pos, lt_ceilDiv_iff (by decide), Nat.zero_mul]

/-- The largest image of R129 is 8192 rows of 1024 bytes, 128 blocks. -/
theorem blockNeed_le_of_le {w h : Nat} (hw : w ≤ 8192) (hh : h ≤ 8192) : blockNeed w h ≤ 128 := by
  have hrow : ceilDiv w 8 ≤ 1024 := (ceilDiv_le_iff (by decide)).mpr hw
  rw [blockNeed_le_iff]
  calc ceilDiv w 8 * h ≤ 1024 * 8192 := Nat.mul_le_mul hrow hh
    _ = 128 * 65536 := by decide

theorem blockNeed_eq (w h : Nat) : blockNeed w h = ((w + 7) / 8 * h + 65535) / 65536 := by
  rw [blockNeed, ceilDiv_eq_add_div w (by decide), ceilDiv_eq_add_div _ (by decide)]
  rfl

/-- Settles O40: each rounding up adds one less than the divisor, an image with a pixel needs a block, the largest one
needs 128, and the manual's table is evaluated. -/
theorem blockNeedOfImage : Obligations.BlockNeed := by
  refine ⟨blockNeed_eq, fun w h hw hw' hh hh' => ?_, by decide, by decide⟩
  exact ⟨blockNeed_pos_iff.mpr ⟨by omega, by omega⟩, blockNeed_le_of_le hw' hh'⟩

end Sys2Proof.Machine
end

section
/-! The interrupt line (R190): every bit of the indication words belongs to an indication, so two words that share a set
bit share an indication's. -/

namespace Sys2Proof.Machine

/-- Section 11.6: in bit order the 21 indications have the bits 0 to 20. -/
theorem map_indicationBit_indications : indications.map indicationBit = List.range 21 := by decide

theorem exists_indicationBit_eq {n : Nat} (h : n < 21) : ∃ i, indicationBit i = n := by
  have hn : n ∈ indications.map indicationBit := map_indicationBit_indications ▸ List.mem_range.mpr h
  obtain ⟨i, -, hi⟩ := List.mem_map.mp hn
  exact ⟨i, hi⟩

theorem bitVec_ne_zero_iff_exists_getLsbD {w : Nat} {x : BitVec w} : x ≠ 0 ↔ ∃ n < w, x.getLsbD n = true := by
  simp [Ne, BitVec.eq_of_getLsbD_eq_iff]

/-- Two words of indication bits have a set bit in common exactly when it is the bit of an indication. -/
theorem and_ne_zero_iff_exists_indication (x y : BitVec 21) :
    x &&& y ≠ 0 ↔ ∃ i, x.getLsbD (indicationBit i) = true ∧ y.getLsbD (indicationBit i) = true := by
  simp only [bitVec_ne_zero_iff_exists_getLsbD, BitVec.getLsbD_and, Bool.and_eq_true]
  constructor
  · rintro ⟨n, hn, hbits⟩
    obtain ⟨i, rfl⟩ := exists_indicationBit_eq hn
    exact ⟨i, hbits⟩
  · rintro ⟨i, hbits⟩
    exact ⟨indicationBit i, BitVec.lt_of_getLsbD hbits.1, hbits⟩

/-- Settles O8: the line's two terms are R190's two cases, the word of enabled changes being zero exactly when no
indication's change bit and enable are both set. -/
theorem interruptLineLevel : Obligations.InterruptLineLevel := by
  intro s
  rw [interruptLine, Bool.or_eq_true, Bool.and_eq_true, decide_eq_true_eq, and_ne_zero_iff_exists_indication]

end Sys2Proof.Machine
end

section
/-! What an operation keeps: the seven invariants of the tables, of which each is kept for its own sake, and the primitive
changes that keep all of them. -/

namespace Sys2Proof.Machine

/-! ### What a change of one link, one head or one slot keeps -/

/-- `Link.restsDown`, with the reception left out while the end of a reception on a link just lost is still to come. -/
abbrev Link.restsBut (lost : Bool) (k : Link) : Prop :=
  (k.active = false → (lost = false → k.reception = none) ∧ k.holdTimer = none ∧ k.outbox = []) ∧
    (k.holdTimer = none → k.quantum = 0)

/-- A change of a link that keeps it at rest while DOWN, its counters in range, and its carrier. -/
structure LinkKeeps (k k' : Link) : Prop where
  rests : ∀ lost, k.restsBut lost → k'.restsBut lost
  counters : (∀ c : Fin 11, k.counters[c] ≤ Config.counterLimit) → ∀ c : Fin 11, k'.counters[c] ≤ Config.counterLimit
  carrier : k.active = true → k'.active = true

/-- A change of a head that keeps its flight in agreement, its queue descending, its ranges and its roll. -/
structure HeadKeeps (k k' : Head) : Prop where
  flight : k.flightAgrees → k'.flightAgrees
  queue : (k.queue.Pairwise fun a b => b.cls ≤ a.cls) → k'.queue.Pairwise fun a b => b.cls ≤ a.cls
  ranges : k.inRange → k'.inRange
  sheets : k'.sheets = k.sheets
  nextSheet : k'.nextSheet = k.nextSheet
  roll : k'.state = .noRoll → k.state = .noRoll

/-- A change of a slot that opens no fiche, and leaves a fiche where it is with its format and the size of its map. -/
structure SlotKeeps (t t' : Slot) : Prop where
  fiche : t'.state ≠ .free → t.state ≠ .free ∧ t'.fiche = t.fiche ∧ t'.format = t.format ∧ t'.sheet = t.sheet ∧
    t'.cells.length = t.cells.length
  opened : t'.state = .opened → t.state = .opened

theorem LinkKeeps.refl (k : Link) : LinkKeeps k k := ⟨fun _ => id, id, id⟩
theorem HeadKeeps.refl (k : Head) : HeadKeeps k k := ⟨id, id, id, rfl, rfl, id⟩
theorem SlotKeeps.refl (t : Slot) : SlotKeeps t t := ⟨fun h => ⟨h, rfl, rfl, rfl, rfl⟩, id⟩

/-! ### What an operation keeps -/

/-- Every link rests while it is DOWN, but for the receptions of the links just lost. -/
abbrev State.linksRestBut (s : State) (lost : Fin 8 → Bool) : Prop := ∀ l : Fin 8, (s.links[l]).restsBut (lost l)

/-- From `s` to `t` each of the invariants of the tables is kept, whether the others hold or not. -/
structure State.Kept (s t : State) : Prop where
  memory : s.memoryCanonical → t.memoryCanonical
  pool : s.poolOrdered → t.poolOrdered
  directory : s.directoryOrdered → t.directoryOrdered
  flights : s.flightsAgree → t.flightsAgree
  queues : s.queuesDescend → t.queuesDescend
  links : ∀ lost, s.linksRestBut lost → t.linksRestBut lost
  formats : s.slotsFit → t.slotsFit
  limits : s.slotsLimited → t.slotsLimited
  ranges : s.inRange → t.inRange

/-- From `s` to `t` each of the invariants of the tables is kept, and no carrier is lost. -/
structure State.Keeps (s t : State) : Prop extends s.Kept t where
  carriers : ∀ l : Fin 8, s.links[l].active = true → t.links[l].active = true

theorem State.Kept.trans {s t u : State} (h : s.Kept t) (k : t.Kept u) : s.Kept u where
  memory := k.memory ∘ h.memory
  pool := k.pool ∘ h.pool
  directory := k.directory ∘ h.directory
  flights := k.flights ∘ h.flights
  queues := k.queues ∘ h.queues
  links lost := k.links lost ∘ h.links lost
  formats := k.formats ∘ h.formats
  limits := k.limits ∘ h.limits
  ranges := k.ranges ∘ h.ranges

theorem State.Keeps.refl (s : State) : s.Keeps s := ⟨⟨id, id, id, id, id, fun _ => id, id, id, id⟩, fun _ => id⟩

theorem State.Keeps.trans {s t u : State} (h : s.Keeps t) (k : t.Keeps u) : s.Keeps u :=
  ⟨h.toKept.trans k.toKept, fun l => k.carriers l ∘ h.carriers l⟩

/-- A change of parts that opens no fiche and leaves formats and series: what it does link by link, head by head and slot
by slot says what it keeps. -/
theorem State.Keeps.of_parts {s t : State} (mem : s.memoryCanonical → t.memoryCanonical)
    (used : s.poolOrdered → t.poolOrdered) (records : s.directoryOrdered → t.directoryOrdered)
    (links : ∀ l : Fin 8, LinkKeeps s.links[l] t.links[l]) (heads : ∀ h : Fin 4, HeadKeeps s.heads[h] t.heads[h])
    (slots : ∀ i : Fin 12, SlotKeeps s.slots[i] t.slots[i]) (formats : t.formats = s.formats)
    (series : t.series = s.series)
    (notices : s.port.notices.length ≤ Config.noticeCapacity → t.port.notices.length ≤ Config.noticeCapacity) :
    s.Keeps t where
  carriers l := (links l).carrier
  memory := mem
  pool := used
  directory := records
  flights hs h := (heads h).flight (hs h)
  queues hs h := (heads h).queue (hs h)
  links lost hs l := (links l).rests _ (hs l)
  formats := by
    rintro ⟨hvalid, hnamed, hslots⟩
    refine ⟨by rwa [formats], by simpa only [formats, series] using hnamed, fun i hi => ?_⟩
    obtain ⟨hfree, hfiche, hformat, -, hcells⟩ := (slots i).fiche hi
    simp only [State.slotFormat, State.formatAt, formats, series, hfiche, hformat, hcells]
    exact hslots i hfree
  limits := by
    rintro ⟨hopen, hsheet, hroll, hnext⟩
    refine ⟨fun i j hi hj he => ?_, fun i j hi hj hh he => ?_, fun i hi => ?_, fun h => ?_⟩
    · have hi' := (slots i).opened hi
      have hj' := (slots j).opened hj
      obtain ⟨-, hfi, -⟩ := (slots i).fiche (by rw [hi]; decide)
      obtain ⟨-, hfj, -⟩ := (slots j).fiche (by rw [hj]; decide)
      exact hopen i j hi' hj' (by rw [← hfi, ← hfj, he])
    · obtain ⟨hi', -, -, hsi, -⟩ := (slots i).fiche hi
      obtain ⟨hj', -, -, hsj, -⟩ := (slots j).fiche hj
      exact hsheet i j hi' hj' hh (by rw [← hsi, ← hsj, he])
    · obtain ⟨hi', -, -, hsi, -⟩ := (slots i).fiche hi
      obtain ⟨hlt, hstate⟩ := hroll i hi'
      rw [hsi, (heads _).nextSheet]
      exact ⟨hlt, fun hn => hstate ((heads _).roll hn)⟩
    · rw [(heads h).nextSheet, (heads h).sheets]
      exact hnext h
  ranges := by
    rintro ⟨hheads, hlinks, hnotices⟩
    exact ⟨fun h => (heads h).ranges (hheads h), fun l => (links l).counters (hlinks l), notices hnotices⟩

/-! ### The primitive changes -/

/-- A change that leaves every part that an invariant of the tables speaks of. -/
theorem State.Keeps.of_same {s t : State} (h : t.mem = s.mem ∧ t.used = s.used ∧ t.records = s.records ∧ t.links = s.links ∧
    t.heads = s.heads ∧ t.slots = s.slots ∧ t.formats = s.formats ∧ t.series = s.series ∧
    t.port.notices = s.port.notices) : s.Keeps t := by
  obtain ⟨mem, used, records, links, heads, slots, formats, series, notices⟩ := h
  exact .of_parts (by simp only [State.memoryCanonical, mem]; exact id) (by simp only [State.poolOrdered, used]; exact id)
    (by simp only [State.directoryOrdered, records]; exact id)
    (fun l => by rw [links]; exact .refl _) (fun h => by rw [heads]; exact .refl _)
    (fun i => by rw [slots]; exact .refl _) formats series (by rw [notices]; exact id)

theorem State.modLink_keeps (s : State) {l : Fin 8} {f : Link → Link} (h : LinkKeeps s.links[l] (f s.links[l])) :
    s.Keeps (s.modLink l f) :=
  .of_parts id id id
    (fun j => by
      rw [State.modLink_at]
      split
      · next hj => rw [hj]; exact h
      · exact .refl _)
    (fun _ => .refl _) (fun _ => .refl _) rfl rfl id

theorem State.modHead_keeps (s : State) {h : Fin 4} {f : Head → Head} (hk : HeadKeeps s.heads[h] (f s.heads[h])) :
    s.Keeps (s.modHead h f) :=
  .of_parts id id id (fun _ => .refl _)
    (fun j => by
      rw [State.modHead_at]
      split
      · next hj => rw [hj]; exact hk
      · exact .refl _)
    (fun _ => .refl _) rfl rfl id

theorem State.modSlot_keeps (s : State) {i : Fin 12} {f : Slot → Slot} (ht : SlotKeeps s.slots[i] (f s.slots[i])) :
    s.Keeps (s.modSlot i f) :=
  .of_parts id id id (fun _ => .refl _) (fun _ => .refl _)
    (fun j => by
      rw [State.modSlot_at]
      split
      · next hj => rw [hj]; exact ht
      · exact .refl _)
    rfl rfl id

theorem State.modPort_keeps (s : State) {f : Port → Port}
    (h : s.port.notices.length ≤ Config.noticeCapacity → (f s.port).notices.length ≤ Config.noticeCapacity) :
    s.Keeps (s.modPort f) :=
  .of_parts id id id (fun _ => .refl _) (fun _ => .refl _) (fun _ => .refl _) rfl rfl h

theorem State.setRecords_keeps (s : State) {rs : List Record}
    (h : s.directoryOrdered → ({ s with records := rs } : State).directoryOrdered) :
    s.Keeps { s with records := rs } :=
  .of_parts id id h (fun _ => .refl _) (fun _ => .refl _) (fun _ => .refl _) rfl rfl id

theorem State.setUsed_keeps (s : State) {u : List Nat}
    (h : s.poolOrdered → ({ s with used := u } : State).poolOrdered) : s.Keeps { s with used := u } :=
  .of_parts id h id (fun _ => .refl _) (fun _ => .refl _) (fun _ => .refl _) rfl rfl id

theorem State.raise_keeps (s : State) (i : Indication) : s.Keeps (s.raise i) := .of_same (by simp)

theorem State.retry_keeps (s : State) (e : RetryEvent) : s.Keeps (s.retry e) := .of_same (by simp)

theorem State.modWaiting_keeps (s : State) (c : Fin 32) (f : List Key → List Key) : s.Keeps (s.modWaiting c f) := .of_same (by simp)

/-- A fold keeps what each of its steps keeps. -/
theorem State.Keeps.foldl {α : Type} {f : State → α → State} (hf : ∀ (t : State) a, t.Keeps (f t a)) (as : List α) (s : State) :
    s.Keeps (as.foldl f s) :=
  frame_foldl s.Keeps f (fun t a ht => ht.trans (hf t a)) as s (.refl s)

/-! ### The directory and the pool -/

theorem State.filterRecords_keeps (s : State) (p : Record → Bool) :
    s.Keeps { s with records := s.records.filter p } :=
  s.setRecords_keeps fun ⟨hsorted, hlength⟩ =>
    ⟨hsorted.sublist List.filter_sublist, (List.length_filter_le _ _).trans hlength⟩

theorem State.removeRecord_keeps (s : State) (k : Key) : s.Keeps (s.removeRecord k) := s.filterRecords_keeps _

/-- A change of records that leaves their keys keeps the directory's order. -/
theorem State.updateRecord_keeps (s : State) (k : Key) {f : Record → Record} (hf : ∀ r, (f r).key = r.key) :
    s.Keeps (s.updateRecord k f) := by
  refine s.setRecords_keeps fun ⟨hsorted, hlength⟩ => ⟨?_, by simpa using hlength⟩
  have hkey : ∀ r : Record, (if r.key = k then f r else r).key = r.key := fun r => by split <;> simp [hf]
  simpa only [List.pairwise_map, hkey] using hsorted

theorem State.addRecord_keeps (s : State) {r : Record} (hnew : ∀ x ∈ s.records, x.key ≠ r.key)
    (hroom : s.records.length < Config.directoryCapacity) : s.Keeps (s.addRecord r) :=
  s.setRecords_keeps fun ⟨hsorted, _⟩ => ⟨insertRecord_ordered hsorted hnew, by simpa using hroom⟩

/-! ### Links and the hold -/

theorem countUp_le (n : Nat) : countUp n ≤ Config.counterLimit := min_le_right _ _

theorem LinkKeeps.counted (k : Link) (c : LinkCounter) : LinkKeeps k (k.counted c) where
  carrier h := h
  rests _ h := h
  counters h j := by
    simp only [Link.counted, Fin.getElem_fin, Vector.getElem_set]
    split
    · exact countUp_le _
    · exact h j

theorem State.countLink_keeps (s : State) (l : Fin 8) (c : LinkCounter) : s.Keeps (s.countLink l c) :=
  s.modLink_keeps (.counted _ c)

theorem State.sendFrame_keeps (s : State) (l : Fin 8) (f : OutFrame) : s.Keeps (s.sendFrame l f) :=
  s.modLink_keeps <| by
    split
    · next ha => exact ⟨fun _ h => ⟨fun hd => absurd (ha.symm.trans hd) nofun, h.2⟩, id, id⟩
    · exact .refl _

/-- The link after `State.sendHold`. -/
theorem State.sendHold_eq (s : State) (l : Fin 8) :
    s.sendHold l = s.modLink l fun k =>
      { k with
        outbox := if k.active then k.outbox ++ [.hold s.holdQuantum] else k.outbox
        holdTimer := some s.holdQuantum
        quantum := s.holdQuantum } := by
  simp only [State.sendHold, State.sendFrame, State.modLink, Fin.getElem_fin, Vector.getElem_set_self, Vector.set_set]
  congr 2
  split <;> rfl

theorem State.sendHold_keeps (s : State) {l : Fin 8} (h : s.links[l].active = true ∨ s.links[l].holdTimer.isSome = true) :
    s.Keeps (s.sendHold l) := by
  rw [State.sendHold_eq]
  refine s.modLink_keeps ⟨fun _ hk => ⟨fun hd => ?_, by simp⟩, id, id⟩
  obtain ⟨-, htimer, -⟩ := hk.1 hd
  rcases h with ha | ht
  · exact absurd (ha.symm.trans hd) nofun
  · exact absurd (htimer ▸ ht) nofun

theorem State.stopHoldTimer_keeps (s : State) (l : Fin 8) : s.Keeps (s.stopHoldTimer l) :=
  s.modLink_keeps ⟨fun _ hk => ⟨fun hd => ⟨(hk.1 hd).1, rfl, (hk.1 hd).2.2⟩, fun _ => rfl⟩, id, id⟩

theorem State.idleContext_keeps (s : State) (l : Fin 8) : s.Keeps (s.idleContext l) :=
  s.modLink_keeps ⟨fun _ hk => ⟨fun hd => ⟨fun _ => rfl, (hk.1 hd).2⟩, hk.2⟩, id, id⟩

theorem State.assertHold_keeps (s : State) : s.Keeps s.assertHold := by
  refine (State.Keeps.trans (t := { s with holdAsserted := true }) (.of_same (by simp)) (State.raise_keeps _ .hold)).trans
    (.foldl (fun t l => ?_) _ _)
  split
  · next ha => exact t.sendHold_keeps (.inl ha)
  · exact .refl t

theorem State.clearHold_keeps (s : State) : s.Keeps s.clearHold := by
  refine (State.Keeps.trans (t := { s with holdAsserted := false }) (.of_same (by simp)) (State.raise_keeps _ .hold)).trans
    (.foldl (fun t l => ?_) _ _)
  split
  · exact (t.sendFrame_keeps l _).trans (State.stopHoldTimer_keeps _ l)
  · exact .refl t

theorem State.judgeHold_keeps (s : State) : s.Keeps s.judgeHold := by
  unfold State.judgeHold
  split
  · exact s.assertHold_keeps
  · split
    · exact s.clearHold_keeps
    · exact .refl s

theorem State.release_keeps (s : State) (blocks : List Nat) : s.Keeps (s.release blocks) :=
  (s.setUsed_keeps fun ⟨hsorted, hlt⟩ =>
    ⟨hsorted.sublist List.filter_sublist, fun b hb => hlt b (List.mem_filter.mp hb).1⟩).trans (State.judgeHold_keeps _)

theorem mem_lowestFree {used : List Nat} {need b : Nat} (h : b ∈ lowestFree used need) :
    b < Config.blockCount ∧ b ∉ used := by
  obtain ⟨-, hlt, hfree⟩ := mem_freeFrom h
  exact ⟨by omega, hfree⟩

theorem State.allocate_keeps {s t : State} {need : Nat} {blocks : List Nat} (h : s.allocate need = some (blocks, t)) :
    s.Keeps t := by
  obtain ⟨-, -, rfl⟩ := State.allocate_some h
  exact (s.setUsed_keeps (insertBlocks_ordered fun _ hx => (mem_lowestFree hx).1)).trans (State.judgeHold_keeps _)

/-! ### Heads and slots -/

theorem State.modHead_modHead (s : State) (h : Fin 4) (f g : Head → Head) :
    (s.modHead h f).modHead h g = s.modHead h fun k => g (f k) := by
  simp [State.modHead]

theorem State.modHead_self (s : State) (h : Fin 4) : (s.modHead h fun k => k) = s := by
  simp [State.modHead]

theorem State.modSlot_modSlot (s : State) (i : Fin 12) (f g : Slot → Slot) :
    (s.modSlot i f).modSlot i g = s.modSlot i fun t => g (f t) := by
  simp [State.modSlot]

theorem HeadKeeps.counted (k : Head) (c : HeadCounter) : HeadKeeps k (k.counted c) where
  flight h := h
  queue h := h
  ranges := fun ⟨ht, hd, hs, hc⟩ => ⟨ht, hd, hs, fun j => by
    simp only [Head.counted, Fin.getElem_fin, Vector.getElem_set]
    split
    · exact countUp_le _
    · exact hc j⟩
  sheets := rfl
  nextSheet := rfl
  roll h := h

theorem State.countHead_keeps (s : State) (h : Fin 4) (c : HeadCounter) : s.Keeps (s.countHead h c) :=
  s.modHead_keeps (.counted _ c)

/-- A change of the queue alone that leaves it descending. -/
theorem HeadKeeps.of_queue (k : Head) {q : List Entry}
    (h : (k.queue.Pairwise fun a b => b.cls ≤ a.cls) → q.Pairwise fun a b => b.cls ≤ a.cls) :
    HeadKeeps k { k with queue := q } :=
  ⟨id, h, id, rfl, rfl, id⟩

theorem State.enqueue_keeps (s : State) (h : Fin 4) (e : Entry) : s.Keeps (s.enqueue h e) :=
  s.modHead_keeps (.of_queue _ fun hq => joinQueue_descending hq e)

theorem State.foldl_enqueue (s : State) (h : Fin 4) (es : List Entry) :
    es.foldl (fun t e => t.enqueue h e) s = s.modHead h fun k => { k with queue := es.foldl joinQueue k.queue } := by
  induction es generalizing s with
  | nil => exact (s.modHead_self h).symm
  | cons e rest ih => rw [List.foldl_cons, ih, State.enqueue, State.modHead_modHead]; rfl

/-- The indexing test in one act (R73): the slot becomes INDEXING with its index built, the entries join the queue. -/
theorem State.indexingTest_eq (s : State) (i : Fin 12) :
    s.indexingTest i =
      if s.slots[i].state = .closing ∧ s.slots[i].cells.all (fun c => decide (c.state ≠ .held)) then
        (s.modSlot i fun t => { t with index := some (buildIndex t.cells), state := .indexing }).modHead (headOf i)
          fun k => { k with queue := (indexQueueEntries (s.slotFormat i) i).foldl joinQueue k.queue }
      else s := by
  unfold State.indexingTest
  rw [State.foldl_enqueue]
  simp [State.modSlot, State.modHead]

theorem foldl_joinQueue_descending {q : List Entry} (hq : q.Pairwise fun a b => b.cls ≤ a.cls) (es : List Entry) :
    (es.foldl joinQueue q).Pairwise fun a b => b.cls ≤ a.cls :=
  frame_foldl (fun q : List Entry => q.Pairwise fun a b => b.cls ≤ a.cls) joinQueue
    (fun _ e h => joinQueue_descending h e) es q hq

theorem State.indexingTest_keeps (s : State) (i : Fin 12) : s.Keeps (s.indexingTest i) := by
  rw [State.indexingTest_eq]
  split
  · next h =>
    exact (s.modSlot_keeps ⟨fun _ => ⟨by rw [h.1]; decide, rfl, rfl, rfl, rfl⟩, by simp⟩).trans
      (State.modHead_keeps _ (.of_queue _ fun hq => foldl_joinQueue_descending hq _))
  · exact .refl s

theorem State.closeFiche_keeps (s : State) (i : Fin 12) : s.Keeps (s.closeFiche i) := by
  unfold State.closeFiche
  split
  · next h =>
    exact (s.modSlot_keeps ⟨fun _ => ⟨by rw [h]; decide, rfl, rfl, rfl, rfl⟩, by simp⟩).trans
      (State.indexingTest_keeps _ i)
  · exact .refl s

theorem State.judgeCutOff_keeps (s : State) (c : Fin 32) : s.Keeps (s.judgeCutOff c) := by
  unfold State.judgeCutOff
  split
  · split
    · exact s.closeFiche_keeps _
    · exact .refl s
  · exact .refl s

theorem State.modCell_keeps (s : State) (i : Fin 12) (n : Nat) (f : Cell → Cell) : s.Keeps (s.modCell i n f) :=
  s.modSlot_keeps ⟨fun h => ⟨h, rfl, rfl, rfl, List.length_modify ..⟩, id⟩

theorem State.modCells_keeps (s : State) (i : Fin 12) (n w : Nat) (f g : Cell → Cell) :
    s.Keeps (s.modCells i n w f g) := by
  unfold State.modCells
  split
  · exact (s.modCell_keeps i n f).trans (State.modCell_keeps _ i _ g)
  · exact s.modCell_keeps i n f

theorem State.fullTest_keeps (s : State) (i : Fin 12) : s.Keeps (s.fullTest i) := by
  unfold State.fullTest
  split
  · exact s.closeFiche_keeps i
  · exact .refl s

end Sys2Proof.Machine
end

section
/-! What placement, the directory and the intake keep: openings, grants, serving, receptions and claims. -/

namespace Sys2Proof.Machine

/-! ### Opening a fiche -/

theorem Format.length_newCells (f : Format) : f.newCells.length = f.cellCount := by
  have hle : f.indexCells ≤ f.cellCount := (ceilDiv_le_iff (by decide)).mpr (Nat.le_mul_of_pos_right _ (by decide))
  simp only [Format.newCells, Format.documentCells, List.length_append, List.length_replicate]
  omega

theorem headOf_of_mem_slotsOf : ∀ (h : Fin 4) (i : Fin 12), i ∈ slotsOf h → headOf i = h := by decide

theorem State.freeSlot_some {s : State} {h : Fin 4} {i : Fin 12} (hi : s.freeSlot h = some i) :
    headOf i = h ∧ s.slots[i].state = .free :=
  ⟨headOf_of_mem_slotsOf h i (List.mem_of_find?_eq_some hi), by simpa using List.find?_some hi⟩

theorem State.openSlot_some {s : State} {c : Fin 32} {i : Fin 12} (hi : s.openSlot c = some i) :
    s.slots[i].state = .opened ∧ s.slots[i].fiche.series = c := by
  simpa using List.find?_some hi

theorem State.openSlot_eq_none_iff (s : State) (c : Fin 32) :
    s.openSlot c = none ↔ ∀ i : Fin 12, s.slots[i].state = .opened → s.slots[i].fiche.series ≠ c := by
  simp [State.openSlot, allSlots]

/-- What the choice of a head says of the head chosen (R45). -/
theorem State.chooseHead_some {s : State} {c : Fin 32} {h : Fin 4} (hc : s.chooseHead c = some h) :
    s.heads[h].state ≠ .noRoll ∧ s.heads[h].nextSheet < s.heads[h].sheets := by
  obtain ⟨he, -⟩ := (s.chooseHead_eq_some_iff c h).mp hc
  simp only [State.eligible, Bool.and_eq_true, decide_eq_true_eq] at he
  obtain ⟨⟨⟨-, hroll⟩, -⟩, hnext⟩ := he
  exact ⟨fun hn => absurd (hn ▸ hroll) nofun, hnext⟩

/-- The slot of a fiche that is opened (R46). -/
def State.openedSlot (s : State) (c : Fin 32) (h : Fin 4) : Slot where
  state := .opened
  fiche := ⟨c, s.series[c].date, s.series[c].next⟩
  format := s.series[c].format
  sheet := s.heads[h].nextSheet
  title := false
  redraw := false
  cells := (s.formatAt s.series[c].format).newCells
  index := none

/-- A series after an opening took its sequence number (R46). -/
def Series.advanced (v : Series) : Series :=
  if v.next = 9999 then { v with exhausted := true } else { v with next := v.next + 1 }

theorem Series.advanced_state (v : Series) : v.advanced.state = v.state := by unfold Series.advanced; split <;> rfl
theorem Series.advanced_format (v : Series) : v.advanced.format = v.format := by unfold Series.advanced; split <;> rfl

/-- A head after an opening on it: the sheet is taken and the TITLE entry queued (R46). -/
def Head.titled (k : Head) (i : Fin 12) : Head :=
  { k with nextSheet := k.nextSheet + 1, queue := joinQueue k.queue (.title i) }

theorem State.openFiche_eq (s : State) (c : Fin 32) (h : Fin 4) (i : Fin 12) :
    s.openFiche c h i = ((s.modSlot i fun _ => s.openedSlot c h).modHead h (·.titled i)).modSeries c Series.advanced := by
  simp [State.openFiche, State.enqueue, State.modHead, State.modSlot, State.modSeries, State.openedSlot, Head.titled,
    State.formatAt]
  rfl

/-- `t` is `u` with a fiche opened in slot `i` for series `c` (R46). -/
structure State.Opens (u t : State) (c : Fin 32) (i : Fin 12) : Prop where
  opened : t.slots[i] = u.openedSlot c (headOf i)
  slots : ∀ j : Fin 12, j ≠ i → t.slots[j] = u.slots[j]
  titled : t.heads[headOf i] = u.heads[headOf i].titled i
  heads : ∀ h : Fin 4, h ≠ headOf i → t.heads[h] = u.heads[h]
  seriesState : ∀ d : Fin 32, t.series[d].state = u.series[d].state
  seriesFormat : ∀ d : Fin 32, t.series[d].format = u.series[d].format
  frame : t = { u with slots := t.slots, heads := t.heads, series := t.series }

theorem State.openFiche_opens (u : State) (c : Fin 32) (i : Fin 12) : u.Opens (u.openFiche c (headOf i) i) c i := by
  rw [State.openFiche_eq]
  refine ⟨?_, fun j hj => ?_, ?_, fun h hh => ?_, fun d => ?_, fun d => ?_, rfl⟩
  · simp
  · simp [Fin.val_ne_of_ne (Ne.symm hj)]
  · simp
  · simp [Fin.val_ne_of_ne (Ne.symm hh)]
  · rw [State.modSeries_at]
    split
    · next hd => rw [hd]; exact Series.advanced_state _
    · rfl
  · rw [State.modSeries_at]
    split
    · next hd => rw [hd]; exact Series.advanced_format _
    · rfl

theorem State.Opens.formatAt {u t : State} {c : Fin 32} {i : Fin 12} (h : u.Opens t c i) : t.formatAt = u.formatAt := by
  rw [h.frame]; rfl

theorem State.Opens.slotsFit {u t : State} {c : Fin 32} {i : Fin 12} (h : u.Opens t c i)
    (hseries : u.series[c].state ≠ .undefined) (hu : u.slotsFit) : t.slotsFit := by
  obtain ⟨hvalid, hnamed, hslots⟩ := hu
  have hformats : t.formats = u.formats := by rw [h.frame]
  refine ⟨by rwa [hformats], fun d hd => ?_, fun j hj => ?_⟩
  · simp only [hformats, h.seriesFormat]
    exact hnamed d (by rwa [← h.seriesState])
  · simp only [State.slotFormat, h.formatAt, h.seriesState, h.seriesFormat]
    by_cases hji : j = i
    · subst hji
      simp only [h.opened]
      exact ⟨hseries, rfl, Format.length_newCells _⟩
    · simp only [h.slots j hji] at hj ⊢
      exact hslots j hj

theorem State.Opens.slotsLimited {u t : State} {c : Fin 32} {i : Fin 12} (h : u.Opens t c i)
    (hroll : u.heads[headOf i].state ≠ .noRoll) (hnext : u.heads[headOf i].nextSheet < u.heads[headOf i].sheets)
    (hnone : u.openSlot c = none) (hu : u.slotsLimited) : t.slotsLimited := by
  obtain ⟨hopen, hsheet, hslots, hsheets⟩ := hu
  have hseries : t.slots[i].fiche.series = c := by rw [h.opened]; rfl
  have hsheeti : t.slots[i].sheet = u.heads[headOf i].nextSheet := by rw [h.opened]; rfl
  rw [State.openSlot_eq_none_iff] at hnone
  have hother (j : Fin 12) (hji : j ≠ i) (hj : t.slots[j].state = .opened) : t.slots[j].fiche.series ≠ c := by
    rw [h.slots j hji] at hj ⊢
    exact hnone j hj
  have hbelow (j : Fin 12) (hji : j ≠ i) (hj : t.slots[j].state ≠ .free) (hh : headOf j = headOf i) :
      t.slots[j].sheet ≠ t.slots[i].sheet := by
    rw [hsheeti]
    rw [h.slots j hji] at hj ⊢
    have hlt := (hslots j hj).1
    simp only [hh] at hlt
    exact hlt.ne
  refine ⟨fun a b ha hb he => ?_, fun a b ha hb hh he => ?_, fun a ha => ?_, fun g => ?_⟩
  · by_cases hai : a = i <;> by_cases hbi : b = i
    · rw [hai, hbi]
    · exact absurd (by rw [← he, hai, hseries]) (hother b hbi hb)
    · exact absurd (by rw [he, hbi, hseries]) (hother a hai ha)
    · rw [h.slots a hai] at ha he
      rw [h.slots b hbi] at hb he
      exact hopen a b ha hb he
  · by_cases hai : a = i <;> by_cases hbi : b = i
    · rw [hai, hbi]
    · exact absurd (by rw [← he, hai]) (hbelow b hbi hb (by rw [← hh, hai]))
    · exact absurd (by rw [he, hbi]) (hbelow a hai ha (by rw [hh, hbi]))
    · rw [h.slots a hai] at ha he
      rw [h.slots b hbi] at hb he
      exact hsheet a b ha hb hh he
  · have ha' : t.slots[a].sheet < u.heads[headOf a].nextSheet + (if headOf a = headOf i then 1 else 0) ∧
        u.heads[headOf a].state ≠ .noRoll := by
      by_cases hai : a = i
      · subst hai
        rw [hsheeti, if_pos rfl]
        exact ⟨Nat.lt_succ_self _, hroll⟩
      · rw [h.slots a hai] at ha ⊢
        exact ⟨Nat.lt_add_right _ (hslots a ha).1, (hslots a ha).2⟩
    by_cases hg : headOf a = headOf i
    · simp only [hg, h.titled, if_true] at ha' ⊢
      exact ha'
    · rw [h.heads _ hg]
      simpa [hg] using ha'
  · by_cases hg : g = headOf i
    · rw [hg, h.titled]
      exact hnext
    · rw [h.heads g hg]
      exact hsheets g

/-- What a property of all heads says after an opening, when it stands the taken sheet and the TITLE entry. -/
theorem State.Opens.forall_heads {u t : State} {c : Fin 32} {i : Fin 12} (h : u.Opens t c i) {p : Head → Prop}
    (hp : ∀ k : Head, p k → p (k.titled i)) (hu : ∀ g : Fin 4, p u.heads[g]) (g : Fin 4) : p t.heads[g] := by
  by_cases hg : g = headOf i
  · rw [hg, h.titled]; exact hp _ (hu _)
  · rw [h.heads g hg]; exact hu g

/-- A fiche is opened on a head that has a sheet for it, in a slot of that head that is FREE, for a defined series that
has no OPEN fiche. -/
theorem State.openFiche_keeps {s u : State} (hsu : s.Keeps u) {c : Fin 32} {i : Fin 12}
    (hseries : u.series[c].state ≠ .undefined) (hroll : u.heads[headOf i].state ≠ .noRoll)
    (hnext : u.heads[headOf i].nextSheet < u.heads[headOf i].sheets)
    (hone : s.slotsLimited → u.openSlot c = none) : s.Keeps (u.openFiche c (headOf i) i) := by
  have ho := u.openFiche_opens c i
  refine ⟨⟨hsu.memory, hsu.pool, hsu.directory, fun hs => ?_, fun hs => ?_, hsu.links, fun hs => ?_, fun hs => ?_,
    fun hs => ?_⟩, hsu.carriers⟩
  · exact ho.forall_heads (p := Head.flightAgrees) (fun _ => id) (hsu.flights hs)
  · exact ho.forall_heads (fun _ hk => joinQueue_descending hk _) (hsu.queues hs)
  · exact ho.slotsFit hseries (hsu.formats hs)
  · exact ho.slotsLimited hroll hnext (hone hs) (hsu.limits hs)
  · obtain ⟨hheads, hlinks, hnotices⟩ := hsu.ranges hs
    exact ⟨ho.forall_heads (p := Head.inRange) (fun _ => id) hheads, hlinks, hnotices⟩

/-! ### Placement -/

theorem State.grantCell_keeps (s : State) (q : CellRequest) (i : Fin 12) (n : Nat) (opened : Bool) :
    s.Keeps (s.grantCell q i n opened).state :=
  ((s.modCells_keeps i n _ _ _).trans (State.enqueue_keeps _ _ _)).trans (State.fullTest_keeps _ i)

theorem State.openAndGrant_keeps {s u : State} (hsu : s.Keeps u) (q : CellRequest)
    (hone : s.slotsLimited → u.openSlot q.series = none) : s.Keeps (u.openAndGrant q).state := by
  unfold State.openAndGrant
  split
  · next hq =>
    split
    · next h hc =>
      obtain ⟨hroll, hnext⟩ := State.chooseHead_some hc
      split
      · next i hi =>
        obtain ⟨rfl, -⟩ := State.freeSlot_some hi
        have hopen := State.openFiche_keeps hsu hq.1 hroll hnext hone
        split
        · exact hopen.trans (State.grantCell_keeps _ q i _ true)
        · exact hopen
      · exact hsu
    · exact hsu
  · exact hsu

/-- A slot that is OPEN after a close of slot `i` was OPEN before, with its fiche, and is another. -/
theorem State.closeFiche_opened {s : State} {i j : Fin 12} (h : (s.closeFiche i).slots[j].state = .opened) :
    j ≠ i ∧ s.slots[j].state = .opened ∧ (s.closeFiche i).slots[j].fiche = s.slots[j].fiche := by
  unfold State.closeFiche at h ⊢
  split at h
  · next ho =>
    rw [if_pos ho]
    rw [State.indexingTest_eq] at h ⊢
    split at h
    · next hc =>
      rw [if_pos hc]
      simp only [State.modHead_slots, State.modSlot_modSlot, State.modSlot_at] at h ⊢
      split at h
      · cases h
      · next hj => rw [if_neg hj]; exact ⟨hj, h, rfl⟩
    · next hc =>
      rw [if_neg hc]
      simp only [State.modSlot_at] at h ⊢
      split at h
      · cases h
      · next hj => rw [if_neg hj]; exact ⟨hj, h, rfl⟩
  · next ho =>
    rw [if_neg ho]
    exact ⟨fun hj => ho (hj ▸ h), h, rfl⟩

/-- A series has no OPEN fiche once its one OPEN fiche was closed (R41). -/
theorem State.closeFiche_openSlot {s : State} {c : Fin 32} {i : Fin 12} (hs : s.slotsLimited) (hi : s.openSlot c = some i) :
    (s.closeFiche i).openSlot c = none := by
  obtain ⟨hopen, hseries⟩ := State.openSlot_some hi
  refine (State.openSlot_eq_none_iff _ c).mpr fun j hj hc => ?_
  obtain ⟨hne, hj', hfiche⟩ := State.closeFiche_opened hj
  exact hne (hs.1 j i hj' hopen (by rw [hseries, ← hc, hfiche]))

theorem State.normalPlacement_keeps (s : State) (q : CellRequest) : s.Keeps (s.normalPlacement q).state := by
  unfold State.normalPlacement
  split
  · next hn => exact State.openAndGrant_keeps (.refl s) q fun _ => hn
  · next i hi =>
    split
    · exact s.grantCell_keeps q i _ false
    · exact State.openAndGrant_keeps (s.closeFiche_keeps i) q fun hs => State.closeFiche_openSlot hs hi

theorem State.rePlacement_keeps (s : State) (i : Fin 12) (q : CellRequest) : s.Keeps (s.rePlacement i q).state := by
  unfold State.rePlacement
  split
  · split
    · exact s.grantCell_keeps q i _ false
    · exact s.normalPlacement_keeps q
  · exact s.normalPlacement_keeps q

/-! ### Cells for records -/

theorem State.settle_keeps {s : State} (r : Record) {p : Placement} (h : s.Keeps p.state) : s.Keeps (State.settle r p).1 := by
  unfold State.settle
  split
  · next v _ =>
    have hu := h.trans (p.state.updateRecord_keeps r.key (f := (·.granted v)) fun _ => rfl)
    split
    · exact hu.trans (State.judgeCutOff_keeps _ _)
    · exact hu
  · exact h

theorem State.offer_keeps (s : State) (r : Record) : s.Keeps (s.offer r).1 :=
  State.settle_keeps r (s.normalPlacement_keeps r.request)

theorem State.serveFrom_keeps (c : Fin 32) (fuel : Nat) (s : State) : s.Keeps (State.serveFrom c fuel s) := by
  induction fuel generalizing s with
  | zero => exact .refl s
  | succ fuel ih =>
    unfold State.serveFrom
    split
    · exact .refl s
    · split
      · exact .refl s
      · next k _ _ r _ =>
        have hoffer := s.offer_keeps r
        split
        · next t ht =>
          rw [ht] at hoffer
          exact (hoffer.trans (State.modWaiting_keeps t c _)).trans (ih _)
        · next t ht =>
          rw [ht] at hoffer
          exact hoffer

theorem State.serveList_keeps (s : State) (c : Fin 32) : s.Keeps (s.serveList c) := State.serveFrom_keeps c _ s

theorem State.servePass_keeps (s : State) : s.Keeps s.servePass := .foldl State.serveList_keeps _ s

theorem State.joinWaiting_keeps (s : State) (c : Fin 32) (k : Key) : s.Keeps (s.joinWaiting c k) := s.modWaiting_keeps c _

theorem State.leaveWaiting_keeps (s : State) (c : Fin 32) (k : Key) : s.Keeps (s.leaveWaiting c k) := s.modWaiting_keeps c _

theorem State.acceptBody_keeps (s : State) (k : Key) : s.Keeps (s.acceptBody k) := by
  unfold State.acceptBody
  split
  · exact .refl s
  · next r _ =>
    have hu := s.updateRecord_keeps k (f := fun r => { r with state := r.state.accepted }) fun _ => rfl
    dsimp only
    split
    · have hoffer := hu.trans (State.offer_keeps _ { r with state := r.state.accepted })
      split
      · next t ht => rw [ht] at hoffer; exact hoffer
      · next t ht => rw [ht] at hoffer; exact hoffer.trans (t.joinWaiting_keeps _ k)
    · exact (hu.trans (State.joinWaiting_keeps _ _ k)).trans (State.serveList_keeps _ _)

theorem State.endReception_keeps (s : State) (k : Key) : s.Keeps (s.endReception k) := by
  unfold State.endReception
  split
  · exact .refl s
  · split
    · exact ((s.removeRecord_keeps k).trans (State.release_keeps _ _)).trans (State.judgeCutOff_keeps _ _)
    · exact (s.updateRecord_keeps k (f := Record.retakeCancelled) fun _ => rfl).trans (State.release_keeps _ _)
    · exact .refl s

/-- What a new-key claim that passes its checks says of the directory (R11). -/
theorem State.claimFailure_new {s : State} {c : Claim} (h : s.claimFailure c = none) (hr : c.retake = false) :
    s.findRecord c.key = none ∧ s.records.length < Config.directoryCapacity := by
  unfold State.claimFailure at h
  rw [hr] at h
  split at h <;> simp_all

theorem State.takeClaim_keeps {s t : State} {c : Claim} (h : s.takeClaim c = .ok t) : s.Keeps t := by
  unfold State.takeClaim at h
  split at h
  · cases h
  · next hpass =>
    split at h
    · cases h
    · next blocks u hu =>
      have hau := State.allocate_keeps hu
      split at h
      · cases h
        exact hau.trans (u.updateRecord_keeps c.key (f := (·.retaken c blocks)) fun _ => rfl)
      · next hr =>
        cases h
        obtain ⟨hnone, hroom⟩ := State.claimFailure_new hpass (by simpa using hr)
        have hrecords : u.records = s.records := by
          obtain ⟨-, -, rfl⟩ := State.allocate_some hu
          simp
        refine (hau.trans (u.addRecord_keeps ?_ ?_)).trans (State.judgeCutOff_keeps _ _)
        · rw [hrecords]; exact State.findRecord_none hnone
        · rwa [hrecords]

theorem State.placementNotice_keeps (s : State) (n : PlacementNotice) : s.Keeps (s.placementNotice n) := by
  unfold State.placementNotice
  dsimp only
  split
  · exact (s.countLink_keeps _ _).trans (State.raise_keeps _ _)
  · split
    · exact s.countLink_keeps _ _
    · exact (s.sendFrame_keeps _ _).trans (State.countLink_keeps _ _ _)

theorem State.supersedeCell_keeps (s : State) (p : Place) : s.Keeps (s.supersedeCell p) := by
  unfold State.supersedeCell
  split
  · exact s.modCell_keeps _ _ _
  · exact .refl s

theorem State.finishRecord_keeps (s : State) (k : Key) (dose : Bool) : s.Keeps (s.finishRecord k dose) := by
  unfold State.finishRecord
  split
  · exact .refl s
  · next r _ =>
    split
    · exact .refl s
    · next v _ =>
      dsimp only
      split
      · exact ((s.updateRecord_keeps k (f := (·.firstExposed v.place dose)) fun _ => rfl).trans (State.release_keeps _ _)).trans
          (State.placementNotice_keeps _ _)
      · refine State.Keeps.trans (State.Keeps.trans (State.Keeps.trans ?_ (State.updateRecord_keeps _ k
          (f := (·.retakeExposed v.place dose)) fun _ => rfl))
          (State.release_keeps _ _)) (State.placementNotice_keeps _ _)
        split
        · exact s.supersedeCell_keeps _
        · exact .refl s
      · exact .refl s

/-! ### The intake -/

theorem State.refuse_keeps (s : State) (l : Fin 8) (tag : BitVec 16) (cause : Cause) : s.Keeps (s.refuse l tag cause) := by
  have h := (s.sendFrame_keeps l (.refuse tag cause)).trans (State.countLink_keeps _ l .refused)
  unfold State.refuse
  dsimp only
  split
  · exact h.trans (State.countLink_keeps _ l _)
  · exact h

theorem State.endWithRefuse_keeps (s : State) (l : Fin 8) (r : Reception) (cause : Cause) :
    s.Keeps (s.endWithRefuse l r cause) := by
  unfold State.endWithRefuse
  split
  · exact (s.refuse_keeps l _ _).trans (State.idleContext_keeps _ l)
  · exact ((s.refuse_keeps l _ _).trans (State.endReception_keeps _ _)).trans (State.idleContext_keeps _ l)

theorem State.endRunning_keeps (s : State) (l : Fin 8) (cause : Cause) : s.Keeps (s.endRunning l cause) := by
  unfold State.endRunning
  split
  · exact s.endWithRefuse_keeps l _ cause
  · exact .refl s

/-- A reception begins or goes on, on a link that is ACTIVE. -/
theorem State.setReception_keeps (s : State) {l : Fin 8} (ha : s.links[l].active = true) (r : Option Reception) :
    s.Keeps (s.modLink l fun k => { k with reception := r }) :=
  s.modLink_keeps ⟨fun _ h => ⟨fun hd => absurd (ha.symm.trans hd) nofun, h.2⟩, id, id⟩

theorem State.admitHead_keeps (s : State) {l : Fin 8} (ha : s.links[l].active = true) (d : HeadFields) :
    s.Keeps (s.admitHead l d) := by
  unfold State.admitHead
  split
  · exact s.refuse_keeps l _ _
  · split
    · exact s.refuse_keeps l _ _
    · next t ht =>
      have hst := State.takeClaim_keeps ht
      exact hst.trans (t.setReception_keeps (hst.carriers l ha) _)

theorem State.countHeadFrame_keeps (s : State) (l : Fin 8) : s.Keeps (s.countHeadFrame l) := by
  unfold State.countHeadFrame
  split
  · exact (s.countLink_keeps l _).trans (State.countLink_keeps _ l _)
  · exact s.countLink_keeps l _

theorem State.takeHead_keeps (s : State) {l : Fin 8} (ha : s.links[l].active = true) (d : HeadFields) :
    s.Keeps (s.takeHead l d) := by
  have h := (s.countHeadFrame_keeps l).trans (State.endRunning_keeps _ l .abandoned)
  exact h.trans (State.admitHead_keeps _ (h.carriers l ha) d)

theorem State.storeBody_keeps (s : State) {l : Fin 8} (ha : s.links[l].active = true) (r : Reception) (bytes : List Byte) :
    s.Keeps (s.storeBody l r bytes) :=
  State.Keeps.trans (.of_parts (t := { s with mem := writeBody s.mem (s.receptionBlocks r.key) r.soFar bytes })
      (fun hm => writeBody_wf hm _ _ _) id id (fun _ => .refl _) (fun _ => .refl _) (fun _ => .refl _) rfl rfl id)
    (State.setReception_keeps { s with mem := writeBody s.mem (s.receptionBlocks r.key) r.soFar bytes } ha _)

theorem State.takeBody_keeps (s : State) {l : Fin 8} (ha : s.links[l].active = true) (bytes : List Byte) :
    s.Keeps (s.takeBody l bytes) := by
  unfold State.takeBody
  split
  · exact s.countLink_keeps l _
  · split
    · exact .refl s
    · split
      · exact s.storeBody_keeps ha _ bytes
      · exact s.endWithRefuse_keeps l _ _

theorem State.acceptReception_keeps (s : State) (l : Fin 8) (r : Reception) : s.Keeps (s.acceptReception l r) :=
  (((s.sendFrame_keeps l _).trans (State.countLink_keeps _ l _)).trans (State.idleContext_keeps _ l)).trans
    (State.acceptBody_keeps _ _)

theorem State.takeEnd_keeps (s : State) (l : Fin 8) (check : BitVec 32) : s.Keeps (s.takeEnd l check) := by
  unfold State.takeEnd
  split
  · exact s.countLink_keeps l _
  · split
    · exact s.endWithRefuse_keeps l _ _
    · split
      · exact s.endWithRefuse_keeps l _ _
      · split
        · exact s.endWithRefuse_keeps l _ _
        · exact s.acceptReception_keeps l _

theorem State.takeProbe_keeps (s : State) (l : Fin 8) : s.Keeps (s.takeProbe l) :=
  State.Keeps.trans (t := { s with freeCount := s.freeCount + 4 }) (.of_same (by simp)) (State.sendFrame_keeps _ l _)

theorem State.takeFixed_keeps (s : State) {l : Fin 8} {kind : Byte} {length : Nat} {f : Frame} {take : State → State}
    (h : s.links[l].active = true → s.Keeps (take s)) : s.Keeps (s.takeFixed l kind length f take) := by
  unfold State.takeFixed
  split
  · next ha =>
    split
    · split
      · exact h ha
      · exact s.countLink_keeps l _
    · exact s.countLink_keeps l _
  · exact .refl s

theorem State.markWithdrawn_keeps (s : State) (k : Key) : s.Keeps (s.markWithdrawn k) := by
  unfold State.markWithdrawn
  split
  · exact s.modLink_keeps ⟨fun _ h => ⟨fun hd => ⟨fun hb => Option.map_eq_none_iff.mpr ((h.1 hd).1 hb), (h.1 hd).2⟩, h.2⟩, id, id⟩
  · exact .refl s

theorem State.carrierAppears_keeps (s : State) (l : Fin 8) : s.Keeps (s.carrierAppears l) := by
  unfold State.carrierAppears
  split
  · exact .refl s
  · have h : s.Keeps (s.modLink l fun k => { k with active := true, reception := none, outbox := [] }) :=
      s.modLink_keeps ⟨fun _ h => ⟨fun hd => absurd hd nofun, h.2⟩, id, fun _ => rfl⟩
    dsimp only
    split
    · exact h.trans (State.sendHold_keeps _ (.inl (by simp [State.modLink])))
    · exact h

/-- A link that goes DOWN: for the links the reception that still stands on it is left out. -/
theorem State.carrierLost_links {s : State} {l : Fin 8} {lost : Fin 8 → Bool} (h : s.linksRestBut lost) :
    (s.carrierLost l).linksRestBut (Function.update lost l true) := by
  intro m
  unfold State.carrierLost
  rw [State.modLink_at]
  by_cases hm : m = l
  · subst hm; simp [Link.restsBut]
  · rw [if_neg hm, Function.update_of_ne hm]; exact h m

end Sys2Proof.Machine
end

section
/-! What the heads keep: the phases of an entry in flight, the tracker, the dose monitor, completions and faults. -/

namespace Sys2Proof.Machine

/-! ### Changes of a head gathered into one -/

theorem State.raise_modHead (s : State) (i : Indication) (h : Fin 4) (f : Head → Head) :
    (s.raise i).modHead h f = (s.modHead h f).raise i := rfl

theorem State.modEntryRecord_modHead (s : State) (h : Fin 4) (f : Head → Head) (e : Entry) (g : Record → Record) :
    (s.modHead h f).modEntryRecord e g = (s.modEntryRecord e g).modHead h f := by
  cases e with
  | cell i n c =>
    have hk : (s.modHead h f).keyAt i n = s.keyAt i n := rfl
    simp only [State.modEntryRecord, hk]
    split <;> rfl
  | title i => rfl
  | index i n p => rfl

theorem State.modEntryRecord_keeps (s : State) (e : Entry) {f : Record → Record} (hf : ∀ r, (f r).key = r.key) :
    s.Keeps (s.modEntryRecord e f) := by
  unfold State.modEntryRecord
  split
  · split
    · exact s.updateRecord_keeps _ hf
    · exact .refl s
  · exact .refl s

/-! ### Phases -/

/-- A stage motion is ordered (R150, R151, R154). -/
def Head.driven (k : Head) (p : Int × Int) : Head :=
  { k with
    stageOrder := some ⟨k.nextMotion, p.1, p.2⟩
    stageLimit := some Config.stageMs
    awaited := some k.nextMotion
    nextMotion := k.nextMotion + 1 }

/-- A transport motion is ordered (R149, R154). -/
def Head.advanced (k : Head) (sheet : Nat) : Head :=
  { k with
    transportOrder := some ⟨k.nextMotion, sheet⟩
    transportLimit := some Config.transportMs
    awaited := some k.nextMotion
    nextMotion := k.nextMotion + 1 }

/-- The entry in flight is in a phase. -/
def Head.inPhase (k : Head) (p : Phase) : Head := { k with inFlight := k.inFlight.map fun e => { e with phase := p } }

/-- A head that begins an acquisition run (R150, R161). -/
def Head.acquiring (k : Head) : Head :=
  ({ k.inPhase .acquiring with tracker := { k.tracker with run := some ⟨0, none⟩ } } : Head).driven referencePosition

theorem State.enterAcquiring_eq (s : State) (h : Fin 4) : s.enterAcquiring h = s.modHead h Head.acquiring := by
  simp only [State.enterAcquiring, State.setPhase, State.driveStage, State.modHead_modHead]
  rfl

theorem State.enterPositioning_eq (s : State) (h : Fin 4) (e : Entry) :
    s.enterPositioning h e = s.modHead h fun k => (k.inPhase .positioning).driven (s.position h e) := by
  simp only [State.enterPositioning, State.setPhase, State.driveStage, State.modHead_modHead]
  rfl

theorem State.enterAdvancing_eq (s : State) (h : Fin 4) (sheet : Nat) :
    s.enterAdvancing h sheet = s.modHead h fun k => (k.inPhase .advancing).advanced sheet := by
  simp only [State.enterAdvancing, State.setPhase, State.modHead_modHead]
  rfl

theorem State.enterDrawing_eq (s : State) (h : Fin 4) (e : Entry) :
    s.enterDrawing h e = s.modHead h fun k => { k.inPhase .drawing with draw := s.drawOf h e } := by
  simp only [State.enterDrawing, State.setPhase, State.modHead_modHead]
  rfl

/-! ### What the head operations keep -/

/-- A change of a head that leaves its queue, its dose monitor, its roll and its counters. -/
theorem HeadKeeps.of_flight {k k' : Head} (flight : k.flightAgrees → k'.flightAgrees)
    (tracker : k.tracker.inRange → k'.tracker.inRange) (roll : k'.state = .noRoll → k.state = .noRoll)
    (rest : k'.queue = k.queue ∧ k'.dose = k.dose ∧ k'.counters = k.counters ∧ k'.sheets = k.sheets ∧
      k'.nextSheet = k.nextSheet) : HeadKeeps k k' := by
  obtain ⟨queue, dose, counters, sheets, nextSheet⟩ := rest
  exact
    { flight := flight
      queue := by rw [queue]; exact id
      ranges := fun ⟨ht, hd, hs, hc⟩ => by
        simp only [Head.inRange, dose, counters, sheets]
        exact ⟨tracker ht, hd, hs, hc⟩
      sheets := sheets
      nextSheet := nextSheet
      roll := roll }

/-- An entry taken from the front of a queue (R148). -/
def Head.took (k : Head) (e : Entry) (rest : List Entry) : Head := { k with queue := rest, inFlight := some ⟨e, .advancing⟩ }

/-- A tracker in ACQUIRE (R159, R170). -/
def Tracker.acquired (t : Tracker) : Tracker := { t with locked := false, errors := 0, run := none }

/-- A head whose tracker is in ACQUIRE. -/
def Head.unlocked (k : Head) : Head := { k with tracker := k.tracker.acquired }

/-- A head whose stage motion is at an end: no limit runs and no motion is awaited. -/
def Head.staged (k : Head) : Head := { k with stageLimit := none, awaited := none }

/-- A head whose tracker holds a reading. -/
def Head.held (k : Head) (r : Reading) : Head := { k with tracker := k.tracker.hold r }

/-- A head after entering FAULT, its entry in flight and its counter still to be settled (R154). -/
def Head.faulted (k : Head) (kind : FaultKind) : Head :=
  { k with
    state := .fault
    faultKind := some kind
    stageSheet := if kind.losesSheet then none else k.stageSheet
    transportLimit := none
    stageLimit := none
    awaited := none
    codeReads := none
    tracker := { k.tracker with run := none } }

/-- A head without an entry in flight, its state that of an entry ended without a fault (R145, R153). -/
def Head.ended (k : Head) : Head :=
  { k with inFlight := none, state := if k.state = .stopping then .ready else k.state }

/-- A head after a lock lost in POSITIONING (R166), its entry returned and ended. -/
def Head.lockLost (e : Entry) (k : Head) : Head :=
  ({ k.staged.unlocked.counted .registrationLosses with queue := returnQueue k.queue e } : Head).ended

theorem Tracker.inRange_newRun {t : Tracker} (h : t.inRange) : ({ t with run := some ⟨0, none⟩ } : Tracker).inRange := by
  obtain ⟨hx, hy, he, -⟩ := h
  exact ⟨hx, hy, he, by simp [Config.runReadings]⟩

theorem Tracker.inRange_noRun {t : Tracker} (h : t.inRange) : ({ t with run := none } : Tracker).inRange := by
  obtain ⟨hx, hy, he, -⟩ := h
  exact ⟨hx, hy, he, by simp⟩

theorem Tracker.acquired_inRange {t : Tracker} (h : t.inRange) : t.acquired.inRange := by
  obtain ⟨hx, hy, -, -⟩ := h
  exact ⟨hx, hy, by simp [Tracker.acquired], by simp [Tracker.acquired]⟩

/-- The readings that a tracker holds: within capture (R160, R162, R164). -/
theorem withinCapture_offset {r : Reading} (h : withinCapture r = true) :
    ∃ ex ey : Int, r = .offset ex ey ∧ ex.natAbs ≤ 400 ∧ ey.natAbs ≤ 400 := by
  cases r with
  | missing => cases h
  | offset ex ey =>
    simp only [withinCapture, Bool.and_eq_true, decide_eq_true_eq] at h
    exact ⟨ex, ey, rfl, h⟩

theorem withinCapture_of_agree {p r : Reading} (h : readingsAgree p r = true) : withinCapture r = true := by
  cases p <;> cases r <;> simp_all [readingsAgree]

theorem Tracker.withinCapture_of_good {t : Tracker} {r : Reading} (h : t.good r = true) : withinCapture r = true := by
  cases r <;> simp_all [Tracker.good]

/-- A tracker that holds a reading within capture is LOCKED without a run, and in range. -/
theorem Tracker.hold_locked (t : Tracker) {r : Reading} (h : withinCapture r = true) :
    (t.hold r).locked = true ∧ (t.hold r).run = none ∧ (t.hold r).inRange := by
  obtain ⟨ex, ey, rfl, hx, hy⟩ := withinCapture_offset h
  exact ⟨rfl, rfl, hx, hy, by simp [Tracker.hold], by simp [Tracker.hold]⟩

/-! ### One head's change at a time -/

section
variable {k : Head} {e : InFlight}

/-- A head whose entry in flight is not ADVANCING reads no sheet code. -/
theorem Head.codeReads_eq_none (h : k.flightAgrees) (hn : ∀ e ∈ k.inFlight, e.phase ≠ .advancing) : k.codeReads = none := by
  obtain ⟨-, -, -, -, -, hreads⟩ := h
  by_contra hc
  obtain ⟨-, e, he, hp⟩ := hreads (Option.isSome_iff_ne_none.mpr hc)
  exact hn e he hp

theorem Head.codeReads_eq_none_of_phase (h : k.flightAgrees) (he : k.inFlight = some e) (hp : e.phase ≠ .advancing) :
    k.codeReads = none :=
  Head.codeReads_eq_none h fun x hx => by rw [he] at hx; cases hx; exact hp

theorem HeadKeeps.took_advancing {rest : List Entry} {e : Entry} (hrun : k.state = .running) (hnone : k.inFlight = none)
    (hq : k.queue = e :: rest) (sheet : Nat) : HeadKeeps k (((k.took e rest).inPhase .advancing).advanced sheet) where
  flight hf := by
    have hreads := Head.codeReads_eq_none hf (by simp [hnone])
    obtain ⟨-, -, -, -, hl, -⟩ := hf
    refine ⟨fun _ => .inl hrun, fun _ => rfl, ?_, ?_, hl, ?_⟩ <;> simp [Head.took, Head.advanced, Head.inPhase, hreads]
  queue hd := by rw [hq] at hd; exact hd.of_cons
  ranges := id
  sheets := rfl
  nextSheet := rfl
  roll := id

theorem HeadKeeps.took_acquiring {rest : List Entry} {e : Entry} (hrun : k.state = .running) (hnone : k.inFlight = none)
    (hq : k.queue = e :: rest) (hunlocked : k.tracker.locked = false) : HeadKeeps k (k.took e rest).acquiring where
  flight hf := by
    have hreads := Head.codeReads_eq_none hf (by simp [hnone])
    refine ⟨fun _ => .inl hrun, fun _ => rfl, ?_, fun _ _ _ => hunlocked, ?_, ?_⟩ <;>
      simp [Head.took, Head.acquiring, Head.driven, Head.inPhase, hunlocked, hreads]
  queue hd := by rw [hq] at hd; exact hd.of_cons
  ranges := fun ⟨ht, hr⟩ => ⟨Tracker.inRange_newRun ht, hr⟩
  sheets := rfl
  nextSheet := rfl
  roll := id

theorem HeadKeeps.took_positioning {rest : List Entry} {e : Entry} (hrun : k.state = .running)
    (hnone : k.inFlight = none) (hq : k.queue = e :: rest) (hlocked : k.tracker.locked = true) (p : Int × Int) :
    HeadKeeps k (((k.took e rest).inPhase .positioning).driven p) where
  flight hf := by
    have hreads := Head.codeReads_eq_none hf (by simp [hnone])
    obtain ⟨-, -, -, -, hl, -⟩ := hf
    refine ⟨fun _ => .inl hrun, fun _ => rfl, fun _ _ _ => hlocked, ?_, hl, ?_⟩ <;>
      simp [Head.took, Head.driven, Head.inPhase, hreads]
  queue hd := by rw [hq] at hd; exact hd.of_cons
  ranges := id
  sheets := rfl
  nextSheet := rfl
  roll := id

/-- The arrival at a sheet of a coded roll: the reading of its code begins (R171). -/
theorem HeadKeeps.codeBegun (he : k.inFlight = some e) (hp : e.phase = .advancing) :
    HeadKeeps k { ({ k with transportLimit := none, awaited := none } : Head).unlocked with codeReads := some [] } := by
  refine .of_flight (fun ⟨hs, hst, _⟩ => ⟨hs, hst, ?_, ?_, nofun, fun _ => ⟨rfl, e, he, hp⟩⟩) Tracker.acquired_inRange id ⟨rfl, rfl, rfl, rfl, rfl⟩ <;>
    simp [Head.unlocked, he, hp]

/-- A sheet reached with the tracker in ACQUIRE: acquisition begins (R149, R150). -/
theorem HeadKeeps.reached {k' : Head} (hstate : k'.state = k.state) (hflight : k'.inFlight = k.inFlight)
    (hunlocked : k.flightAgrees → k'.tracker.locked = false) (hreads : k'.codeReads = none)
    (htracker : k.tracker.inRange → k'.tracker.inRange) (hrest : k'.queue = k.queue ∧ k'.dose = k.dose ∧
      k'.counters = k.counters ∧ k'.sheets = k.sheets ∧ k'.nextSheet = k.nextSheet) :
    HeadKeeps k k'.acquiring := by
  refine .of_flight (fun hf => ?_) (fun hr => Tracker.inRange_newRun (htracker hr))
    (by simp [Head.acquiring, Head.driven, Head.inPhase, hstate]) hrest
  have hu := hunlocked hf
  obtain ⟨hs, hst, -⟩ := hf
  refine ⟨?_, ?_, ?_, ?_, ?_, ?_⟩ <;> simp_all [Head.acquiring, Head.driven, Head.inPhase]

/-- A further read of a sheet code (R171). -/
theorem HeadKeeps.codeRead {reads more : List (Option (BitVec 16))} (hr : k.codeReads = some reads) :
    HeadKeeps k { k with codeReads := some more } :=
  .of_flight (fun ⟨hs, hst, hd, ha, hl, hc⟩ => ⟨hs, hst, hd, ha, hl, fun _ => hc (by rw [hr]; rfl)⟩) id id ⟨rfl, rfl, rfl, rfl, rfl⟩

/-- A head in FAULT with a descending queue and no entry in flight (R154). -/
theorem HeadKeeps.faulted (k : Head) (kind : FaultKind) {q : List Entry}
    (hq : (k.queue.Pairwise fun a b => b.cls ≤ a.cls) → q.Pairwise fun a b => b.cls ≤ a.cls) :
    HeadKeeps k { (k.faulted kind).counted .faults with queue := q, inFlight := none } where
  flight _ := ⟨nofun, nofun, by simp, by simp, fun _ => rfl, nofun⟩
  queue := hq
  ranges hr := by
    obtain ⟨ht, hd, hs, hc⟩ := (HeadKeeps.counted k .faults).ranges hr
    exact ⟨Tracker.inRange_noRun ht, hd, hs, hc⟩
  sheets := rfl
  nextSheet := rfl
  roll := nofun

theorem HeadKeeps.faulted_idle (hnone : k.inFlight = none) (kind : FaultKind) : HeadKeeps k (k.faulted kind) :=
  .of_flight (fun _ => by simp [Head.faulted, Head.flightAgrees, hnone]) Tracker.inRange_noRun nofun ⟨rfl, rfl, rfl, rfl, rfl⟩

theorem HeadKeeps.staged (k : Head) : HeadKeeps k k.staged := .of_flight id id id ⟨rfl, rfl, rfl, rfl, rfl⟩

/-- A lock found by an acquisition run (R162). -/
theorem HeadKeeps.positioned (he : k.inFlight = some e) (hp : e.phase = .acquiring) {r : Reading}
    (hr : withinCapture r = true) (p : Int × Int) :
    HeadKeeps k (((k.staged.held r).inPhase .positioning).driven p) := by
  obtain ⟨hlocked, hrun, hrange⟩ := k.tracker.hold_locked hr
  refine .of_flight (fun hf => ?_) (fun _ => hrange) id ⟨rfl, rfl, rfl, rfl, rfl⟩
  have hnone := Head.codeReads_eq_none_of_phase hf he (by rw [hp]; decide)
  obtain ⟨hs, hst, -⟩ := hf
  refine ⟨?_, ?_, fun _ _ _ => hlocked, ?_, fun _ => hrun, ?_⟩ <;>
    simp_all [Head.staged, Head.held, Head.driven, Head.inPhase]

/-- A further reading of an acquisition run (R163). -/
theorem HeadKeeps.readOn (he : k.inFlight = some e) (hp : e.phase = .acquiring) {run : Run}
    (hrun : run.taken < Config.runReadings) (p : Int × Int) :
    HeadKeeps k (({ k.staged with tracker := { k.staged.tracker with run := some run } } : Head).driven p) := by
  refine .of_flight (fun hf => ?_) (fun ⟨hx, hy, her, _⟩ => ⟨hx, hy, her, fun r hr => by cases hr; exact hrun⟩) id ⟨rfl, rfl, rfl, rfl, rfl⟩
  have hnone := Head.codeReads_eq_none_of_phase hf he (by rw [hp]; decide)
  obtain ⟨hs, hst, hd, ha, -, -⟩ := hf
  exact ⟨hs, hst, hd, ha, fun hl => absurd ((ha e he hp).symm.trans hl) nofun,
    fun hr => by simp [Head.staged, Head.driven, hnone] at hr⟩

/-- A good reading of a LOCKED tracker (R164): the draw begins. -/
theorem HeadKeeps.drawn_held (he : k.inFlight = some e) (hp : e.phase = .positioning) {r : Reading}
    (hr : withinCapture r = true) (d : Option Draw) :
    HeadKeeps k { (k.staged.held r).inPhase .drawing with draw := d } := by
  obtain ⟨hlocked, hrun, hrange⟩ := k.tracker.hold_locked hr
  refine .of_flight (fun hf => ?_) (fun _ => hrange) id ⟨rfl, rfl, rfl, rfl, rfl⟩
  have hnone := Head.codeReads_eq_none_of_phase hf he (by rw [hp]; decide)
  obtain ⟨hs, hst, -⟩ := hf
  refine ⟨?_, ?_, fun _ _ _ => hlocked, ?_, fun _ => hrun, ?_⟩ <;>
    simp_all [Head.staged, Head.held, Head.inPhase]

/-- A reading that is not good and is drawn at the old offset (R165, R167). -/
theorem HeadKeeps.drawn_old (he : k.inFlight = some e) (hp : e.phase = .positioning) (d : Option Draw) :
    HeadKeeps k { ({ k.staged with tracker := { k.tracker with errors := min (k.tracker.errors + 1) 3 } } : Head).inPhase
      .drawing with draw := d } := by
  refine .of_flight (fun hf => ?_) (fun ⟨hx, hy, _, hrun⟩ => ⟨hx, hy, Nat.min_le_right _ _, hrun⟩) id ⟨rfl, rfl, rfl, rfl, rfl⟩
  have hnone := Head.codeReads_eq_none_of_phase hf he (by rw [hp]; decide)
  obtain ⟨hs, hst, hd, -, hl, -⟩ := hf
  have hlocked := hd e he (.inl hp)
  refine ⟨?_, ?_, fun _ _ _ => hlocked, ?_, hl, ?_⟩ <;> simp_all [Head.staged, Head.inPhase]

theorem Head.ended_noRoll (k : Head) : k.ended.state = .noRoll → k.state = .noRoll := by
  unfold Head.ended
  dsimp only
  split
  · nofun
  · exact id

/-- A lock lost in POSITIONING (R166): the entry is returned and ends. -/
theorem HeadKeeps.lockLost (he : k.inFlight = some e) (hp : e.phase = .positioning) (entry : Entry) :
    HeadKeeps k (k.lockLost entry) where
  flight hf := by
    have hnone := Head.codeReads_eq_none_of_phase hf he (by rw [hp]; decide)
    refine ⟨?_, ?_, ?_, ?_, ?_, ?_⟩ <;>
      simp [Head.lockLost, Head.ended, Head.counted, Head.unlocked, Head.staged, Tracker.acquired, hnone]
    split <;> simp_all
  queue hq := returnQueue_descending hq entry
  ranges hr := by
    obtain ⟨ht, hd, hs, hc⟩ := (HeadKeeps.counted k .registrationLosses).ranges hr
    exact ⟨Tracker.acquired_inRange ht, hd, hs, hc⟩
  sheets := rfl
  nextSheet := rfl
  roll := Head.ended_noRoll _

theorem HeadKeeps.ended (he : ∀ e ∈ k.inFlight, e.phase ≠ .advancing) : HeadKeeps k k.ended := by
  refine .of_flight (fun hf => ?_) id k.ended_noRoll ⟨rfl, rfl, rfl, rfl, rfl⟩
  have hnone := Head.codeReads_eq_none hf he
  obtain ⟨-, -, -, -, hl, -⟩ := hf
  refine ⟨?_, ?_, ?_, ?_, hl, ?_⟩ <;> simp [Head.ended, hnone]
  split <;> simp_all

theorem Dose.step_inRange {d : Dose} (h : d.inRange) (deviation : Bool) : (d.step deviation).inRange := by
  obtain ⟨ht, ht', hth, hth', hp, hd, hl⟩ := h
  unfold Dose.step
  dsimp only
  split
  · exact ⟨ht, ht', hth, hth', Nat.zero_lt_succ _, Nat.le_refl _, hl⟩
  · refine ⟨ht, ht', hth, hth', by dsimp only [Config.windowDraws] at *; omega, ?_, hl⟩
    dsimp only
    split <;> omega

theorem HeadKeeps.of_dose (k : Head) {d : Dose} (h : k.dose.inRange → d.inRange) : HeadKeeps k { k with dose := d } :=
  ⟨id, id, fun ⟨ht, hd, hr⟩ => ⟨ht, h hd, hr⟩, rfl, rfl, id⟩

/-- Heads that are READY, in FAULT or in NO-ROLL have no entry in flight, and none is being positioned or drawn. -/
theorem Head.inFlight_eq_none (hf : k.flightAgrees) (hr : k.state ≠ .running)
    (hs : k.state ≠ .stopping) :
    k.inFlight = none := by
  obtain ⟨h, -⟩ := hf
  by_contra hc
  exact (h (Option.isSome_iff_ne_none.mpr hc)).elim hr hs

/-- A head that is reset (R146). -/
theorem HeadKeeps.reset (hr : k.state = .fault ∨ k.state = .ready) :
    HeadKeeps k ({ k with state := .ready, faultKind := none } : Head).unlocked := by
  refine .of_flight (fun hf => ?_) Tracker.acquired_inRange nofun ⟨rfl, rfl, rfl, rfl, rfl⟩
  have hnone : k.inFlight = none :=
    Head.inFlight_eq_none hf (by rcases hr with h | h <;> rw [h] <;> decide) (by rcases hr with h | h <;> rw [h] <;> decide)
  have hreads := Head.codeReads_eq_none hf (by simp [hnone])
  refine ⟨?_, ?_, ?_, ?_, nofun, ?_⟩ <;> simp [Head.unlocked, hnone, hreads]

/-- A head that starts (R144). -/
theorem HeadKeeps.started (k : Head) : HeadKeeps k { k with state := .running } :=
  .of_flight (fun ⟨_, _, h⟩ => ⟨fun _ => .inl rfl, nofun, h⟩) id nofun ⟨rfl, rfl, rfl, rfl, rfl⟩

/-- A head that stops (R145). -/
theorem HeadKeeps.stopped (k : Head) : HeadKeeps k { k with state := if k.inFlight.isSome then .stopping else .ready } := by
  refine .of_flight (fun ⟨_, _, h⟩ => ⟨fun hs => .inr (if_pos hs), fun hst => ?_, h⟩) id (by dsimp only; split <;> nofun) ⟨rfl, rfl, rfl, rfl, rfl⟩
  dsimp only at hst ⊢
  split at hst
  · assumption
  · cases hst

end

/-! ### What the head operations keep -/

theorem State.takeEntry_keeps (s : State) {h : Fin 4} {e : Entry} {rest : List Entry}
    (hrun : s.heads[h].state = .running) (hnone : s.heads[h].inFlight = none) (hq : s.heads[h].queue = e :: rest) :
    s.Keeps (s.takeEntry h e rest) := by
  have hu := s.modEntryRecord_keeps e (f := Record.taken) fun _ => rfl
  have hheads : (s.modEntryRecord e Record.taken).heads = s.heads := by simp
  revert hu hheads
  unfold State.takeEntry
  rw [State.modEntryRecord_modHead]
  generalize s.modEntryRecord e Record.taken = u
  intro hu hheads
  have hk : u.heads[h] = s.heads[h] := by rw [hheads]
  rw [← hk] at hrun hnone hq
  refine hu.trans ?_
  show u.Keeps ((u.modHead h (·.took e rest)).firstPhase h e)
  have htracker : (u.modHead h (·.took e rest)).heads[h].tracker = u.heads[h].tracker := by
    rw [State.modHead_at, if_pos rfl]; rfl
  unfold State.firstPhase
  rw [htracker]
  split
  · rw [State.enterAdvancing_eq, State.modHead_modHead]
    exact u.modHead_keeps (.took_advancing hrun hnone hq _)
  · split
    · next hunlocked =>
      rw [State.enterAcquiring_eq, State.modHead_modHead]
      exact u.modHead_keeps (.took_acquiring hrun hnone hq hunlocked)
    · next hlocked =>
      rw [State.enterPositioning_eq, State.modHead_modHead]
      exact u.modHead_keeps (.took_positioning hrun hnone hq (by simpa using hlocked) _)

/-- The tracker goes to ACQUIRE, and LOCKED's change bit is raised when it leaves LOCKED. -/
theorem State.trackerAcquire_eq (s : State) (h : Fin 4) :
    s.trackerAcquire h =
      if s.heads[h].tracker.locked then (s.modHead h Head.unlocked).raise (.locked h) else s.modHead h Head.unlocked := rfl

/-- A head's changes about a move of its tracker to ACQUIRE, gathered into one. -/
theorem State.trackerAcquire_keeps (s : State) (h : Fin 4) {f g : Head → Head}
    (hk : HeadKeeps s.heads[h] (g (f s.heads[h]).unlocked)) : s.Keeps (((s.modHead h f).trackerAcquire h).modHead h g) := by
  rw [State.trackerAcquire_eq]
  split
  · rw [State.raise_modHead, State.modHead_modHead, State.modHead_modHead]
    exact (s.modHead_keeps hk).trans (State.raise_keeps _ _)
  · rw [State.modHead_modHead, State.modHead_modHead]
    exact s.modHead_keeps hk

theorem State.transportArrival_keeps {s t : State} {h : Fin 4} {motion : Nat}
    (ht : execTransportArrival h motion s = .next t) : s.Keeps t := by
  unfold execTransportArrival at ht
  split at ht
  · cases ht; exact .refl s
  · next e he =>
    split at ht
    · next hp =>
      obtain ⟨hp, -, -⟩ := hp
      dsimp only at ht
      split at ht
      · cases ht
        exact s.trackerAcquire_keeps h (.codeBegun he hp)
      · cases ht
        rw [State.sheetReached, State.enterAcquiring_eq, State.modHead_modHead]
        exact s.trackerAcquire_keeps h (.reached rfl rfl (fun _ => rfl) rfl Tracker.acquired_inRange ⟨rfl, rfl, rfl, rfl, rfl⟩)
    · cases ht; exact .refl s

theorem State.spoil_keeps (s : State) (i : Fin 12) (n : Nat) : s.Keeps (s.spoil i n) := by
  have ht := (s.modCells_keeps i n (((s.cellAt i n).map Cell.width).getD 1)
    (fun c => { c with state := .spoiled, dose := false }) (fun c => { c with state := .spoiled, dose := false })).trans
    (State.indexingTest_keeps _ i)
  unfold State.spoil
  dsimp only
  split
  · exact ht
  · next r _ =>
    have hsettle := State.settle_keeps r ((ht.trans (State.updateRecord_keeps _ r.key
      (f := fun x => { x with reserved := none }) fun _ => rfl)).trans (State.rePlacement_keeps _ i r.request))
    split
    · next u hu => rw [hu] at hsettle; exact hsettle
    · next u hu =>
      rw [hu] at hsettle
      have hv := (hsettle.trans (u.updateRecord_keeps r.key (f := Record.spoiledWaiting) fun _ => rfl)).trans
        (State.joinWaiting_keeps _ r.series r.key)
      split
      · exact hv.trans (State.judgeCutOff_keeps _ _)
      · exact hv

/-- The head's part of entering FAULT and what follows it on the same head, gathered into one change. -/
theorem State.faulted_modHead (s : State) (h : Fin 4) (kind : FaultKind) (g : Head → Head) :
    (((s.modHead h (·.faulted kind)).countHead h .faults).raise (.fault h)).modHead h g =
      (s.modHead h fun k => g ((k.faulted kind).counted .faults)).raise (.fault h) := by
  rw [State.raise_modHead, State.countHead, State.modHead_modHead, State.modHead_modHead]
  rfl

/-- A head enters FAULT, by what becomes of the entry in flight (R154, R156). -/
theorem State.enterFault_keeps (s : State) (h : Fin 4) (kind : FaultKind) : s.Keeps (s.enterFault h kind) := by
  have hreturn (e : Entry) : s.Keeps
      ((((s.modHead h (·.faulted kind)).countHead h .faults).raise (.fault h)).returnEntry h e) := by
    rw [State.returnEntry, State.faulted_modHead]
    exact ((s.modHead_keeps (.faulted _ kind fun hq => returnQueue_descending hq _)).trans
      (State.raise_keeps _ _)).trans (State.modEntryRecord_keeps _ _ fun _ => rfl)
  have hredraw (e : Entry) (i : Fin 12) : s.Keeps
      (((((s.modHead h (·.faulted kind)).countHead h .faults).raise (.fault h)).returnEntry h e).modSlot i
        fun t => { t with redraw := true }) :=
    (hreturn e).trans (State.modSlot_keeps _ ⟨fun hf => ⟨hf, rfl, rfl, rfl, rfl⟩, id⟩)
  unfold State.enterFault
  dsimp only
  split
  · next hnone =>
    exact ((s.modHead_keeps (.faulted_idle hnone kind)).trans (State.countHead_keeps _ _ _)).trans (State.raise_keeps _ _)
  · next e he =>
    split
    · unfold State.interruptEntry
      split
      · next i n c _ =>
        have hfree := s.faulted_modHead h kind fun k => { k with inFlight := none }
        have hfault : s.Keeps ((s.modHead h fun k => { (k.faulted kind).counted .faults with inFlight := none }).raise
            (.fault h)) := (s.modHead_keeps (.faulted _ kind id)).trans (State.raise_keeps _ _)
        rw [← hfree] at hfault
        exact (hfault.trans (State.spoil_keeps _ i n)).trans (State.countHead_keeps _ _ _)
      · exact hredraw _ _
      · exact hredraw _ _
    · exact hreturn _

theorem State.sheetCodeRead_keeps {s t : State} {h : Fin 4} {value : Option (BitVec 16)}
    (ht : execSheetCodeRead h value s = .next t) : s.Keeps t := by
  unfold execSheetCodeRead at ht
  split at ht
  · next e reads he hr =>
    split at ht
    · next hp =>
      split at ht
      · cases ht
        exact s.modHead_keeps (.codeRead hr)
      · cases ht; exact s.enterFault_keeps h _
      · split at ht
        · cases ht
          rw [State.sheetReached, State.enterAcquiring_eq, State.modHead_modHead]
          refine s.modHead_keeps (.reached rfl rfl (fun hf => ?_) rfl id ⟨rfl, rfl, rfl, rfl, rfl⟩)
          obtain ⟨-, -, -, -, -, hc⟩ := hf
          exact (hc (by rw [hr]; rfl)).1
        · cases ht; exact s.enterFault_keeps h _
    · cases ht; exact .refl s
  · cases ht; exact .refl s

theorem State.acquisitionReading_keeps (s : State) {h : Fin 4} {e : InFlight} {run : Run} {r : Reading}
    (he : s.heads[h].inFlight = some e) (hp : e.phase = .acquiring) :
    s.Keeps ((s.modHead h Head.staged).acquisitionReading h e.entry run r) := by
  unfold State.acquisitionReading
  split
  · next hagree =>
    have hr : withinCapture r = true := by
      cases hprev : run.previous with
      | none => simp [hprev] at hagree
      | some p => exact withinCapture_of_agree (p := p) (by simpa [hprev] using hagree)
    rw [State.enterPositioning_eq, State.raise_modHead, State.modHead_modHead, State.modHead_modHead]
    exact (s.modHead_keeps (.positioned he hp hr _)).trans (State.raise_keeps _ _)
  · split
    · next hmore =>
      rw [State.driveStage, State.modHead_modHead, State.modHead_modHead]
      exact s.modHead_keeps (.readOn he hp hmore _)
    · exact (s.modHead_keeps (.staged _)).trans (State.enterFault_keeps _ h _)

theorem State.endEntry_eq (s : State) (h : Fin 4) :
    s.endEntry h = if s.heads[h].state = .stopping then (s.modHead h Head.ended).raise (.stopped h)
      else s.modHead h Head.ended := by
  unfold State.endEntry
  dsimp only
  rw [State.modHead_modHead]
  split
  · next hs => simp [State.modHead, Head.ended, show s.heads[h.val].state = .stopping from hs]
  · next hs => simp [State.modHead, Head.ended, show s.heads[h.val].state ≠ .stopping from hs]

theorem State.endEntry_keeps (s : State) {h : Fin 4} (he : ∀ e ∈ s.heads[h].inFlight, e.phase ≠ .advancing) :
    s.Keeps (s.endEntry h) := by
  rw [State.endEntry_eq]
  split
  · exact (s.modHead_keeps (.ended he)).trans (State.raise_keeps _ _)
  · exact s.modHead_keeps (.ended he)

theorem State.raise_modEntryRecord (s : State) (i : Indication) (e : Entry) (g : Record → Record) :
    (s.raise i).modEntryRecord e g = (s.modEntryRecord e g).raise i := by
  cases e with
  | cell n m c =>
    have hk : (s.raise i).keyAt n m = s.keyAt n m := rfl
    simp only [State.modEntryRecord, hk]
    split <;> rfl
  | title n => rfl
  | index n m p => rfl

/-- A lock lost in POSITIONING (R166), the head's changes gathered into one. -/
theorem State.lockLost_keeps (s : State) {h : Fin 4} {e : InFlight} (he : s.heads[h].inFlight = some e)
    (hp : e.phase = .positioning) :
    s.Keeps (((((s.modHead h Head.staged).trackerAcquire h).countHead h .registrationLosses).returnEntry h e.entry).endEntry
      h) := by
  have hheads : (s.modEntryRecord e.entry Record.returned).heads[h] = s.heads[h] := by simp
  have hloss : s.Keeps ((s.modEntryRecord e.entry Record.returned).modHead h (Head.lockLost e.entry)) :=
    (s.modEntryRecord_keeps e.entry (f := Record.returned) fun _ => rfl).trans
      (State.modHead_keeps _ (by rw [hheads]; exact .lockLost he hp e.entry))
  rw [State.trackerAcquire_eq]
  split
  · simp only [State.countHead, State.returnEntry, State.endEntry_eq, State.raise_modHead, State.raise_modEntryRecord,
      State.modEntryRecord_modHead, State.modHead_modHead]
    split
    · exact (hloss.trans (State.raise_keeps _ _)).trans (State.raise_keeps _ _)
    · exact hloss.trans (State.raise_keeps _ _)
  · simp only [State.countHead, State.returnEntry, State.endEntry_eq, State.modEntryRecord_modHead, State.modHead_modHead]
    split
    · exact hloss.trans (State.raise_keeps _ _)
    · exact hloss

theorem State.positioningReading_keeps (s : State) {h : Fin 4} {e : InFlight} {r : Reading}
    (he : s.heads[h].inFlight = some e) (hp : e.phase = .positioning) :
    s.Keeps ((s.modHead h Head.staged).positioningReading h e.entry r) := by
  have htracker : (s.modHead h Head.staged).heads[h].tracker = s.heads[h].tracker := by
    rw [State.modHead_at, if_pos rfl]; rfl
  unfold State.positioningReading
  dsimp only
  rw [htracker]
  split
  · next hgood =>
    rw [State.enterDrawing_eq, State.modHead_modHead, State.modHead_modHead]
    exact s.modHead_keeps (.drawn_held he hp (Tracker.withinCapture_of_good hgood) _)
  · split
    · rw [State.enterDrawing_eq, State.modHead_modHead, State.modHead_modHead]
      exact s.modHead_keeps (.drawn_old he hp _)
    · exact s.lockLost_keeps he hp

end Sys2Proof.Machine
end

section
/-! What every command keeps, and the invariants of the tables that every step keeps (R1, R27 to R34, R41, R45, R105, R126,
R128, R141 to R147, R157 to R173, R191). -/

namespace Sys2Proof.Machine

/-! ### Completions -/

theorem State.putNotice_keeps (s : State) (n : Notice) : s.Keeps (s.putNotice n) := by
  unfold State.putNotice
  split
  · next hroom =>
    split
    · exact (s.modPort_keeps fun _ => by simp [Config.noticeCapacity]).trans (State.raise_keeps _ _)
    · exact s.modPort_keeps fun _ => by simpa using hroom
  · exact s.raise_keeps _

theorem State.leaveTable_keeps (s : State) (i : Fin 12) : s.Keeps (s.leaveTable i) :=
  ((s.putNotice_keeps _).trans (State.modSlot_keeps _ ⟨fun hf => absurd rfl hf, fun ho => absurd ho (by decide)⟩)).trans (State.retry_keeps _ _)

theorem State.completeIndex_keeps (s : State) (i : Fin 12) (n : Nat) : s.Keeps (s.completeIndex i n) := by
  have ht := s.modCell_keeps i n fun c => { c with state := .indexDone }
  unfold State.completeIndex
  dsimp only
  split
  · exact ht.trans (State.leaveTable_keeps _ i)
  · exact ht

theorem State.completeCell_keeps (s : State) (i : Fin 12) (n : Nat) (dose : Bool) : s.Keeps (s.completeCell i n dose) := by
  have ht := s.modCell_keeps i n fun c => { c with state := .exposed, dose := dose }
  unfold State.completeCell
  dsimp only
  split
  · exact (ht.trans (State.finishRecord_keeps _ _ dose)).trans (State.indexingTest_keeps _ i)
  · exact ht.trans (State.indexingTest_keeps _ i)

theorem State.complete_keeps (s : State) (h : Fin 4) (e : Entry) (dose : Bool) : s.Keeps (s.complete h e dose) := by
  cases e with
  | cell i n c => exact (s.completeCell_keeps i n dose).trans (State.countHead_keeps _ _ _)
  | title i =>
    exact (s.modSlot_keeps ⟨fun hf => ⟨hf, rfl, rfl, rfl, rfl⟩, id⟩).trans (State.countHead_keeps _ _ _)
  | index i n p => exact (s.completeIndex_keeps i n).trans (State.countHead_keeps _ _ _)

theorem State.judgeDose_keeps (s : State) (h : Fin 4) (m : Nat) : s.Keeps (s.judgeDose h m) := by
  have ht := s.modHead_keeps (h := h) (f := fun k => { k with dose := k.dose.step (s.heads[h].dose.deviates m) })
    (.of_dose _ fun hd => Dose.step_inRange hd _)
  have hu : s.Keeps (if s.heads[h].dose.deviates m then
      (s.modHead h fun k => { k with dose := k.dose.step (s.heads[h].dose.deviates m) }).countHead h .doseDeviations
      else s.modHead h fun k => { k with dose := k.dose.step (s.heads[h].dose.deviates m) }) := by
    split
    · exact ht.trans (State.countHead_keeps _ _ _)
    · exact ht
  unfold State.judgeDose
  dsimp only
  split
  · exact hu.trans (State.raise_keeps _ _)
  · exact hu

/-! ### The entry in flight through a completion -/

theorem State.modHead_inFlight (s : State) (h j : Fin 4) {f : Head → Head} (hf : ∀ k, (f k).inFlight = k.inFlight) :
    (s.modHead h f).heads[j].inFlight = s.heads[j].inFlight := by
  rw [State.modHead_at]
  split
  · next hj => rw [hj, hf]
  · rfl

theorem State.countHead_inFlight (s : State) (h j : Fin 4) (c : HeadCounter) :
    (s.countHead h c).heads[j].inFlight = s.heads[j].inFlight := s.modHead_inFlight h j fun _ => rfl

theorem State.indexingTest_inFlight (s : State) (i : Fin 12) (j : Fin 4) :
    (s.indexingTest i).heads[j].inFlight = s.heads[j].inFlight := by
  rw [State.indexingTest_eq]
  split
  · exact State.modHead_inFlight _ _ j fun _ => rfl
  · rfl

theorem State.complete_inFlight (s : State) (h j : Fin 4) (e : Entry) (dose : Bool) :
    (s.complete h e dose).heads[j].inFlight = s.heads[j].inFlight := by
  cases e with
  | cell i n c =>
    simp only [State.complete, State.countHead_inFlight, State.completeCell]
    split <;> rw [State.indexingTest_inFlight] <;> simp
  | title i =>
    simp only [State.complete, State.countHead_inFlight]
    rfl
  | index i n p =>
    simp only [State.complete, State.countHead_inFlight, State.completeIndex]
    split <;> simp

theorem State.judgeDose_inFlight (s : State) (h j : Fin 4) (m : Nat) :
    (s.judgeDose h m).heads[j].inFlight = s.heads[j].inFlight := by
  have hstep (d : Bool) := s.modHead_inFlight h j (f := fun k => { k with dose := k.dose.step d }) fun _ => rfl
  unfold State.judgeDose
  dsimp only
  split <;> split
  · exact (State.countHead_inFlight _ h j _).trans (hstep _)
  · exact hstep _
  · exact (State.countHead_inFlight _ h j _).trans (hstep _)
  · exact hstep _

theorem State.drawEnds_keeps (s : State) {h : Fin 4} {e : InFlight} (he : s.heads[h].inFlight = some e)
    (hp : e.phase = .drawing) (m : Nat) : s.Keeps (s.drawEnds h e.entry m) := by
  have ht := ((s.judgeDose_keeps h m).trans (State.complete_keeps _ h e.entry (s.heads[h].dose.deviates m))).trans
    (State.endEntry_keeps _ (h := h) fun x hx => by
      rw [State.complete_inFlight, State.judgeDose_inFlight, he] at hx
      cases hx
      rw [hp]
      decide)
  unfold State.drawEnds
  dsimp only
  split
  · exact ht.trans (State.retry_keeps _ _)
  · exact ht

/-! ### The events of links and heads -/

theorem State.linkDown_kept {s t : State} {l : Fin 8} (ht : execLinkDown l s = .next t) : s.Kept t := by
  have hlost (u : State) (hu : (s.carrierLost l).Keeps u)
      (hlinks : ∀ lost : Fin 8 → Bool, s.linksRestBut lost → u.linksRestBut lost) : s.Kept u := by
    have hframe := (s.carrierLost_frame l)
    refine ⟨hu.memory, hu.pool, hu.directory, hu.flights, hu.queues, hlinks, hu.formats, hu.limits,
      fun ⟨hheads, hl, hnotices⟩ => hu.ranges ⟨hheads, fun m => ?_, hnotices⟩⟩
    unfold State.carrierLost
    rw [State.modLink_at]
    split
    · next hm => exact hl l
    · exact hl m
  unfold execLinkDown at ht
  split at ht
  · split at ht
    · next hnone =>
      cases ht
      refine hlost _ (.refl _) fun lost hs m => ?_
      have hm := State.carrierLost_links (l := l) hs m
      by_cases hml : m = l
      · subst hml
        simp only [State.carrierLost, State.modLink_at, if_true] at hm ⊢
        exact ⟨fun hd => ⟨fun _ => hnone, (hm.1 hd).2⟩, hm.2⟩
      · rwa [Function.update_of_ne hml] at hm
    · next r hr =>
      cases ht
      have hend : ∃ u, (s.carrierLost l).Keeps u ∧ (s.carrierLost l).endWithCarrier l r = u.idleContext l := by
        unfold State.endWithCarrier
        dsimp only
        split
        · exact ⟨_, State.countLink_keeps _ l _, rfl⟩
        · exact ⟨_, (State.countLink_keeps _ l _).trans (State.endReception_keeps _ _), rfl⟩
      obtain ⟨u, hu, heq⟩ := hend
      rw [heq]
      refine hlost _ (hu.trans (u.idleContext_keeps l)) fun lost hs m => ?_
      have hm := hu.links _ (State.carrierLost_links (l := l) hs) m
      by_cases hml : m = l
      · subst hml
        simp only [State.idleContext, State.modLink_at, if_true]
        exact ⟨fun hd => ⟨fun _ => rfl, (hm.1 hd).2⟩, hm.2⟩
      · simp only [State.idleContext, State.modLink_at, if_neg hml]
        rwa [Function.update_of_ne hml] at hm
  · cases ht
    exact (State.Keeps.refl s).toKept

theorem State.body_keeps {s t : State} {l : Fin 8} {kind : Byte} {f : Frame} (ht : execBody l kind f s = .next t) :
    s.Keeps t := by
  unfold execBody at ht
  split at ht
  · next ha =>
    split at ht
    · split at ht <;> cases ht
      · exact s.takeBody_keeps ha _
      · exact s.countLink_keeps l _
    · cases ht; exact s.countLink_keeps l _
  · cases ht; exact .refl s

theorem State.holdTimerExpiry_keeps {s t : State} {l : Fin 8} (ht : execHoldTimerExpiry l s = .next t) : s.Keeps t := by
  unfold execHoldTimerExpiry at ht
  split at ht
  · next hr =>
    split at ht <;> cases ht
    · exact s.sendHold_keeps (.inr hr)
    · exact s.stopHoldTimer_keeps l
  · cases ht; exact .refl s

theorem State.entryTake_keeps {s t : State} {h : Fin 4} (ht : execEntryTake h s = .next t) : s.Keeps t := by
  unfold execEntryTake at ht
  split at ht
  · next hc =>
    obtain ⟨hrun, hnone, -⟩ := hc
    split at ht
    · cases ht; exact .refl s
    · next e rest hq => cases ht; exact s.takeEntry_keeps hrun hnone hq
  · cases ht; exact .refl s

theorem State.stageCompletion_keeps {s t : State} {h : Fin 4} {motion : Nat} {r : Reading}
    (ht : execStageCompletion h motion r s = .next t) : s.Keeps t := by
  unfold execStageCompletion at ht
  split at ht
  · cases ht; exact .refl s
  · next e he =>
    split at ht
    · dsimp only at ht
      split at ht <;> cases ht
      · next hp => exact s.acquisitionReading_keeps he hp
      · next hp => exact s.positioningReading_keeps he hp
      · exact .refl s
      · exact .refl s
    · cases ht; exact .refl s

theorem State.photocellReport_keeps {s t : State} {h : Fin 4} {m : BitVec 16} (ht : execPhotocellReport h m s = .next t) :
    s.Keeps t := by
  have hlast := s.modHead_keeps (h := h) (f := fun k => { k with dose := { k.dose with last := m.toNat } })
    (.of_dose _ fun ⟨ht, ht', hth, hth', hp, hd, _⟩ => ⟨ht, ht', hth, hth', hp, hd, Nat.le_of_lt_succ m.isLt⟩)
  unfold execPhotocellReport at ht
  split at ht
  · cases ht; exact .refl s
  · next e he =>
    split at ht
    · next hp =>
      dsimp only at ht
      split at ht <;> cases ht
      · exact hlast.trans (State.enterFault_keeps _ h _)
      · refine hlast.trans (State.drawEnds_keeps _ ?_ hp _)
        rw [State.modHead_inFlight]
        · exact he
        · exact fun _ => rfl
    · cases ht; exact .refl s

/-! ### The host requests -/

theorem State.withdrawOwner_keeps (k : Key) (s : State) : s.Keeps (withdrawOwner k s).1 := by
  have hfree (v : Reserved) : s.Keeps (s.freeReserved v) :=
    (s.modHead_keeps (.of_queue _ fun hq => dropCellEntry_descending hq _ _)).trans (State.modCells_keeps _ _ _ _ _ _)
  have hcancel (u : State) (hu : s.Keeps u) (r : Record) : s.Keeps (u.cancelRetake r) :=
    (hu.trans (u.release_keeps _)).trans (State.updateRecord_keeps _ r.key (f := Record.retakeCancelled) fun _ => rfl)
  unfold withdrawOwner
  split
  · exact .refl s
  · split
    · exact .refl s
    · next r _ =>
      split
      · exact .refl s
      · exact .refl s
      · exact .refl s
      · exact (((s.markWithdrawn_keeps _).trans (State.release_keeps _ _)).trans (State.removeRecord_keeps _ _)).trans
          (State.judgeCutOff_keeps _ _)
      · exact (((s.leaveWaiting_keeps _ _).trans (State.release_keeps _ _)).trans (State.removeRecord_keeps _ _)).trans
          (State.judgeCutOff_keeps _ _)
      · unfold State.withdrawReserved
        split
        · exact (((hfree _).trans (State.release_keeps _ _)).trans (State.removeRecord_keeps _ _)).trans
            (State.indexingTest_keeps _ _)
        · exact (s.release_keeps _).trans (State.removeRecord_keeps _ _)
      · exact hcancel _ (s.markWithdrawn_keeps _) r
      · exact hcancel _ (s.leaveWaiting_keeps _ _) r
      · unfold State.withdrawRetakeReserved
        split
        · exact (hcancel _ (hfree _) r).trans (State.indexingTest_keeps _ _)
        · exact hcancel _ (.refl s) r

theorem State.voidOwner_keeps (k : Key) (s : State) : s.Keeps (voidOwner k s).1 := by
  unfold voidOwner
  split
  · exact .refl s
  · split
    · exact .refl s
    · split
      all_goals try exact .refl s
      split
      · exact .refl s
      · split
        · exact .refl s
        · exact (s.modCell_keeps _ _ _).trans (State.removeRecord_keeps _ _)

theorem State.rekeyPlace_keeps (new : Key) (s : State) (p : Place) : s.Keeps (s.rekeyPlace new p) := by
  unfold State.rekeyPlace
  split
  · exact s.modCells_keeps _ _ _ _ _
  · exact .refl s

/-- The directory with a record moved to a key that no record has (R95). -/
theorem State.moveRecord_keeps (s : State) {r : Record} {new : Key} (hr : r ∈ s.records) (hnew : s.findRecord new = none) :
    s.Keeps ((s.removeRecord r.key).addRecord { r with key := new }) := by
  refine .of_parts id id ?_ (fun _ => .refl _) (fun _ => .refl _) (fun _ => .refl _) rfl rfl id
  rintro ⟨hsorted, hlength⟩
  refine ⟨insertRecord_ordered (hsorted.sublist List.filter_sublist)
    fun x hx => State.findRecord_none hnew x (List.mem_filter.mp hx).1, ?_⟩
  have hlt : (s.records.filter fun x => decide (x.key ≠ r.key)).length < s.records.length :=
    List.length_filter_lt_length_iff_exists.mpr ⟨r, hr, by simp⟩
  simpa using Nat.lt_of_lt_of_le hlt hlength

theorem State.rekeyOwner_keeps (old new : Key) (s : State) : s.Keeps (rekeyOwner old new s).1 := by
  unfold rekeyOwner
  split
  · exact .refl s
  · split
    · exact .refl s
    · next r hr =>
      have hmove (hn : ¬ (s.findRecord new).isSome = true) : s.Keeps (s.rekeyRecord r new) := by
        have ht := (s.moveRecord_keeps (State.findRecord_some hr).1 (by simpa using hn)).trans
          (State.modWaiting_keeps _ r.series fun ks => ks.map fun x => if x = r.key then new else x)
        unfold State.rekeyRecord
        dsimp only
        split
        · split
          · exact ht.trans (State.modCells_keeps _ _ _ _ _ _)
          · exact ht
        · exact ht.trans (.foldl (State.rekeyPlace_keeps new) _ _)
        · exact ht
      split
      all_goals try exact .refl s
      all_goals
        split
        · exact .refl s
        · split
          · exact .refl s
          · next hn => exact hmove hn

theorem State.retireOwner_keeps (a b c : Word) (s : State) : s.Keeps (retireOwner a b c s).1 := by
  unfold retireOwner
  split
  · exact .refl s
  · split
    · exact .refl s
    · dsimp only
      split
      · exact .refl s
      · exact s.filterRecords_keeps _

/-- A change of formats and series alone that keeps them in agreement with the slots. -/
theorem State.Keeps.of_tables (s : State) {formats : Vector (Option Format) 4} {series : Vector Series 32}
    (h : s.slotsFit → ({ s with formats := formats, series := series } : State).slotsFit) :
    s.Keeps { s with formats := formats, series := series } :=
  ⟨⟨id, id, id, id, id, fun _ => id, h, id, id⟩, fun _ => id⟩

theorem State.setFormatOwner_keeps (index : Word) (f : Format) (s : State) : s.Keeps (setFormatOwner index f s).1 := by
  unfold setFormatOwner
  split
  · exact .refl s
  · next i _ =>
    split
    · exact .refl s
    · next hrange =>
      split
      · exact .refl s
      · next huse =>
        split
        · exact .refl s
        · next hvalid =>
          refine .of_tables s fun ⟨hf, hn, hslots⟩ => ?_
          have hfree (c : Fin 32) (hc : s.series[c].state ≠ .undefined) : s.series[c].format ≠ i := by
            simp only [State.formatInUse, List.any_eq_true, Bool.and_eq_true, decide_eq_true_eq, not_exists, not_and] at huse
            exact huse c (by simp [allSeries]) hc
          refine ⟨fun j g hg => ?_, fun c hc => ?_, fun j hj => ?_⟩
          · have hat := s.setFormatEntry_at i f j
            rw [State.setFormatEntry] at hat
            dsimp only at hat hg
            rw [hat] at hg
            split at hg
            · cases hg; exact ⟨by simpa using hrange, by simpa using hvalid⟩
            · exact hf j g hg
          · have hat := s.setFormatEntry_at i f s.series[c].format
            rw [if_neg (hfree c hc)] at hat
            exact fun he => hn c hc (hat ▸ he)
          · obtain ⟨hser, hfmt, hcells⟩ := hslots j hj
            have hat := s.setFormatEntry_at i f s.slots[j].format
            rw [if_neg (hfmt ▸ hfree _ hser)] at hat
            refine ⟨hser, hfmt, hcells.trans ?_⟩
            exact congrArg (fun o => (o.getD zeroFormat).cellCount) hat.symm

theorem State.seriesInSlot_eq_false {s : State} {c : Fin 32} (h : ¬ s.seriesInSlot c = true) :
    ∀ i : Fin 12, s.slots[i].state ≠ .free → s.slots[i].fiche.series ≠ c := by
  simp only [State.seriesInSlot, List.any_eq_true, Bool.and_eq_true, decide_eq_true_eq, not_exists, not_and] at h
  exact fun i hi => h i (by simp [allSlots]) hi

/-- A series is changed to a value that names a defined format, when its fiche in slots have that format. -/
theorem State.modSeries_keeps (s : State) (c : Fin 32) {f : Series → Series}
    (hformat : s.slotsFit → (f s.series[c]).state ≠ .undefined → s.formats[(f s.series[c]).format] ≠ none)
    (hslot : s.slotsFit → ∀ i : Fin 12, s.slots[i].state ≠ .free → s.slots[i].fiche.series = c →
      (f s.series[c]).state ≠ .undefined ∧ (f s.series[c]).format = s.series[c].format) :
    s.Keeps (s.modSeries c f) := by
  have hother (d : Fin 32) (hd : d ≠ c) : (s.modSeries c f).series[d] = s.series[d] := by
    rw [State.modSeries_at, if_neg hd]
  have hself : (s.modSeries c f).series[c] = f s.series[c] := by rw [State.modSeries_at, if_pos rfl]
  refine .of_tables s fun hs => ?_
  have hs' := hs
  obtain ⟨hvalid, hnamed, hslots⟩ := hs'
  refine ⟨hvalid, fun d hd => ?_, fun i hi => ?_⟩
  · change (s.modSeries c f).series[d].state ≠ _ at hd
    show s.formats[(s.modSeries c f).series[d].format] ≠ none
    by_cases hdc : d = c
    · subst hdc
      simp only [hself] at hd ⊢
      exact hformat hs hd
    · simp only [hother d hdc] at hd ⊢
      exact hnamed d hd
  · obtain ⟨hser, hfmt, hcells⟩ := hslots i hi
    show (s.modSeries c f).series[s.slots[i].fiche.series].state ≠ _ ∧
      s.slots[i].format = (s.modSeries c f).series[s.slots[i].fiche.series].format ∧ _
    by_cases hdc : s.slots[i].fiche.series = c
    · obtain ⟨hstate, hformat'⟩ := hslot hs i hi hdc
      simp only [hdc] at hfmt ⊢
      simp only [hself]
      exact ⟨hstate, hfmt.trans hformat'.symm, hcells⟩
    · simp only [hother _ hdc]
      exact ⟨hser, hfmt, hcells⟩

theorem State.setSeriesOwner_keeps (a b m n : Word) (x : Vector Word 7) (d : Word) (s : State) :
    s.Keeps (setSeriesOwner a b m n x d s).1 := by
  unfold setSeriesOwner
  split
  · next c v _ _ =>
    split
    · exact .refl s
    · next hcut =>
      split
      · exact .refl s
      · next hfmt =>
        split
        · exact .refl s
        · next hbusy =>
          have ht : s.Keeps (s.modSeries c (·.rewritten v)) := by
            refine s.modSeries_keeps c (fun _ _ => hfmt) fun ⟨_, _, hslots⟩ i hi hc => ?_
            exfalso
            subst hc
            cases hst : s.series[s.slots[i].fiche.series].state with
            | undefined => exact (hslots i hi).1 hst
            | cutOff => exact hcut hst
            | active =>
              refine hbusy ⟨hst, ?_⟩
              simp only [State.seriesBusy, Bool.or_eq_true]
              left; left
              by_contra hn
              exact State.seriesInSlot_eq_false hn i hi rfl
          dsimp only
          split
          · exact ht.trans (State.retry_keeps _ _)
          · exact ht
  · exact .refl s

theorem State.clearSeriesOwner_keeps (a : Word) (s : State) : s.Keeps (clearSeriesOwner a s).1 := by
  unfold clearSeriesOwner
  split
  · exact .refl s
  · split
    · exact .refl s
    · split
      · exact .refl s
      · next hfree =>
        rw [not_or] at hfree
        dsimp only
        exact s.modSeries_keeps _ (fun _ hu => absurd rfl hu) fun _ i hi hc =>
          absurd hc (State.seriesInSlot_eq_false hfree.2 i hi)

/-- A defined series changed to another defined state under its format. -/
theorem State.modSeries_keeps_of_defined (s : State) (c : Fin 32) {f : Series → Series}
    (hc : s.series[c].state ≠ .undefined) (hstate : (f s.series[c]).state ≠ .undefined)
    (hformat : (f s.series[c]).format = s.series[c].format) : s.Keeps (s.modSeries c f) :=
  s.modSeries_keeps c (fun ⟨_, hnamed, _⟩ _ => by simpa only [hformat] using hnamed c hc)
    fun _ _ _ _ => ⟨hstate, hformat⟩

theorem State.cutOffOwner_keeps (a : Word) (s : State) : s.Keeps (cutOffOwner a s).1 := by
  unfold cutOffOwner
  split
  · exact .refl s
  · split
    · exact .refl s
    · exact .refl s
    · next hst =>
      exact (s.modSeries_keeps_of_defined _ (f := fun v => { v with state := .cutOff }) (by rw [hst]; decide) nofun
        rfl).trans (State.judgeCutOff_keeps _ _)

theorem State.reopenOwner_keeps (a b : Word) (s : State) : s.Keeps (reopenOwner a b s).1 := by
  unfold reopenOwner
  split
  · exact .refl s
  · split
    · exact .refl s
    · split
      · exact .refl s
      · exact .refl s
      · next hst =>
        split
        · exact .refl s
        · exact (s.modSeries_keeps_of_defined _
            (f := fun v => { v with state := .active, date := b.toNat, next := 1, exhausted := false })
            (by rw [hst]; decide) nofun rfl).trans (State.retry_keeps _ _)

theorem mem_slotsOf_headOf : ∀ i : Fin 12, i ∈ slotsOf (headOf i) := by decide

/-- A head without fiche in its slots takes another roll, or none. -/
theorem State.modHead_keeps_of_roll (s : State) {h : Fin 4} {f : Head → Head}
    (hflight : s.heads[h].flightAgrees → (f s.heads[h]).flightAgrees) (hqueue : (f s.heads[h]).queue = s.heads[h].queue)
    (hrange : s.heads[h].inRange → (f s.heads[h]).inRange) (hnext : (f s.heads[h]).nextSheet ≤ (f s.heads[h]).sheets)
    (hfree : s.slotsLimited → ∀ i : Fin 12, s.slots[i].state ≠ .free → headOf i ≠ h) : s.Keeps (s.modHead h f) := by
  have hother (g : Fin 4) (hg : g ≠ h) : (s.modHead h f).heads[g] = s.heads[g] := by rw [State.modHead_at, if_neg hg]
  have hself : (s.modHead h f).heads[h] = f s.heads[h] := by rw [State.modHead_at, if_pos rfl]
  have hall (p : Head → Prop) (hp : p s.heads[h] → p (f s.heads[h])) (hs : ∀ g : Fin 4, p s.heads[g]) (g : Fin 4) :
      p (s.modHead h f).heads[g] := by
    by_cases hg : g = h
    · rw [hg, hself]; exact hp (hs h)
    · rw [hother g hg]; exact hs g
  refine ⟨⟨id, id, id, hall Head.flightAgrees hflight,
    hall (fun k => k.queue.Pairwise fun a b => b.cls ≤ a.cls) (by rw [hqueue]; exact id), fun _ => id, id,
    fun hs => ?_, fun ⟨hheads, hr⟩ => ⟨hall Head.inRange hrange hheads, hr⟩⟩, fun _ => id⟩
  have hs' := hs
  obtain ⟨hopen, hsheet, hslots, hsheets⟩ := hs'
  refine ⟨hopen, hsheet, fun i hi => ?_, hall (fun k => k.nextSheet ≤ k.sheets) (fun _ => hnext) hsheets⟩
  rw [hother _ (hfree hs i hi)]
  exact hslots i hi

theorem State.loadRollOwner_keeps (a b c d : Word) (s : State) : s.Keeps (loadRollOwner a b c d s).1 := by
  unfold loadRollOwner
  split
  · exact .refl s
  · next h _ =>
    split
    · exact .refl s
    · next harg =>
      split
      · exact .refl s
      · next hroll =>
        have hst : s.heads[h].state = .noRoll := by simpa using hroll
        have hload : s.Keeps (s.modHead h fun k => (k.rollLoaded b.toNat c.toNat (decide (d = 1))).unlocked) := by
          refine s.modHead_keeps_of_roll (fun hf => ?_) rfl
            (fun ⟨ht, hd, _, hc⟩ => ⟨Tracker.acquired_inRange ht, hd, ?_, hc⟩) (Nat.zero_le _)
            fun ⟨_, _, hslots, _⟩ i hi hh => ?_
          · have hnone := Head.inFlight_eq_none hf (by rw [hst]; decide) (by rw [hst]; decide)
            have hreads := Head.codeReads_eq_none hf (by rw [hnone]; nofun)
            revert hnone hreads
            generalize s.heads[h] = k
            intro hnone hreads
            refine ⟨?_, ?_, ?_, ?_, nofun, ?_⟩ <;> simp [Head.unlocked, Head.rollLoaded, hnone, hreads]
          · show b.toNat ≤ 250
            omega
          · have hstate := (hslots i hi).2
            simp only [hh] at hstate
            exact hstate hst
        refine State.Keeps.trans ?_ (State.retry_keeps _ _)
        rw [State.trackerAcquire_eq, State.modHead_modHead]
        split
        · exact hload.trans (State.raise_keeps _ _)
        · exact hload

theorem State.unloadRollOwner_keeps (a : Word) (s : State) : s.Keeps (unloadRollOwner a s).1 := by
  have hunload (h : Fin 4) (hr : s.heads[h].state ≠ .running) (hs : s.heads[h].state ≠ .stopping)
      (hfree : ¬ s.headInUse h = true) : s.Keeps (s.modHead h Head.rollUnloaded) := by
    refine s.modHead_keeps_of_roll (fun hf => ?_) rfl (fun ⟨ht, hd, _, hc⟩ => ⟨ht, hd, Nat.zero_le _, hc⟩) le_rfl
      fun _ i hi hh => hfree ?_
    · have hnone := Head.inFlight_eq_none hf hr hs
      obtain ⟨-, -, hp⟩ := hf
      exact ⟨fun hsome => absurd hsome (by rw [show s.heads[h].rollUnloaded.inFlight = none from hnone]; decide), nofun, hp⟩
    · subst hh
      exact List.any_eq_true.mpr ⟨i, mem_slotsOf_headOf i, by simpa using hi⟩
  unfold unloadRollOwner
  split
  · exact .refl s
  · split
    · exact .refl s
    · exact .refl s
    · exact .refl s
    · next hst =>
      split
      · exact .refl s
      · next hfree => exact hunload _ (by rw [hst]; decide) (by rw [hst]; decide) hfree
    · next hst =>
      split
      · exact .refl s
      · next hfree => exact (hunload _ (by rw [hst]; decide) (by rw [hst]; decide) hfree).trans (State.raise_keeps _ _)

theorem State.headStartOwner_keeps (a : Word) (s : State) : s.Keeps (headStartOwner a s).1 := by
  unfold headStartOwner
  split
  · exact .refl s
  · split
    · exact s.modHead_keeps (f := fun k => { k with state := .running }) (.started _)
    · exact s.modHead_keeps (f := fun k => { k with state := .running }) (.started _)
    · exact .refl s
    · exact .refl s
    · exact .refl s

theorem State.headStopOwner_keeps (a : Word) (s : State) : s.Keeps (headStopOwner a s).1 := by
  unfold headStopOwner
  split
  · exact .refl s
  · split
    · exact s.modHead_keeps (f := fun k => { k with state := if k.inFlight.isSome then .stopping else .ready })
        (.stopped _)
    all_goals exact .refl s

theorem State.headResetOwner_keeps (a : Word) (s : State) : s.Keeps (headResetOwner a s).1 := by
  have hreset (h : Fin 4) (hr : s.heads[h].state = .fault ∨ s.heads[h].state = .ready) : s.Keeps (s.resetHead h) := by
    have hk := s.modHead_keeps (f := fun k => ({ k with state := .ready, faultKind := none } : Head).unlocked) (.reset hr)
    unfold State.resetHead
    rw [State.trackerAcquire_eq, State.modHead_modHead]
    split
    · exact hk.trans (State.raise_keeps _ _)
    · exact hk
  unfold headResetOwner
  split
  · exact .refl s
  · split
    · next hst => exact ((hreset _ (.inl hst)).trans (State.raise_keeps _ _)).trans (State.retry_keeps _ _)
    · next hst => exact hreset _ (.inr hst)
    all_goals exact .refl s

theorem State.setTrackerOwner_keeps (a b : Word) (s : State) : s.Keeps (setTrackerOwner a b s).1 := by
  unfold setTrackerOwner
  split
  · exact .refl s
  · split
    · exact .refl s
    · exact s.modHead_keeps (f := fun k => { k with tracker := { k.tracker with holdLock := decide (b = 1) } })
        (.of_flight id id id ⟨rfl, rfl, rfl, rfl, rfl⟩)

theorem State.setDoseOwner_keeps (a b c : Word) (s : State) : s.Keeps (setDoseOwner a b c s).1 := by
  unfold setDoseOwner
  split
  · exact .refl s
  · split
    · exact .refl s
    · next harg =>
      refine s.modHead_keeps (f := fun k => { k with dose := { k.dose with target := b.toNat, threshold := c.toNat } })
        (.of_dose _ fun ⟨_, _, _, _, hp, hd, hl⟩ => ⟨?_, ?_, ?_, ?_, hp, hd, hl⟩) <;> dsimp only <;> omega

theorem State.readStatisticsOwner_keeps (a b : Word) (s : State) : s.Keeps (readStatisticsOwner a b s).1 := by
  unfold readStatisticsOwner
  split
  · split
    · exact s.modLink_keeps (f := fun k => { k with counters := Vector.replicate 11 0 })
        ⟨fun _ => id, fun _ c => by simp, id⟩
    · exact .refl s
  · split
    · split
      · exact s.modHead_keeps (f := fun k => { k with counters := Vector.replicate 7 0 }) ⟨id, id, fun ⟨ht, hd, hs, _⟩ => ⟨ht, hd, hs, fun c => by simp⟩,
          rfl, rfl, id⟩
      · exact .refl s
    · exact .refl s

theorem State.readNoticeOwner_keeps (s : State) : s.Keeps (readNoticeOwner s).1 := by
  unfold readNoticeOwner
  split
  · exact .refl s
  · next n rest hn =>
    have ht := s.modPort_keeps (f := fun p => { p with notices := rest }) fun h => by
      rw [hn] at h
      exact (Nat.le_succ _).trans h
    dsimp only
    split
    · exact ht.trans (State.raise_keeps _ _)
    · exact ht

/-- Every owner keeps the invariants of the tables. -/
theorem owner_keeps {i : Instr} {q : HostRequest} (h : requestOf i = some q) (s : State) : s.Keeps (q.owner s).1 := by
  cases i <;> simp only [requestOf, Option.some.injEq, reduceCtorEq] at h <;> subst h
  case withdraw => exact State.withdrawOwner_keeps _ s
  case void => exact State.voidOwner_keeps _ s
  case rekey => exact State.rekeyOwner_keeps _ _ s
  case retireFiche => exact State.retireOwner_keeps _ _ _ s
  case setFormat => exact State.setFormatOwner_keeps _ _ s
  case setSeries => exact State.setSeriesOwner_keeps _ _ _ _ _ _ s
  case clearSeries => exact State.clearSeriesOwner_keeps _ s
  case cutOffSeries => exact State.cutOffOwner_keeps _ s
  case reopenSeries => exact State.reopenOwner_keeps _ _ s
  case loadRoll => exact State.loadRollOwner_keeps _ _ _ _ s
  case unloadRoll => exact State.unloadRollOwner_keeps _ s
  case headStart => exact State.headStartOwner_keeps _ s
  case headStop => exact State.headStopOwner_keeps _ s
  case headReset => exact State.headResetOwner_keeps _ s
  case setTracker => exact State.setTrackerOwner_keeps _ _ s
  case setDose => exact State.setDoseOwner_keeps _ _ _ s
  case readStatistics => exact State.readStatisticsOwner_keeps _ _ s
  case readNotice => exact s.readNoticeOwner_keeps
  case closeFiche =>
    simp only [closeFicheOwner]
    split
    · exact .refl s
    · split
      · exact .refl s
      all_goals exact s.closeFiche_keeps _
  case find => simp only [findOwner]; split_ifs <;> [exact .refl s; (split <;> exact .refl s)]
  case findNext => simp only [findNextOwner]; split_ifs <;> [exact .refl s; (split <;> exact .refl s)]
  case readFormat => simp only [readFormatOwner]; split <;> [exact .refl s; (split <;> exact .refl s)]
  case tryFit =>
    simp only [tryFitOwner]
    split
    · exact .refl s
    · split
      · exact .refl s
      · split
        · exact .refl s
        · split <;> exact .refl s
  case readSeries => simp only [readSeriesOwner]; split <;> [exact .refl s; exact .of_same (by simp)]
  case ficheStatus =>
    simp only [ficheStatusOwner]
    split
    · exact .refl s
    · split_ifs <;> exact .refl s
  case setAdmission =>
    simp only [setAdmissionOwner]
    split
    · split_ifs
      · exact .refl s
      · exact .refl s
      · exact .of_same (by simp)
    · exact .refl s
  case readAdmission => simp only [readAdmissionOwner]; split <;> exact .refl s
  case linkStatus => simp only [linkStatusOwner]; split <;> exact .refl s
  case setHold => simp only [setHoldOwner]; split <;> [exact .refl s; exact .of_same (by simp)]
  case stagingStatus => exact .refl s
  case headStatus => simp only [headStatusOwner]; split <;> [exact .refl s; exact .of_same (by simp)]
  case trackerStatus => simp only [trackerStatusOwner]; split <;> exact .refl s
  case doseStatus => simp only [doseStatusOwner]; split <;> exact .refl s
  case readEvents => exact .refl s
  case setEventEnables => simp only [setEventEnablesOwner]; split <;> [exact .refl s; exact .of_same (by simp)]
  case acknowledgeEvents => simp only [acknowledgeEventsOwner]; split <;> [exact .refl s; exact .of_same (by simp)]

theorem State.finishRequest_keeps (s : State) (b : Nat) (r : Response) : s.Keeps (s.finishRequest b r) :=
  s.modPort_keeps fun h => by
    split
    · exact h
    · split <;> exact h

theorem State.request_keeps (s : State) {code : Nat} {body : List Word} {owner : State → State × Response}
    (ho : ∀ u : State, u.Keeps (owner u).1) : s.Keeps (s.request code body owner) := by
  have hwrite : s.Keeps (s.writeRequest (requestMessage code body)) := s.modPort_keeps id
  unfold State.request
  split
  · exact ((hwrite.trans (State.modPort_keeps _ id)).trans (ho _)).trans (State.finishRequest_keeps _ _ _)
  · split
    · exact (ho s).trans (State.finishRequest_keeps _ _ _)
    · exact hwrite.trans (State.raise_keeps _ _)

/-! ### Every command and every step -/

theorem exec_kept {c : Instr} {s t : State} (hc : ∀ b, c ≠ .powerOn b) (h : exec c s = .next t) : s.Kept t := by
  cases hq : requestOf c with
  | some q =>
    rw [exec_request hq] at h
    cases h
    exact (s.request_keeps (owner_keeps hq)).toKept
  | none =>
    cases c <;> simp only [requestOf, reduceCtorEq] at hq <;> simp only [exec] at h
    case powerOn b => exact absurd rfl (hc b)
    case go buffer =>
      have hbuffer : s.Keeps (s.modPort fun p => { p with requestBuffer := buffer }) := s.modPort_keeps id
      unfold execGo at h
      dsimp only at h
      split at h
      · cases h; exact (hbuffer.trans (State.raise_keeps _ _)).toKept
      · have hstart := hbuffer.trans (State.modPort_keeps _ (f := fun p =>
          { p with done := false, execution := some ⟨p.requestBuffer, false⟩ }) id)
        split at h <;> cases h
        · exact hstart.toKept
        · exact (hstart.trans (State.finishRequest_keeps _ _ _)).toKept
    case portClear => cases h; exact (s.modPort_keeps fun _ => Nat.zero_le _).toKept
    case linkActive l => cases h; exact (s.carrierAppears_keeps l).toKept
    case linkDown l => exact State.linkDown_kept h
    case submitHead l f => cases h; exact (s.takeFixed_keeps fun ha => s.takeHead_keeps ha _).toKept
    case body l k f => exact (State.body_keeps h).toKept
    case submitEnd l f => cases h; exact (s.takeFixed_keeps fun _ => s.takeEnd_keeps l _).toKept
    case probe l f => cases h; exact (s.takeFixed_keeps fun _ => s.takeProbe_keeps l).toKept
    case receptionTimerExpiry l =>
      unfold execReceptionTimerExpiry at h
      split at h <;> cases h
      · exact (s.endRunning_keeps l _).toKept
      · exact (State.Keeps.refl s).toKept
    case holdTimerExpiry l => exact (State.holdTimerExpiry_keeps h).toKept
    case serveWaitingLists =>
      unfold execServeWaitingLists at h
      split at h
      · obtain rfl := Host.Outcome.next.inj h
        exact (State.Keeps.refl s).toKept
      · next e rest _ =>
        obtain rfl := Host.Outcome.next.inj h
        exact (State.Keeps.trans (t := { s with retryEvents := rest }) (.of_same (by simp)) (State.servePass_keeps _)).toKept
    case entryTake g => exact (State.entryTake_keeps h).toKept
    case transportArrival g m => exact (State.transportArrival_keeps h).toKept
    case sheetCodeRead g v => exact (State.sheetCodeRead_keeps h).toKept
    case transportTimeout g =>
      unfold execTransportTimeout at h
      split at h <;> cases h
      · exact (s.enterFault_keeps g _).toKept
      · exact (State.Keeps.refl s).toKept
    case stageTimeout g =>
      unfold execStageTimeout at h
      split at h <;> cases h
      · exact (s.enterFault_keeps g _).toKept
      · exact (State.Keeps.refl s).toKept
    case stageCompletion g m r => exact (State.stageCompletion_keeps h).toKept
    case photocellReport g m => exact (State.photocellReport_keeps h).toKept
    case jam g =>
      unfold execJam at h
      split at h <;> cases h
      · exact (s.enterFault_keeps g _).toKept
      · exact (s.enterFault_keeps g _).toKept
      · exact (s.enterFault_keeps g _).toKept
      · exact (State.Keeps.refl s).toKept
      · exact (State.Keeps.refl s).toKept

/-- A step idles or runs the front command of the queue. -/
theorem step_cases {s t : State} (h : step s = .next t) :
    t = s ∨ ∃ c rest, s.pending = c :: rest ∧ exec c { s with pending := rest } = .next t := by
  unfold step at h
  split at h
  · cases h; exact .inl rfl
  · next c rest hp => exact .inr ⟨c, rest, hp, h⟩

/-- The state in which a power-on leaves the part before the carriers present appear (R183). -/
abbrev State.powered (pending : List Instr) (freeCount : Nat) : State :=
  { State.reset with pending := pending, freeCount := freeCount }

/-- A step keeps what the state before it meets, or what the state right after a power-on does. -/
theorem step_kept {s t : State} (h : step s = .next t) : s.Kept t ∨ ∃ p n, (State.powered p n).Kept t := by
  rcases step_cases h with rfl | ⟨c, rest, -, hc⟩
  · exact .inl (State.Keeps.refl t).toKept
  · have hpop : s.Keeps { s with pending := rest } := .of_same (by simp)
    by_cases hp : ∃ b, c = .powerOn b
    · obtain ⟨b, rfl⟩ := hp
      cases hc
      refine .inr ⟨rest, s.freeCount, (State.Keeps.foldl (fun u l => ?_) _ _).toKept⟩
      split
      · exact u.carrierAppears_keeps l
      · exact .refl u
    · exact .inl (hpop.toKept.trans (exec_kept (fun b hb => hp ⟨b, hb⟩) hc))

/-- An invariant that the step keeps when it does not power on, and that holds right after a power-on. -/
theorem step_keeps {P : State → Prop} (hkept : ∀ u t : State, u.Kept t → P u → P t) (hreset : ∀ p n, P (State.powered p n))
    {s t : State} (hs : P s) (h : step s = .next t) : P t := by
  rcases step_kept h with hk | ⟨p, n, hk⟩
  · exact hkept s t hk hs
  · exact hkept _ t hk (hreset p n)

end Sys2Proof.Machine
end

section
/-! The state right after power-on, and the invariants of the tables at every step. -/

namespace Sys2Proof.Machine

open Sys2Proof

theorem reset_flightsAgree : State.reset.flightsAgree := by
  intro h
  simp [State.reset, Head.reset, Tracker.reset, Head.flightAgrees]

theorem reset_queuesDescend : State.reset.queuesDescend := by
  intro h
  simp [State.reset, Head.reset]

theorem reset_linksRest : State.reset.linksRest := by
  intro l
  simp [State.reset, Link.reset, Link.restsDown]

theorem reset_slotsFit : State.reset.slotsFit := by
  refine ⟨fun i => ?_, fun c => ?_, fun i => ?_⟩ <;> simp [State.reset, Series.reset, Slot.reset]

theorem reset_slotsLimited : State.reset.slotsLimited := by
  refine ⟨fun i j => ?_, fun i j => ?_, fun i => ?_, fun h => ?_⟩ <;>
    simp [State.reset, Slot.reset, Head.reset]

theorem reset_inRange : State.reset.inRange := by
  refine ⟨fun h => ?_, fun l c => ?_, ?_⟩ <;>
    simp [State.reset, Head.reset, Tracker.reset, Dose.reset, Link.reset, Port.reset, Config.windowDraws,
      Head.inRange, Tracker.inRange, Dose.inRange]

theorem reset_recordsAgree : State.reset.recordsAgree := by
  refine ⟨?_, fun c => ?_, ⟨fun l => ?_, ?_⟩, ⟨?_, fun i => ?_⟩, ⟨fun h => ?_, ?_⟩, fun i => ?_⟩ <;>
    simp [State.reset, Link.reset, Slot.reset, Head.reset]

/-- Settles O52: every table is empty right after power-on. -/
theorem invariantsAtReset : Obligations.InvariantsAtReset := by
  refine ⟨reset_memory_wf, ?_, ?_, reset_flightsAgree, reset_queuesDescend, reset_linksRest, reset_slotsFit,
    reset_slotsLimited, reset_inRange, ?_, reset_recordsAgree, ?_⟩ <;>
    simp [State.reset, State.poolOrdered, State.directoryOrdered, State.blocksOwned, State.filmAgrees]

/-- Settles O55: the two invariants of the heads are kept by every change of a head. -/
theorem headsKept : Obligations.HeadsKept := fun _ _ hf hq h =>
  ⟨step_keeps (fun _ _ hk => hk.flights) (fun _ _ => reset_flightsAgree) hf h,
    step_keeps (fun _ _ hk => hk.queues) (fun _ _ => reset_queuesDescend) hq h⟩

theorem State.linksRestBut_none (s : State) : s.linksRestBut (fun _ => false) ↔ s.linksRest := by
  simp [State.linksRestBut, State.linksRest, Link.restsBut, Link.restsDown]

/-- Settles O56: outside the loss of a carrier no link is left out, and a loss ends the reception of its link. -/
theorem linksKept : Obligations.LinksKept := fun _ _ hs h =>
  step_keeps (fun u t hk hu => t.linksRestBut_none.mp (hk.links _ (u.linksRestBut_none.mpr hu)))
    (fun _ _ => reset_linksRest) hs h

/-- Settles O57: formats and series change only while no fiche names them, and an opening makes a map of R × C cells. -/
theorem slotFormatsKept : Obligations.SlotFormatsKept := fun _ _ hs h =>
  step_keeps (fun _ _ hk => hk.formats) (fun _ _ => reset_slotsFit) hs h

/-- Settles O58: a fiche is opened on a new sheet of a head with a roll, for a series without an OPEN fiche. -/
theorem slotLimitsKept : Obligations.SlotLimitsKept := fun _ _ hs h =>
  step_keeps (fun _ _ hk => hk.limits) (fun _ _ => reset_slotsLimited) hs h

/-- Settles O59: every change of a tracker, a dose monitor, a roll, a counter or the notice queue keeps its range. -/
theorem rangesKept : Obligations.RangesKept := fun _ _ hs h =>
  step_keeps (fun _ _ hk => hk.ranges) (fun _ _ => reset_inRange) hs h

end Sys2Proof.Machine
end

section
/-! The ownership of blocks (R128, R131): the used blocks are the union of the records' block lists, through every change of a
record and of the pool. -/

namespace Sys2Proof.Machine

/-! ### How many blocks a search gives -/

theorem length_freeFrom {used : List Nat} {fuel b need : Nat}
    (h : need ≤ (List.range' b fuel).countP fun x => !used.contains x) : (freeFrom used fuel b need).length = need := by
  induction fuel generalizing b need with
  | zero =>
    have hz : need = 0 := by simpa using h
    simp [freeFrom, hz]
  | succ n ih =>
    cases need with
    | zero => simp [freeFrom]
    | succ m =>
      rw [List.range'_succ, List.countP_cons] at h
      unfold freeFrom
      split
      · next hu =>
        have hb : b ∈ used := by simpa using hu
        exact ih (by simpa [hb] using h)
      · next hu =>
        have hb : b ∉ used := by simpa using hu
        simpa using ih (by simpa [hb] using h)

/-- As many blocks of the pool are free as are not used. -/
theorem countP_free {used : List Nat} {n : Nat} (h : used.Pairwise (· < ·) ∧ ∀ b ∈ used, b < n) :
    (List.range n).countP (fun x => !used.contains x) = n - used.length := by
  obtain ⟨hsorted, hlt⟩ := h
  have hperm : ((List.range n).filter fun x => used.contains x).Perm used := by
    refine (List.perm_ext_iff_of_nodup (List.nodup_range.filter _) (hsorted.imp Nat.ne_of_lt)).mpr fun x => ?_
    simp only [List.mem_filter, List.mem_range, List.contains_iff_mem]
    exact ⟨fun hx => hx.2, fun hx => ⟨hlt x hx, hx⟩⟩
  have hall := List.length_eq_countP_add_countP (fun x => used.contains x) (l := List.range n)
  rw [List.length_range, List.countP_eq_length_filter, hperm.length_eq] at hall
  have hnot : (List.range n).countP (fun x => !used.contains x) =
      (List.range n).countP fun a => decide ¬ used.contains a = true := by
    congr 1; funext x; simp
  omega

theorem length_lowestFree {used : List Nat} {need : Nat}
    (h : used.Pairwise (· < ·) ∧ ∀ b ∈ used, b < Config.blockCount) (hn : need ≤ Config.blockCount - used.length) :
    (lowestFree used need).length = need :=
  length_freeFrom (by rw [← List.range_eq_range', countP_free h]; exact hn)

theorem mem_foldl_insertBlock {bs u : List Nat} {x : Nat} :
    x ∈ bs.foldl (fun u b => insertBlock b u) u ↔ x ∈ bs ∨ x ∈ u := by
  induction bs generalizing u with
  | nil => simp
  | cons b rest ih => simp only [List.foldl_cons, ih, mem_insertBlock, List.mem_cons]; tauto

theorem pairwise_insertRecord {R : Record → Record → Prop} {r : Record} {rs : List Record}
    (hr : ∀ x ∈ rs, R r x ∧ R x r) (h : rs.Pairwise R) : (insertRecord r rs).Pairwise R := by
  induction rs with
  | nil => simp [insertRecord]
  | cons y rest ih =>
    simp only [List.pairwise_cons, List.mem_cons, forall_eq_or_imp] at h hr
    unfold insertRecord
    split
    · simp only [List.pairwise_cons, List.mem_cons, forall_eq_or_imp]
      exact ⟨⟨hr.1.1, fun x hx => (hr.2 x hx).1⟩, h⟩
    · refine List.pairwise_cons.mpr ⟨fun x hx => ?_, ih hr.2 h.2⟩
      rcases mem_insertRecord.mp hx with rfl | hx
      · exact hr.1.2
      · exact h.1 x hx

/-! ### Ownership -/

/-- The directory and the pool are in order, and the used blocks are those of the records. -/
abbrev State.owned (s : State) : Prop := s.directoryOrdered ∧ s.poolOrdered ∧ s.blocksOwned

/-- Records of an ordered directory with one key are one record. -/
theorem State.record_unique {s : State} (h : s.directoryOrdered) {r x : Record} {k : Key} (hr : s.findRecord k = some r)
    (hx : x ∈ s.records) (hk : x.key = k) : x = r := by
  have := State.findRecord_of_mem h.1 hx
  rw [hk, hr] at this
  exact (Option.some.inj this).symm

theorem State.blocks_disjoint {s : State} (h : s.blocksOwned) {x y : Record} (hx : x ∈ s.records) (hy : y ∈ s.records)
    (hne : x ≠ y) : ∀ b ∈ blocksOf x.image, b ∉ blocksOf y.image :=
  have : Std.Symm fun x y : Record => ∀ b ∈ blocksOf x.image, b ∉ blocksOf y.image :=
    ⟨fun _ _ hab b hb ha => hab b ha hb⟩
  h.2.2.forall hx hy hne

/-- Every operation that leaves records and pool keeps the ownership. -/
theorem State.owned_of_same {s t : State} (records : t.records = s.records) (used : t.used = s.used)
    (h : s.owned) : t.owned := by
  obtain ⟨hd, hp, ho⟩ := h
  refine ⟨?_, ?_, ?_⟩
  · simpa only [State.directoryOrdered, records] using hd
  · simpa only [State.poolOrdered, used] using hp
  · simpa only [State.blocksOwned, records, used] using ho

/-- A change of records that leaves keys and images, and moves none to EXPOSED or from it. -/
theorem State.owned_updateRecord {s : State} {k : Key} {f : Record → Record} (hkey : ∀ r, (f r).key = r.key)
    (himage : ∀ r, (f r).image = r.image) (hstate : ∀ r, (f r).state = .exposed ↔ r.state = .exposed) (h : s.owned) :
    (s.updateRecord k f).owned := by
  obtain ⟨hd, hp, hfit, huse, hdisj⟩ := h
  have hkeeps := s.updateRecord_keeps k hkey
  have himg : ∀ r : Record, (if r.key = k then f r else r).image = r.image := fun r => by split <;> simp [himage]
  have hst : ∀ r : Record, (if r.key = k then f r else r).state = .exposed ↔ r.state = .exposed :=
    fun r => by split <;> simp [hstate]
  refine ⟨hkeeps.directory hd, hkeeps.pool hp, ?_, ?_, ?_⟩
  · intro x hx
    obtain ⟨r, hr, rfl⟩ := List.mem_map.mp hx
    simpa only [Record.imageFits, himg, ne_eq, hst] using hfit r hr
  · intro b
    simp only [State.updateRecord_used, State.updateRecord_records, List.mem_map, exists_exists_and_eq_and, himg]
    exact huse b
  · simpa only [State.updateRecord_records, List.pairwise_map, himg] using hdisj

/-- A record leaves the directory and its blocks the pool. -/
theorem State.owned_of_removed {s t : State} {k : Key} {r : Record} (hr : s.findRecord k = some r)
    (hrecords : t.records = s.records.filter fun x => decide (x.key ≠ k))
    (hused : t.used = s.used.filter fun b => !(blocksOf r.image).contains b) (h : s.owned) : t.owned := by
  obtain ⟨hd, hp, ho⟩ := h
  obtain ⟨hmem, hkey⟩ := State.findRecord_some hr
  refine ⟨?_, ?_, ?_, ?_, ?_⟩
  · simpa only [State.directoryOrdered, hrecords, State.removeRecord_records] using (s.removeRecord_keeps k).directory hd
  · simp only [State.poolOrdered, hused]
    exact ⟨hp.1.sublist List.filter_sublist, fun b hb => hp.2 b (List.mem_filter.mp hb).1⟩
  · intro x hx
    rw [hrecords] at hx
    exact ho.1 x (List.mem_filter.mp hx).1
  · intro b
    simp only [hused, hrecords, List.mem_filter, Bool.not_eq_true', List.contains_eq_mem, decide_eq_false_iff_not,
      decide_eq_true_eq, ho.2.1 b]
    constructor
    · rintro ⟨⟨x, hx, hb⟩, hnot⟩
      refine ⟨x, ⟨hx, fun hxk => hnot ?_⟩, hb⟩
      rwa [← State.record_unique hd hr hx hxk]
    · rintro ⟨x, ⟨hx, hxk⟩, hb⟩
      exact ⟨⟨x, hx, hb⟩, State.blocks_disjoint ho hx hmem (fun he => hxk (he ▸ hkey)) b hb⟩
  · rw [hrecords]
    exact ho.2.2.sublist List.filter_sublist

/-- A record becomes EXPOSED without an image part, and its blocks leave the pool. -/
theorem State.owned_of_cleared {s t : State} {k : Key} {r : Record} {f : Record → Record} (hr : s.findRecord k = some r)
    (hkey : ∀ x, (f x).key = x.key) (himage : ∀ x, (f x).image = none) (hstate : ∀ x, (f x).state = .exposed)
    (hrecords : t.records = s.records.map fun x => if x.key = k then f x else x)
    (hused : t.used = s.used.filter fun b => !(blocksOf r.image).contains b) (h : s.owned) : t.owned := by
  obtain ⟨hd, hp, ho⟩ := h
  obtain ⟨hmem, hrk⟩ := State.findRecord_some hr
  have hblocks (x : Record) (b : Nat) :
      b ∈ blocksOf (if x.key = k then f x else x).image ↔ x.key ≠ k ∧ b ∈ blocksOf x.image := by
    split
    · next hx => simp [himage, hx, blocksOf]
    · next hx => simp [hx]
  refine ⟨?_, ?_, ?_, ?_, ?_⟩
  · simpa only [State.directoryOrdered, hrecords, State.updateRecord_records] using (s.updateRecord_keeps k hkey).directory hd
  · simp only [State.poolOrdered, hused]
    exact ⟨hp.1.sublist List.filter_sublist, fun b hb => hp.2 b (List.mem_filter.mp hb).1⟩
  · intro x hx
    rw [hrecords] at hx
    obtain ⟨y, hy, rfl⟩ := List.mem_map.mp hx
    split
    · simp [Record.imageFits, himage, hstate]
    · exact ho.1 y hy
  · intro b
    simp only [hused, hrecords, List.mem_filter, Bool.not_eq_true', List.contains_eq_mem, decide_eq_false_iff_not,
      List.mem_map, exists_exists_and_eq_and, hblocks, ho.2.1 b]
    constructor
    · rintro ⟨⟨x, hx, hb⟩, hnot⟩
      refine ⟨x, hx, fun hxk => hnot ?_, hb⟩
      rwa [← State.record_unique hd hr hx hxk]
    · rintro ⟨x, hx, hxk, hb⟩
      exact ⟨⟨x, hx, hb⟩, State.blocks_disjoint ho hx hmem (fun he => hxk (he ▸ hrk)) b hb⟩
  · rw [hrecords, List.pairwise_map]
    exact ho.2.2.imp fun hxy b hb hb' => hxy b ((hblocks _ b).mp hb).2 ((hblocks _ b).mp hb').2

theorem State.release_used (s : State) (blocks : List Nat) :
    (s.release blocks).used = s.used.filter fun b => !blocks.contains b := by
  simp [State.release]

/-- A record is created with the blocks that its image needs, taken from the free ones (R11). -/
theorem State.owned_addClaim {s t : State} {c : Claim} {blocks : List Nat} (hc : s.claimFailure c = none)
    (hnew : c.retake = false) (ha : s.allocate (blockNeed c.width c.height) = some (blocks, t)) (h : s.owned) :
    (t.addRecord (c.record blocks)).owned := by
  obtain ⟨hd, hp, hfit, huse, hdisj⟩ := h
  have hkeeps := State.allocate_keeps ha
  obtain ⟨hneed, rfl, rfl⟩ := State.allocate_some ha
  obtain ⟨hnone, hroom⟩ := State.claimFailure_new hc hnew
  refine ⟨(State.addRecord_keeps _ (by simpa [Claim.record] using State.findRecord_none hnone) (by simpa using hroom)).directory
    (hkeeps.directory hd), hkeeps.pool hp, ?_, ?_, ?_⟩
  · intro x hx
    simp only [State.addRecord_records, mem_insertRecord, State.judgeHold_frame] at hx
    rcases hx with rfl | hx
    · refine ⟨by simp [Claim.record], fun m hm => ?_⟩
      cases hm
      exact ⟨freeFrom_ascending _ _ _ _, length_lowestFree hp hneed⟩
    · exact hfit x hx
  · intro b
    simp only [State.addRecord_records, State.addRecord_used, State.judgeHold_frame, mem_foldl_insertBlock,
      mem_insertRecord, huse b]
    constructor
    · rintro (hb | ⟨x, hx, hb⟩)
      · exact ⟨_, .inl rfl, hb⟩
      · exact ⟨x, .inr hx, hb⟩
    · rintro ⟨x, rfl | hx, hb⟩
      · exact .inl hb
      · exact .inr ⟨x, hx, hb⟩
  · have hfree : ∀ x ∈ s.records, ∀ b ∈ blocksOf x.image,
        b ∉ blocksOf (c.record (lowestFree s.used (blockNeed c.width c.height))).image :=
      fun x hx b hb hb' => (mem_lowestFree hb').2 ((huse b).mpr ⟨x, hx, hb⟩)
    simp only [State.addRecord_records, State.judgeHold_frame]
    exact pairwise_insertRecord (fun x hx => ⟨fun b hb hb' => hfree x hx b hb' hb, hfree x hx⟩) hdisj

/-- What a retake claim that passes its checks says of the record (R12). -/
theorem State.claimFailure_retake {s : State} {c : Claim} (h : s.claimFailure c = none) (hr : c.retake = true) :
    ∃ r, s.findRecord c.key = some r ∧ r.series = c.series ∧ r.state = .exposed ∧ r.superseded.length < 3 := by
  unfold State.claimFailure at h
  rw [hr] at h
  cases hf : s.findRecord c.key with
  | none => simp [hf] at h
  | some r =>
    by_cases hs : r.series = c.series
    · cases hst : r.state <;> simp [hf, hs, hst] at h
      exact ⟨r, rfl, hs, hst, h⟩
    · simp [hf, hs] at h

/-- An EXPOSED record takes the blocks of a retake (R12). -/
theorem State.owned_retakeClaim {s t : State} {c : Claim} {blocks : List Nat} (hc : s.claimFailure c = none)
    (hretake : c.retake = true) (ha : s.allocate (blockNeed c.width c.height) = some (blocks, t)) (h : s.owned) :
    (t.updateRecord c.key fun r => r.retaken c blocks).owned := by
  obtain ⟨hd, hp, hfit, huse, hdisj⟩ := h
  have hkeeps := State.allocate_keeps ha
  obtain ⟨hneed, rfl, rfl⟩ := State.allocate_some ha
  obtain ⟨r, hr, -, hst, -⟩ := State.claimFailure_retake hc hretake
  obtain ⟨hmem, hrk⟩ := State.findRecord_some hr
  have himage : r.image = none := by
    by_contra hn
    exact (hfit r hmem).1.mp hn hst
  have hfree : ∀ x ∈ s.records, ∀ b ∈ blocksOf x.image, b ∉ lowestFree s.used (blockNeed c.width c.height) :=
    fun x hx b hb hb' => (mem_lowestFree hb').2 ((huse b).mpr ⟨x, hx, hb⟩)
  refine ⟨(State.updateRecord_keeps _ c.key (f := fun r => r.retaken c _) fun _ => rfl).directory (hkeeps.directory hd),
    hkeeps.pool hp, ?_, ?_, ?_⟩
  · intro x hx
    simp only [State.updateRecord_records, State.judgeHold_frame] at hx
    obtain ⟨y, hy, rfl⟩ := List.mem_map.mp hx
    split
    · refine ⟨by simp [Record.retaken], fun m hm => ?_⟩
      cases hm
      exact ⟨freeFrom_ascending _ _ _ _, length_lowestFree hp hneed⟩
    · exact hfit y hy
  · intro b
    simp only [State.updateRecord_records, State.updateRecord_used, State.judgeHold_frame, mem_foldl_insertBlock,
      List.mem_map, exists_exists_and_eq_and, huse b]
    constructor
    · rintro (hb | ⟨x, hx, hb⟩)
      · exact ⟨r, hmem, by rw [if_pos hrk]; exact hb⟩
      · refine ⟨x, hx, ?_⟩
        rw [if_neg]
        · exact hb
        · intro hxk
          rw [State.record_unique hd hr hx hxk, himage] at hb
          cases hb
    · rintro ⟨x, hx, hb⟩
      split at hb
      · exact .inl hb
      · exact .inr ⟨x, hx, hb⟩
  · simp only [State.updateRecord_records, State.judgeHold_frame, List.pairwise_map]
    refine List.Pairwise.imp_of_mem (fun {x y} hx hy hxy => ?_) (hdisj.and hd.1)
    obtain ⟨hxy, hbefore⟩ := hxy
    have hne : ¬ (x.key = c.key ∧ y.key = c.key) := fun ⟨h1, h2⟩ => by
      rw [h1, ← h2, Key.before_irrefl] at hbefore
      cases hbefore
    split <;> split
    · next h1 h2 => exact absurd ⟨h1, h2⟩ hne
    · exact fun b hb hb' => hfree y hy b hb' hb
    · exact fun b hb hb' => hfree x hx b hb hb'
    · exact hxy

end Sys2Proof.Machine
end

section
/-! The ownership of blocks is kept by every operation on records, and by every step (R5, R128 to R132). -/

namespace Sys2Proof.Machine

/-! ### Cells for records -/

theorem Record.granted_exposed (r : Record) (v : Reserved) : (r.granted v).state = .exposed ↔ r.state = .exposed := by
  cases h : r.state <;> simp [Record.granted, h]

theorem Record.taken_exposed (r : Record) : r.taken.state = .exposed ↔ r.state = .exposed := by
  cases h : r.state <;> simp [Record.taken, h]

theorem Record.returned_exposed (r : Record) : r.returned.state = .exposed ↔ r.state = .exposed := by
  cases h : r.state <;> simp [Record.returned, h]

theorem Record.spoiledWaiting_exposed (r : Record) : r.spoiledWaiting.state = .exposed ↔ r.state = .exposed := by
  cases h : r.state <;> simp [Record.spoiledWaiting, h]

theorem RecordState.accepted_exposed (st : RecordState) : st.accepted = .exposed ↔ st = .exposed := by
  cases st <;> simp [RecordState.accepted]

theorem State.settle_owned (r : Record) {p : Placement} (h : p.state.owned) : (State.settle r p).1.owned := by
  unfold State.settle
  split
  · next v _ =>
    have hu := State.owned_updateRecord (k := r.key) (f := (·.granted v)) (fun _ => rfl) (fun _ => rfl)
      (·.granted_exposed v) h
    split
    · exact State.owned_of_same (by simp) (by simp) hu
    · exact hu
  · exact h

theorem State.offer_owned {s : State} (r : Record) (h : s.owned) : (s.offer r).1.owned :=
  State.settle_owned r (State.owned_of_same (s := s) (by simp) (by simp) h)

theorem State.serveFrom_owned (c : Fin 32) (fuel : Nat) {s : State} (h : s.owned) : (State.serveFrom c fuel s).owned := by
  induction fuel generalizing s with
  | zero => exact h
  | succ fuel ih =>
    unfold State.serveFrom
    split
    · exact h
    · split
      · exact h
      · next k _ _ r _ =>
        have hoffer := State.offer_owned r h
        split
        · next t ht => rw [ht] at hoffer; exact ih (State.owned_of_same (s := t) (by simp) (by simp) hoffer)
        · next t ht => rw [ht] at hoffer; exact hoffer

theorem State.serveList_owned {s : State} (c : Fin 32) (h : s.owned) : (s.serveList c).owned := State.serveFrom_owned c _ h

theorem State.servePass_owned {s : State} (h : s.owned) : s.servePass.owned :=
  frame_foldl State.owned State.serveList (fun _ c hu => State.serveList_owned c hu) _ s h

theorem State.acceptBody_owned {s : State} (k : Key) (h : s.owned) : (s.acceptBody k).owned := by
  unfold State.acceptBody
  split
  · exact h
  · next r _ =>
    have hu := State.owned_updateRecord (k := k) (f := fun r => { r with state := r.state.accepted }) (fun _ => rfl)
      (fun _ => rfl) (fun r => r.state.accepted_exposed) h
    dsimp only
    split
    · have hoffer := State.offer_owned { r with state := r.state.accepted } hu
      split
      · next t ht => rw [ht] at hoffer; exact hoffer
      · next t ht => rw [ht] at hoffer; exact State.owned_of_same (s := t) (by simp) (by simp) hoffer
    · exact State.serveList_owned _ (State.owned_of_same (by simp) (by simp) hu)

theorem State.modEntryRecord_owned {s : State} (e : Entry) {f : Record → Record} (hkey : ∀ r, (f r).key = r.key)
    (himage : ∀ r, (f r).image = r.image) (hstate : ∀ r, (f r).state = .exposed ↔ r.state = .exposed) (h : s.owned) :
    (s.modEntryRecord e f).owned := by
  unfold State.modEntryRecord
  split
  · split
    · exact State.owned_updateRecord hkey himage hstate h
    · exact h
  · exact h

/-! ### Receptions and claims -/

theorem State.endReception_owned {s : State} (k : Key) (h : s.owned) : (s.endReception k).owned := by
  unfold State.endReception
  split
  · exact h
  · next r hr =>
    split
    · exact State.owned_of_removed hr (by simp) (by simp [State.release_used]) h
    · exact State.owned_of_cleared (f := Record.retakeCancelled) hr (fun _ => rfl) (fun _ => rfl) (fun _ => rfl) (by simp)
        (by simp [State.release_used]) h
    · exact h

theorem State.takeClaim_owned {s t : State} {c : Claim} (ht : s.takeClaim c = .ok t) (h : s.owned) : t.owned := by
  unfold State.takeClaim at ht
  split at ht
  · cases ht
  · next hpass =>
    split at ht
    · cases ht
    · next blocks u hu =>
      split at ht
      · next hretake => cases ht; exact State.owned_retakeClaim hpass hretake hu h
      · next hnew =>
        cases ht
        exact State.owned_of_same (by simp) (by simp) (State.owned_addClaim hpass (by simpa using hnew) hu h)

theorem State.endWithRefuse_owned {s : State} (l : Fin 8) (r : Reception) (cause : Cause) (h : s.owned) :
    (s.endWithRefuse l r cause).owned := by
  unfold State.endWithRefuse
  split
  · exact State.owned_of_same (by simp) (by simp) h
  · have hrefuse : (s.refuse l r.tag cause).owned := State.owned_of_same (by simp) (by simp) h
    have hend := State.endReception_owned r.key hrefuse
    exact State.owned_of_same (by simp) (by simp) hend

theorem State.endRunning_owned {s : State} (l : Fin 8) (cause : Cause) (h : s.owned) : (s.endRunning l cause).owned := by
  unfold State.endRunning
  split
  · exact State.endWithRefuse_owned l _ cause h
  · exact h

theorem State.admitHead_owned {s : State} (l : Fin 8) (d : HeadFields) (h : s.owned) : (s.admitHead l d).owned := by
  unfold State.admitHead
  split
  · exact State.owned_of_same (by simp) (by simp) h
  · split
    · exact State.owned_of_same (by simp) (by simp) h
    · next t ht => exact State.owned_of_same (by simp) (by simp) (State.takeClaim_owned ht h)

theorem State.takeHead_owned {s : State} (l : Fin 8) (d : HeadFields) (h : s.owned) : (s.takeHead l d).owned :=
  State.admitHead_owned l d (State.endRunning_owned l .abandoned (State.owned_of_same (s := s) (by simp) (by simp) h))

theorem State.takeBody_owned {s : State} (l : Fin 8) (bytes : List Byte) (h : s.owned) : (s.takeBody l bytes).owned := by
  unfold State.takeBody
  split
  · exact State.owned_of_same (by simp) (by simp) h
  · split
    · exact h
    · split
      · exact State.owned_of_same (by simp) (by simp) h
      · exact State.endWithRefuse_owned l _ _ h

theorem State.takeEnd_owned {s : State} (l : Fin 8) (check : BitVec 32) (h : s.owned) : (s.takeEnd l check).owned := by
  unfold State.takeEnd
  split
  · exact State.owned_of_same (by simp) (by simp) h
  · next r _ =>
    split
    · exact State.endWithRefuse_owned l _ _ h
    · split
      · exact State.endWithRefuse_owned l _ _ h
      · split
        · exact State.endWithRefuse_owned l _ _ h
        · unfold State.acceptReception
          exact State.acceptBody_owned r.key (State.owned_of_same (s := s) (by simp) (by simp) h)

theorem State.takeFixed_owned {s : State} {l : Fin 8} {kind : Byte} {length : Nat} {f : Frame} {take : State → State}
    (ht : s.owned → (take s).owned) (h : s.owned) : (s.takeFixed l kind length f take).owned := by
  unfold State.takeFixed
  split
  · split
    · split
      · exact ht h
      · exact State.owned_of_same (by simp) (by simp) h
    · exact State.owned_of_same (by simp) (by simp) h
  · exact h

/-! ### Heads -/

theorem State.returnEntry_owned {s : State} (h : Fin 4) (e : Entry) (hs : s.owned) : (s.returnEntry h e).owned :=
  State.modEntryRecord_owned e (fun _ => rfl) (fun _ => rfl) Record.returned_exposed (State.owned_of_same (s := s) (by simp) (by simp) hs)

theorem State.rePlacement_owned {s : State} (i : Fin 12) (q : CellRequest) (h : s.owned) : (s.rePlacement i q).state.owned :=
  State.owned_of_same (by simp) (by simp) h

theorem State.spoil_owned {s : State} (i : Fin 12) (n : Nat) (h : s.owned) : (s.spoil i n).owned := by
  unfold State.spoil
  dsimp only
  split
  · exact State.owned_of_same (by simp) (by simp) h
  · next r _ =>
    have hclear := State.owned_updateRecord (k := r.key) (f := fun x => { x with reserved := none }) (fun _ => rfl)
      (fun _ => rfl) (fun _ => Iff.rfl) (State.owned_of_same (s := s)
        (t := (s.modCells i n (((s.cellAt i n).map Cell.width).getD 1) (fun c => { c with state := .spoiled, dose := false })
          (fun c => { c with state := .spoiled, dose := false })).indexingTest i) (by simp) (by simp) h)
    have hplaced := State.rePlacement_owned i r.request hclear
    have hsettle := State.settle_owned r hplaced
    split
    · next u hu => rw [hu] at hsettle; exact hsettle
    · next u hu =>
      rw [hu] at hsettle
      have hwait := State.owned_updateRecord (k := r.key) (f := Record.spoiledWaiting) (fun _ => rfl) (fun _ => rfl)
        Record.spoiledWaiting_exposed hsettle
      split
      · exact State.owned_of_same (by simp) (by simp) hwait
      · exact State.owned_of_same (by simp) (by simp) hwait

theorem State.interruptEntry_owned {s : State} (h : Fin 4) (e : Entry) (hs : s.owned) : (s.interruptEntry h e).owned := by
  unfold State.interruptEntry
  split
  · next i n _ =>
    exact State.owned_of_same (by simp) (by simp) (State.spoil_owned i n (State.owned_of_same
      (t := s.modHead h fun k => { k with inFlight := none }) (by simp) (by simp) hs))
  · next i => exact State.owned_of_same (by simp) (by simp) (State.returnEntry_owned h (.title i) hs)
  · next i n p => exact State.owned_of_same (by simp) (by simp) (State.returnEntry_owned h (.index i n p) hs)

theorem State.enterFault_owned {s : State} (h : Fin 4) (kind : FaultKind) (hs : s.owned) : (s.enterFault h kind).owned := by
  have ht : (((s.modHead h (·.faulted kind)).countHead h .faults).raise (.fault h)).owned := State.owned_of_same (by simp) (by simp) hs
  unfold State.enterFault
  dsimp only
  split
  · exact ht
  · split
    · exact State.interruptEntry_owned h _ ht
    · exact State.returnEntry_owned h _ ht

theorem State.takeEntry_owned {s : State} (h : Fin 4) (e : Entry) (rest : List Entry) (hs : s.owned) :
    (s.takeEntry h e rest).owned := by
  have hflight : (s.modHead h fun k => { k with queue := rest, inFlight := some ⟨e, .advancing⟩ }).owned :=
    State.owned_of_same (by simp) (by simp) hs
  have htaken := State.modEntryRecord_owned e (f := Record.taken) (fun _ => rfl) (fun _ => rfl) Record.taken_exposed hflight
  unfold State.takeEntry
  exact State.owned_of_same (by simp) (by simp) htaken

theorem State.acquisitionReading_owned {s : State} (h : Fin 4) (e : Entry) (run : Run) (r : Reading) (hs : s.owned) :
    (s.acquisitionReading h e run r).owned := by
  unfold State.acquisitionReading
  split
  · exact State.owned_of_same (by simp) (by simp) hs
  · split
    · exact State.owned_of_same (by simp) (by simp) hs
    · exact State.enterFault_owned h _ hs

theorem State.positioningReading_owned {s : State} (h : Fin 4) (e : Entry) (r : Reading) (hs : s.owned) :
    (s.positioningReading h e r).owned := by
  unfold State.positioningReading
  dsimp only
  split
  · exact State.owned_of_same (by simp) (by simp) hs
  · split
    · exact State.owned_of_same (by simp) (by simp) hs
    · have hlost : ((s.trackerAcquire h).countHead h .registrationLosses).owned := State.owned_of_same (by simp) (by simp) hs
      have hreturned := State.returnEntry_owned h e hlost
      exact State.owned_of_same (by simp) (by simp) hreturned

theorem State.finishRecord_owned {s : State} (k : Key) (dose : Bool) (h : s.owned) : (s.finishRecord k dose).owned := by
  unfold State.finishRecord
  split
  · exact h
  · next r hr =>
    split
    · exact h
    · next v _ =>
      dsimp only
      split
      · exact State.owned_of_cleared (f := (·.firstExposed v.place dose)) hr (fun _ => rfl) (fun _ => rfl) (fun _ => rfl)
          (by simp) (by simp [State.release_used]) h
      · refine State.owned_of_cleared (f := (·.retakeExposed v.place dose)) hr (fun _ => rfl) (fun _ => rfl)
          (fun _ => rfl) ?_ ?_ h
        · split <;> simp
        · split <;> simp [State.release_used]
      · exact h

theorem State.complete_owned {s : State} (h : Fin 4) (e : Entry) (dose : Bool) (hs : s.owned) :
    (s.complete h e dose).owned := by
  cases e with
  | cell i n c =>
    refine State.owned_of_same (s := s.completeCell i n dose) (t := State.complete s h (.cell i n c) dose)
      (by simp [State.complete]) (by simp [State.complete]) ?_
    unfold State.completeCell
    dsimp only
    split
    · next k _ =>
      have hcell : (s.modCell i n fun c => { c with state := .exposed, dose := dose }).owned :=
        State.owned_of_same (by simp) (by simp) hs
      have hfinish := State.finishRecord_owned k dose hcell
      exact State.owned_of_same (by simp) (by simp) hfinish
    · exact State.owned_of_same (by simp) (by simp) hs
  | title i => exact State.owned_of_same (by simp [State.complete]) (by simp [State.complete]) hs
  | index i n p => exact State.owned_of_same (by simp [State.complete]) (by simp [State.complete]) hs

theorem State.drawEnds_owned {s : State} (h : Fin 4) (e : Entry) (m : Nat) (hs : s.owned) : (s.drawEnds h e m).owned := by
  have ht := State.complete_owned h e (s.heads[h].dose.deviates m)
    (State.owned_of_same (s := s) (t := s.judgeDose h m) (by simp) (by simp) hs)
  unfold State.drawEnds
  dsimp only
  split
  · exact State.owned_of_same (by simp) (by simp) ht
  · exact State.owned_of_same (by simp) (by simp) ht

/-! ### The host requests on records -/

theorem State.withdrawOwner_owned (k : Key) {s : State} (h : s.owned) : (withdrawOwner k s).1.owned := by
  unfold withdrawOwner
  split
  · exact h
  · split
    · exact h
    · next r hr =>
      obtain ⟨-, rfl⟩ := State.findRecord_some hr
      have hremoved {t : State} (hrecords : t.records = s.records.filter fun x => decide (x.key ≠ r.key))
          (hused : t.used = s.used.filter fun b => !(blocksOf r.image).contains b) : t.owned :=
        State.owned_of_removed hr hrecords hused h
      have hcancelled {t : State}
          (hrecords : t.records = s.records.map fun x => if x.key = r.key then x.retakeCancelled else x)
          (hused : t.used = s.used.filter fun b => !(blocksOf r.image).contains b) : t.owned :=
        State.owned_of_cleared (f := Record.retakeCancelled) hr (fun _ => rfl) (fun _ => rfl) (fun _ => rfl) hrecords hused h
      split
      · exact h
      · exact h
      · exact h
      · exact hremoved (by simp [State.withdrawReceiving]) (by simp [State.withdrawReceiving, State.release_used])
      · exact hremoved (by simp [State.withdrawWaiting]) (by simp [State.withdrawWaiting, State.release_used])
      · unfold State.withdrawReserved
        split
        · exact hremoved (by simp) (by simp [State.release_used])
        · exact hremoved (by simp) (by simp [State.release_used])
      · exact hcancelled (by simp [State.cancelRetake]) (by simp [State.cancelRetake, State.release_used])
      · exact hcancelled (by simp [State.cancelRetake]) (by simp [State.cancelRetake, State.release_used])
      · unfold State.withdrawRetakeReserved
        split
        · exact hcancelled (by simp [State.cancelRetake]) (by simp [State.cancelRetake, State.release_used])
        · exact hcancelled (by simp [State.cancelRetake]) (by simp [State.cancelRetake, State.release_used])

/-- Records without an image part leave the directory. -/
theorem State.owned_filter {s : State} {p : Record → Bool} (hp : ∀ r ∈ s.records, p r = false → r.state = .exposed)
    (h : s.owned) : ({ s with records := s.records.filter p } : State).owned := by
  obtain ⟨hd, hpool, hfit, huse, hdisj⟩ := h
  refine ⟨(s.filterRecords_keeps p).directory hd, hpool, fun x hx => hfit x (List.mem_filter.mp hx).1, fun b => ?_,
    hdisj.sublist List.filter_sublist⟩
  rw [huse b]
  constructor
  · rintro ⟨x, hx, hb⟩
    refine ⟨x, List.mem_filter.mpr ⟨hx, ?_⟩, hb⟩
    by_contra hn
    have himage : x.image = none := by
      by_contra hi
      exact (hfit x hx).1.mp hi (hp x hx (by simpa using hn))
    rw [himage] at hb
    cases hb
  · rintro ⟨x, hx, hb⟩
    exact ⟨x, (List.mem_filter.mp hx).1, hb⟩

theorem State.voidOwner_owned (k : Key) {s : State} (h : s.owned) : (voidOwner k s).1.owned := by
  unfold voidOwner
  split
  · exact h
  · split
    · exact h
    · next r hr =>
      split
      all_goals try exact h
      next hst =>
      split
      · exact h
      · split
        · exact h
        · refine State.owned_of_same (s := s.removeRecord k) (by simp) (by simp) (State.owned_filter (fun x hx hk => ?_) h)
          rw [State.record_unique h.1 hr hx (by simpa using hk)]
          exact hst

theorem State.retireOwner_owned (a b c : Word) {s : State} (h : s.owned) : (retireOwner a b c s).1.owned := by
  unfold retireOwner
  split
  · exact h
  · split
    · exact h
    · dsimp only
      split
      · exact h
      · refine State.owned_filter (fun x _ hx => ?_) h
        simp only [Record.retired, Bool.not_eq_false', Bool.and_eq_true, decide_eq_true_eq] at hx
        exact hx.2

/-- A record moves to a key that no record has, with its image part (R95). -/
theorem State.owned_moveRecord {s : State} {r : Record} {new : Key} (hr : s.findRecord r.key = some r)
    (hnew : s.findRecord new = none) (h : s.owned) : ((s.removeRecord r.key).addRecord { r with key := new }).owned := by
  obtain ⟨hd, hp, ho⟩ := h
  obtain ⟨hmem, -⟩ := State.findRecord_some hr
  have hrest {x : Record} (hx : x ∈ s.records.filter fun x => decide (x.key ≠ r.key)) : x ∈ s.records ∧ x ≠ r := by
    obtain ⟨hx, hk⟩ := List.mem_filter.mp hx
    exact ⟨hx, fun he => (of_decide_eq_true hk) (by rw [he])⟩
  refine ⟨(s.moveRecord_keeps hmem hnew).directory hd, hp, fun x hx => ?_, fun b => ?_, ?_⟩
  · rcases mem_insertRecord.mp hx with rfl | hx
    · exact ho.1 r hmem
    · exact ho.1 x (hrest hx).1
  · show b ∈ s.used ↔ _
    rw [ho.2.1 b]
    constructor
    · rintro ⟨x, hx, hb⟩
      by_cases hk : x.key = r.key
      · rw [State.record_unique hd hr hx hk] at hb
        exact ⟨_, mem_insertRecord.mpr (.inl rfl), hb⟩
      · exact ⟨x, mem_insertRecord.mpr (.inr (List.mem_filter.mpr ⟨hx, by simpa using hk⟩)), hb⟩
    · rintro ⟨x, hx, hb⟩
      rcases mem_insertRecord.mp hx with rfl | hx
      · exact ⟨r, hmem, hb⟩
      · exact ⟨x, (hrest hx).1, hb⟩
  · refine pairwise_insertRecord (fun x hx => ?_) (ho.2.2.sublist List.filter_sublist)
    obtain ⟨hx, hne⟩ := hrest hx
    have hblocks := State.blocks_disjoint ho hmem hx hne.symm
    exact ⟨hblocks, fun b hb hb' => hblocks b hb' hb⟩

theorem State.rekeyOwner_owned (old new : Key) {s : State} (h : s.owned) : (rekeyOwner old new s).1.owned := by
  unfold rekeyOwner
  split
  · exact h
  · split
    · exact h
    · next r hr =>
      obtain ⟨-, rfl⟩ := State.findRecord_some hr
      have hmove (hn : ¬ (s.findRecord new).isSome = true) : (s.rekeyRecord r new).owned := by
        have ht := State.owned_moveRecord hr (by simpa using hn) h
        unfold State.rekeyRecord
        dsimp only
        split
        · split
          · exact State.owned_of_same (by simp) (by simp) ht
          · exact State.owned_of_same (by simp) (by simp) ht
        · exact frame_foldl State.owned (State.rekeyPlace new) (fun _ _ hu => State.owned_of_same (by simp) (by simp) hu) _ _
            (State.owned_of_same (by simp) (by simp) ht)
        · exact State.owned_of_same (by simp) (by simp) ht
      split
      all_goals try exact h
      all_goals
        split
        · exact h
        · split
          · exact h
          · next hn => exact hmove hn

/-- Every owner keeps the ownership of blocks. -/
theorem owner_owned {i : Instr} {q : HostRequest} (hq : requestOf i = some q) {s : State} (h : s.owned) :
    (q.owner s).1.owned := by
  cases i <;> simp only [requestOf, Option.some.injEq, reduceCtorEq] at hq <;> subst hq
  case withdraw => exact State.withdrawOwner_owned _ h
  case void => exact State.voidOwner_owned _ h
  case rekey => exact State.rekeyOwner_owned _ _ h
  case retireFiche => exact State.retireOwner_owned _ _ _ h
  all_goals
    simp only [closeFicheOwner, findOwner, findNextOwner, setFormatOwner, readFormatOwner, tryFitOwner, setSeriesOwner,
      readSeriesOwner, clearSeriesOwner, cutOffOwner, reopenOwner, ficheStatusOwner, setAdmissionOwner, readAdmissionOwner,
      linkStatusOwner, setHoldOwner, stagingStatusOwner, loadRollOwner, unloadRollOwner, headStartOwner, headStopOwner,
      headResetOwner, headStatusOwner, setTrackerOwner, trackerStatusOwner, setDoseOwner, doseStatusOwner, readEventsOwner,
      setEventEnablesOwner, acknowledgeEventsOwner, readNoticeOwner, readStatisticsOwner]
    repeat' split
    all_goals exact State.owned_of_same (by simp) (by simp) h

theorem State.request_owned {s : State} {code : Nat} {body : List Word} {owner : State → State × Response}
    (ho : ∀ {u : State}, u.owned → (owner u).1.owned) (h : s.owned) : (s.request code body owner).owned := by
  unfold State.request
  split
  · have hstart : ((s.writeRequest (requestMessage code body)).startRequest).owned := State.owned_of_same (by simp) (by simp) h
    exact State.owned_of_same (by simp) (by simp) (ho hstart)
  · split
    · exact State.owned_of_same (by simp) (by simp) (ho h)
    · exact State.owned_of_same (by simp) (by simp) h

/-! ### Every command -/

theorem State.endWithCarrier_owned {s : State} (l : Fin 8) (r : Reception) (h : s.owned) : (s.endWithCarrier l r).owned := by
  have hcount : (s.countLink l .carrierLostReceptions).owned := State.owned_of_same (by simp) (by simp) h
  unfold State.endWithCarrier
  dsimp only
  split
  · exact State.owned_of_same (by simp) (by simp) hcount
  · exact State.owned_of_same (by simp) (by simp) (State.endReception_owned r.key hcount)

theorem State.linkDown_owned {s t : State} {l : Fin 8} (ht : execLinkDown l s = .next t) (h : s.owned) : t.owned := by
  have hlost : (s.carrierLost l).owned := State.owned_of_same (by simp) (by simp) h
  unfold execLinkDown at ht
  split at ht
  · split at ht <;> cases ht
    · exact hlost
    · exact State.endWithCarrier_owned l _ hlost
  · cases ht; exact h

theorem State.stageCompletion_owned {s t : State} {h : Fin 4} {m : Nat} {r : Reading}
    (ht : execStageCompletion h m r s = .next t) (hs : s.owned) : t.owned := by
  have hstopped : (s.modHead h fun k => { k with stageLimit := none, awaited := none }).owned :=
    State.owned_of_same (by simp) (by simp) hs
  unfold execStageCompletion at ht
  split at ht
  · cases ht; exact hs
  · split at ht
    · dsimp only at ht
      split at ht <;> cases ht
      · exact State.acquisitionReading_owned h _ _ r hstopped
      · exact State.positioningReading_owned h _ r hstopped
      · exact hs
      · exact hs
    · cases ht; exact hs

theorem State.photocellReport_owned {s t : State} {h : Fin 4} {m : BitVec 16} (ht : execPhotocellReport h m s = .next t)
    (hs : s.owned) : t.owned := by
  have hlast : (s.modHead h fun k => { k with dose := { k.dose with last := m.toNat } }).owned :=
    State.owned_of_same (by simp) (by simp) hs
  unfold execPhotocellReport at ht
  split at ht
  · cases ht; exact hs
  · split at ht
    · dsimp only at ht
      split at ht <;> cases ht
      · exact State.enterFault_owned h _ hlast
      · exact State.drawEnds_owned h _ _ hlast
    · cases ht; exact hs

theorem State.sheetCodeRead_owned {s t : State} {h : Fin 4} {v : Option (BitVec 16)} (ht : execSheetCodeRead h v s = .next t)
    (hs : s.owned) : t.owned := by
  unfold execSheetCodeRead at ht
  split at ht
  · split at ht
    · split at ht
      · cases ht; exact State.owned_of_same (by simp) (by simp) hs
      · cases ht; exact State.enterFault_owned h _ hs
      · split at ht <;> cases ht
        · exact State.owned_of_same (by simp) (by simp) hs
        · exact State.enterFault_owned h _ hs
    · cases ht; exact hs
  · cases ht; exact hs

/-- Every command but POWER_ON keeps the ownership of blocks. -/
theorem exec_owned {c : Instr} {s t : State} (hc : ∀ b, c ≠ .powerOn b) (h : exec c s = .next t) (hs : s.owned) :
    t.owned := by
  cases hq : requestOf c with
  | some q =>
    rw [exec_request hq] at h
    cases h
    exact State.request_owned (owner_owned hq) hs
  | none =>
    cases c <;> simp only [requestOf, reduceCtorEq] at hq <;> simp only [exec] at h
    case powerOn b => exact absurd rfl (hc b)
    case go buffer =>
      unfold execGo at h
      dsimp only at h
      split at h
      · cases h; exact State.owned_of_same (by simp) (by simp) hs
      · split at h <;> cases h <;> exact State.owned_of_same (by simp) (by simp) hs
    case portClear => cases h; exact State.owned_of_same (by simp) (by simp) hs
    case linkActive l => cases h; exact State.owned_of_same (by simp) (by simp) hs
    case linkDown l => exact State.linkDown_owned h hs
    case submitHead l f => cases h; exact State.takeFixed_owned (State.takeHead_owned l _) hs
    case body l k f =>
      unfold execBody at h
      split at h
      · split at h
        · split at h <;> cases h
          · exact State.takeBody_owned l _ hs
          · exact State.owned_of_same (by simp) (by simp) hs
        · cases h; exact State.owned_of_same (by simp) (by simp) hs
      · cases h; exact hs
    case submitEnd l f => cases h; exact State.takeFixed_owned (State.takeEnd_owned l _) hs
    case probe l f => cases h; exact State.takeFixed_owned (fun _ => State.owned_of_same (by simp) (by simp) hs) hs
    case receptionTimerExpiry l =>
      unfold execReceptionTimerExpiry at h
      split at h <;> cases h
      · exact State.endRunning_owned l _ hs
      · exact hs
    case holdTimerExpiry l =>
      unfold execHoldTimerExpiry at h
      split at h
      · split at h <;> cases h <;> exact State.owned_of_same (by simp) (by simp) hs
      · cases h; exact hs
    case serveWaitingLists =>
      unfold execServeWaitingLists at h
      split at h
      · obtain rfl := Host.Outcome.next.inj h; exact hs
      · next e rest _ =>
        obtain rfl := Host.Outcome.next.inj h
        exact State.servePass_owned (State.owned_of_same (s := s) (by simp) (by simp) hs)
    case entryTake g =>
      unfold execEntryTake at h
      split at h
      · split at h <;> cases h
        · exact hs
        · exact State.takeEntry_owned g _ _ hs
      · cases h; exact hs
    case transportArrival g m =>
      unfold execTransportArrival at h
      split at h
      · cases h; exact hs
      · split at h
        · dsimp only at h
          split at h <;> cases h <;> exact State.owned_of_same (by simp) (by simp) hs
        · cases h; exact hs
    case sheetCodeRead g v => exact State.sheetCodeRead_owned h hs
    case transportTimeout g =>
      unfold execTransportTimeout at h
      split at h <;> cases h
      · exact State.enterFault_owned g _ hs
      · exact hs
    case stageTimeout g =>
      unfold execStageTimeout at h
      split at h <;> cases h
      · exact State.enterFault_owned g _ hs
      · exact hs
    case stageCompletion g m r => exact State.stageCompletion_owned h hs
    case photocellReport g m => exact State.photocellReport_owned h hs
    case jam g =>
      unfold execJam at h
      split at h <;> cases h
      · exact State.enterFault_owned g _ hs
      · exact State.enterFault_owned g _ hs
      · exact State.enterFault_owned g _ hs
      · exact hs
      · exact hs

theorem reset_directoryOrdered (p : List Instr) (n : Nat) : (State.powered p n).directoryOrdered := by
  simp [State.reset, State.directoryOrdered]

theorem reset_poolOrdered (p : List Instr) (n : Nat) : (State.powered p n).poolOrdered := by
  simp [State.reset, State.poolOrdered]

theorem reset_blocksOwned (p : List Instr) (n : Nat) : (State.powered p n).blocksOwned := by
  simp [State.reset, State.blocksOwned]

theorem step_owned {s t : State} (h : step s = .next t) (hs : s.owned) : t.owned := by
  rcases step_cases h with rfl | ⟨c, rest, -, hc⟩
  · exact hs
  · by_cases hp : ∃ b, c = .powerOn b
    · obtain ⟨b, rfl⟩ := hp
      cases hc
      refine frame_foldl State.owned _ (fun u l hu => ?_) _ _
        ⟨reset_directoryOrdered rest s.freeCount, reset_poolOrdered _ _, reset_blocksOwned _ _⟩
      split
      · exact State.owned_of_same (by simp) (by simp) hu
      · exact hu
    · exact exec_owned (fun b hb => hp ⟨b, hb⟩) hc (State.owned_of_same (s := s) (by simp) (by simp) hs)

/-- Settles O53: bytes are stored canonically and records are put in their places in key order; and an allocation gives
free blocks, so that no record takes another's, and a release frees exactly the blocks of the record that gives them up. -/
theorem stagingAndDirectoryKept : Obligations.StagingAndDirectoryKept :=
  ⟨fun _ _ hm hp h => ⟨step_keeps (fun _ _ hk => hk.memory) (fun _ _ => reset_memory_wf) hm h,
      step_keeps (fun _ _ hk => hk.pool) reset_poolOrdered hp h⟩,
    fun _ _ hd h => step_keeps (fun _ _ hk => hk.directory) reset_directoryOrdered hd h,
    fun _ _ hd hp ho h => (step_owned h ⟨hd, hp, ho⟩).2.2⟩

end Sys2Proof.Machine
end

section
/-! The port and the request cycle (R183 to R187): what a command answers, the code table, and what every owner leaves of the
port. -/

namespace Sys2Proof.Machine

/-! ### Every command answers a next state -/

theorem exec_next (i : Instr) (s : State) : ∃ t, exec i s = .next t := by
  cases hq : requestOf i with
  | some q => exact ⟨_, exec_request hq s⟩
  | none =>
    cases i <;> simp only [requestOf, reduceCtorEq] at hq
    all_goals
      simp only [exec, execPowerOn, execGo, execPortClear, execLinkActive, execLinkDown, execSubmitHead, execBody,
        execSubmitEnd, execProbe, execReceptionTimerExpiry, execHoldTimerExpiry, execServeWaitingLists, execEntryTake,
        execTransportArrival, execSheetCodeRead, execTransportTimeout, execStageTimeout, execStageCompletion,
        execPhotocellReport, execJam]
      repeat' split
      all_goals exact ⟨_, rfl⟩

/-- Settles O1: no arm of the dispatch refuses or faults. -/
theorem stepsRunCommands : Obligations.StepsRunCommands := by
  refine ⟨fun _ _ _ => rfl, fun s h => ?_, exec_next⟩
  unfold step
  rw [h]

/-! ### Power-on -/

/-- The links that appear one after the other, from a state in which they rest and no hold is ASSERTED. -/
theorem foldl_carrierAppears (carriers : BitVec 8) {ls : List (Fin 8)} (hn : ls.Nodup) {s : State}
    (hh : s.holdAsserted = false) (hr : ∀ l ∈ ls, s.links[l] = Link.reset) :
    ∃ links : Vector Link 8,
      ls.foldl (fun t l => if carriers.getLsbD l.val then t.carrierAppears l else t) s = { s with links := links } ∧
      ∀ l : Fin 8, links[l] = if l ∈ ls then { Link.reset with active := carriers.getLsbD l.val } else s.links[l] := by
  induction ls generalizing s with
  | nil => exact ⟨s.links, rfl, by simp⟩
  | cons a rest ih =>
    obtain ⟨ha, hn⟩ := List.nodup_cons.mp hn
    have hra := hr a List.mem_cons_self
    by_cases hc : carriers.getLsbD a.val = true
    · have hs : s.carrierAppears a = s.modLink a fun k => { k with active := true, reception := none, outbox := [] } := by
        have hd : ¬ s.links[a].active = true := by rw [hra]; decide
        simp only [State.carrierAppears, if_neg hd, hh, Bool.false_eq_true, if_false]
      have hlinks (l : Fin 8) := s.modLink_at a (fun k => { k with active := true, reception := none, outbox := [] }) l
      obtain ⟨links, heq, hl⟩ := ih hn (s := s.carrierAppears a) (by rw [hs]; exact hh) fun l hl => by
        rw [hs, hlinks, if_neg (fun h : l = a => ha (h ▸ hl))]
        exact hr l (List.mem_cons_of_mem a hl)
      refine ⟨links, by rw [List.foldl_cons, if_pos hc, heq, hs]; rfl, fun l => ?_⟩
      rw [hl, hs, hlinks]
      by_cases hla : l = a
      · subst hla
        rw [if_neg ha, if_pos rfl, if_pos List.mem_cons_self, hra, hc]
        rfl
      · simp [hla]
    · obtain ⟨links, heq, hl⟩ := ih hn hh fun l hl => hr l (List.mem_cons_of_mem a hl)
      refine ⟨links, by rw [List.foldl_cons, if_neg hc, heq], fun l => ?_⟩
      rw [hl]
      by_cases hla : l = a
      · subst hla
        rw [if_neg ha, if_pos List.mem_cons_self, hra]
        simp only [Bool.not_eq_true] at hc
        rw [hc]
        rfl
      · simp [hla]

/-- Settles O2: the power-on values, and the links that appear in a state without a hold. -/
theorem powerOn : Obligations.PowerOn := by
  refine ⟨?_, fun carriers s => ?_⟩
  · simp [State.reset, Series.reset, Slot.reset, Link.reset, AdmissionEntry.reset, Head.reset, Tracker.reset, Dose.reset, Port.reset]
  · obtain ⟨links, heq, hl⟩ := foldl_carrierAppears carriers (List.nodup_finRange 8)
      (s := State.powered s.pending s.freeCount) rfl (fun l _ => by simp [State.reset])
    have hlinks : links = Vector.ofFn fun l => { Link.reset with active := carriers.getLsbD l.val } := by
      ext i hi : 1
      rw [Vector.getElem_ofFn]
      exact (hl ⟨i, hi⟩).trans (if_pos (List.mem_finRange _))
    simp only [exec, execPowerOn, allLinks]
    rw [heq, hlinks]

/-! ### The code table -/

/-- One command for each host request, in the order of the code table. -/
def tabledCommands : List Instr :=
  [.find 0 0 0, .findNext 0 0 0, .withdraw 0 0 0, .void 0 0 0, .rekey 0 0 0 0 0 0, .retireFiche 0 0 0,
    .setFormat 0 0 0 0 0 0 0 0 0, .readFormat 0, .tryFit 0 0 0, .setSeries 0 0 0 0 (Vector.replicate 7 0) 0, .readSeries 0,
    .clearSeries 0, .cutOffSeries 0, .reopenSeries 0 0, .closeFiche 0, .ficheStatus 0 0 0,
    .setAdmission 0 0 0 0 0 0, .readAdmission 0, .linkStatus 0, .setHold 0, .stagingStatus,
    .loadRoll 0 0 0 0, .unloadRoll 0, .headStart 0, .headStop 0, .headReset 0, .headStatus 0, .setTracker 0 0,
    .trackerStatus 0, .setDose 0 0 0, .doseStatus 0, .readEvents, .setEventEnables 0, .acknowledgeEvents 0, .readNotice,
    .readStatistics 0 0]

theorem requestCodes_eq_tabled :
    requestCodes.map some = tabledCommands.map fun i => (requestOf i).map fun q => (q.code, q.body.length + 1) := rfl

theorem mem_requestCodes {code n : Nat} :
    (code, n) ∈ requestCodes ↔ ∃ i q, requestOf i = some q ∧ q.code = code ∧ q.body.length + 1 = n := by
  constructor
  · intro h
    have hm : some (code, n) ∈ requestCodes.map some := List.mem_map_of_mem h
    rw [requestCodes_eq_tabled] at hm
    obtain ⟨i, -, hi⟩ := List.mem_map.mp hm
    obtain ⟨q, hq, hqn⟩ := Option.map_eq_some_iff.mp hi
    cases hqn
    exact ⟨i, q, hq, rfl, rfl⟩
  · rintro ⟨i, q, hq, rfl, rfl⟩
    cases i <;> simp only [requestOf, Option.some.injEq, reduceCtorEq] at hq <;> subst hq <;> simp [requestCodes]

theorem requestLength_of_mem : ∀ c ∈ requestCodes, requestLength c.1 = some c.2 := by decide

theorem requestLength_eq_some_iff {code n : Nat} : requestLength code = some n ↔ (code, n) ∈ requestCodes := by
  refine ⟨fun h => ?_, requestLength_of_mem (code, n)⟩
  obtain ⟨⟨c, m⟩, hc, rfl⟩ := Option.map_eq_some_iff.mp h
  obtain rfl : c = code := by simpa using List.find?_some hc
  exact List.mem_of_find?_eq_some hc

theorem requestLength_eq_none_iff {code : Nat} : requestLength code = none ↔ ∀ n, (code, n) ∉ requestCodes := by
  simp only [Option.eq_none_iff_forall_ne_some, ne_eq, requestLength_eq_some_iff]

theorem badRequestByte_of_tabled {w : Word} {n : Nat} (h : (w.toNat % 65536, n) ∈ requestCodes) :
    badRequestByte w = w.toNat % 256 := by
  have hn : requestLength (headerCode w) = some n := requestLength_eq_some_iff.mpr h
  unfold badRequestByte
  rw [hn]
  exact Nat.mod_mod_of_dvd _ (by decide)

theorem badRequestByte_of_untabled {w : Word} (h : ∀ n, (w.toNat % 65536, n) ∉ requestCodes) : badRequestByte w = 0 := by
  have hn : requestLength (headerCode w) = none := requestLength_eq_none_iff.mpr h
  unfold badRequestByte
  rw [hn]

theorem headerPasses_iff (w : Word) : headerPasses w = true ↔
    ∃ n, (w.toNat % 65536, n) ∈ requestCodes ∧ w.toNat / 65536 % 256 = n ∧ w.toNat / 16777216 = 0 := by
  unfold headerPasses
  split
  · next n hn =>
    rw [Bool.and_eq_true, decide_eq_true_iff, decide_eq_true_iff]
    refine ⟨fun h => ⟨n, requestLength_eq_some_iff.mp hn, h⟩, fun ⟨m, hm, h⟩ => ?_⟩
    cases (requestLength_eq_some_iff.mpr hm).symm.trans hn
    exact h
  · next hn =>
    simp only [Bool.false_eq_true, false_iff, not_exists, not_and]
    exact fun n hm => absurd hm (requestLength_eq_none_iff.mp hn n)

/-- Settles O3: the table by its commands, and the strobe by the port's state and the header's tests. -/
theorem goStrobe : Obligations.GoStrobe := by
  refine ⟨fun _ _ => mem_requestCodes, fun w => ⟨fun ⟨_, h⟩ => badRequestByte_of_tabled h, badRequestByte_of_untabled⟩,
    ⟨headerPasses_iff, fun buffer s h => ⟨fun hp => ?_, fun hp => ?_⟩⟩, fun buffer s e h => ?_⟩
  · simp [exec, execGo, h, hp, State.startRequest, State.modPort]
  · simp [exec, execGo, h, hp, State.startRequest, State.finishRequest, State.modPort, responseWords, refusal]
  · simp [exec, execGo, h, State.raise, State.modPort, indicationBit]

/-- Settles O4: nothing but the port changes, and of the condition values NOTICE's alone reads the port. -/
theorem portClearClearsPort : Obligations.PortClearClearsPort := by
  intro s
  refine ⟨_, rfl, rfl, rfl, rfl, rfl, rfl, rfl, rfl, rfl, rfl, ?_, rfl, fun i hi => ?_⟩
  · simp [interruptLine, State.modPort]
  · cases i with
    | notice => exact absurd rfl hi
    | _ => rfl

end Sys2Proof.Machine
end

section
/-! The shape of a host request (R184 to R187): what every owner leaves of the port, what a refusal leaves of the state, and the
requests on events, notices and statistics (R188 to R192). -/

namespace Sys2Proof.Machine

/-- What every owner leaves of the port. -/
theorem owner_port {i : Instr} {q : HostRequest} (hq : requestOf i = some q) (s : State) :
    (q.owner s).1.port.done = s.port.done ∧ (q.owner s).1.port.requestBuffer = s.port.requestBuffer ∧
    (q.owner s).1.port.responseBuffer = s.port.responseBuffer ∧ (q.owner s).1.port.execution = s.port.execution := by
  cases i <;> simp only [requestOf, Option.some.injEq, reduceCtorEq] at hq <;> subst hq
  all_goals
    simp only [withdrawOwner, voidOwner, rekeyOwner, retireOwner, closeFicheOwner, findOwner, findNextOwner, setFormatOwner,
      readFormatOwner, tryFitOwner, setSeriesOwner, readSeriesOwner, clearSeriesOwner, cutOffOwner, reopenOwner,
      ficheStatusOwner, setAdmissionOwner, readAdmissionOwner, linkStatusOwner, setHoldOwner, stagingStatusOwner,
      loadRollOwner, unloadRollOwner, headStartOwner, headStopOwner, headResetOwner, headStatusOwner, setTrackerOwner,
      trackerStatusOwner, setDoseOwner, doseStatusOwner, readEventsOwner, setEventEnablesOwner, acknowledgeEventsOwner,
      readNoticeOwner, readStatisticsOwner]
    repeat' split
    all_goals simp [State.modPort]

/-- An owner's refusal leaves the state as it was; OVERSIZE alone has words behind its header. -/
theorem owner_refused {i : Instr} {q : HostRequest} (hq : requestOf i = some q) (s : State)
    (h : (q.owner s).2.status ≠ .ok) :
    (q.owner s).1 = s ∧ ((q.owner s).2.status ≠ .oversize → (q.owner s).2.body = []) := by
  cases i <;> simp only [requestOf, Option.some.injEq, reduceCtorEq] at hq <;> subst hq
  all_goals
    revert h
    simp only [withdrawOwner, voidOwner, rekeyOwner, retireOwner, closeFicheOwner, findOwner, findNextOwner, setFormatOwner,
      readFormatOwner, tryFitOwner, setSeriesOwner, readSeriesOwner, clearSeriesOwner, cutOffOwner, reopenOwner,
      ficheStatusOwner, setAdmissionOwner, readAdmissionOwner, linkStatusOwner, setHoldOwner, stagingStatusOwner,
      loadRollOwner, unloadRollOwner, headStartOwner, headStopOwner, headResetOwner, headStatusOwner, setTrackerOwner,
      trackerStatusOwner, setDoseOwner, doseStatusOwner, readEventsOwner, setEventEnablesOwner, acknowledgeEventsOwner,
      readNoticeOwner, readStatisticsOwner]
    repeat' split
    all_goals simp [refusal, okWith, withdrawAnswer]

/-- Settles O6: in each owner every answer but OK stands beside the state it was asked of. -/
theorem refusedRequestChangesNothing : Obligations.RefusedRequestChangesNothing := fun _ _ s hq h => owner_refused hq s h

/-! ### The request cycle -/

theorem carries_iff (request : Vector Word 16) (message : List Word) :
    carries request message = true ↔ message <+: request.toList := by
  rw [carries, decide_eq_true_iff, List.prefix_iff_eq_take, eq_comm]

/-- A request on an IDLE port: its owner's answer, written. -/
theorem exec_idle {i : Instr} {q : HostRequest} {s u : State} {r : Response} (hq : requestOf i = some q)
    (h : s.port.execution = none) (ho : q.owner (s.started q.code q.body) = (u, r)) :
    exec i s = .next { u with port := { u.port with
      done := true
      execution := none
      requestBuffer := overwrite s.port.requestBuffer (requestMessage q.code q.body)
      responseBuffer := overwrite s.port.responseBuffer (responseWords (q.code % 256) r) } } := by
  obtain ⟨-, hbuffer, hresponse, hexec⟩ := owner_port hq (s.started q.code q.body)
  rw [ho] at hbuffer hresponse hexec
  rw [exec_request hq, State.request_idle h ho hexec]
  simp only [State.started, State.startRequest, State.writeRequest, State.modPort] at hbuffer hresponse
  rw [hresponse, ← hbuffer]

/-- Settles O5: the port's three cases, and what every owner leaves of the port. -/
theorem requestCycle : Obligations.RequestCycle := by
  refine ⟨carries_iff, fun _ _ => rfl, fun i q s hq => ⟨fun hidle u r => exec_idle hq hidle, fun e he hc => ?_⟩,
    fun i q s e hq he hc => ?_⟩
  · rw [exec_request hq, State.request, he]
    simp [hc, State.raise, State.writeRequest, State.modPort, indicationBit]
  · obtain ⟨hdone, hbuffer, hresponse, hexec⟩ := owner_port hq s
    rw [he] at hexec
    refine ⟨fun hcl => ?_, fun hcl => ?_, hdone, hbuffer, hresponse⟩
    · rw [exec_request hq, State.request, he]
      simp [hc, State.finishRequest, State.modPort, hexec, hcl, hresponse]
    · rw [exec_request hq, State.request, he]
      simp [hc, State.finishRequest, State.modPort, hexec, hcl]

/-- The state with another port. An owner that does not read the port answers there as it does in the state. -/
abbrev State.onPort (s : State) (p : Port) : State := { s with port := p }

theorem State.started_eq (s : State) (code : Nat) (body : List Word) :
    s.started code body = s.onPort (s.started code body).port := rfl

/-- A request on an IDLE port whose owner changes other parts than the port. -/
theorem exec_answered {i : Instr} {code : Nat} {body : List Word} {owner : State → State × Response} {s u : State}
    {r : Response} (hq : requestOf i = some ⟨code, body, owner⟩) (h : s.port.execution = none)
    (ho : ∀ p, owner (s.onPort p) = (u.onPort p, r)) :
    exec i s = .next ((u.onPort s.port).answered code body r) := by
  have hs := ho (s.started code body).port
  rw [← State.started_eq] at hs
  rw [exec_request hq]
  simp only
  rw [State.request_answered h hs rfl]

/-- A request on an IDLE port whose owner leaves the state as it is. -/
theorem exec_same {i : Instr} {code : Nat} {body : List Word} {owner : State → State × Response} {s : State} {r : Response}
    (hq : requestOf i = some ⟨code, body, owner⟩) (h : s.port.execution = none)
    (ho : ∀ p, owner (s.onPort p) = (s.onPort p, r)) : exec i s = .next (s.answered code body r) :=
  exec_answered hq h ho

/-- A request on an IDLE port whose owner changes the port's other fields alone. -/
theorem exec_modPort {i : Instr} {code : Nat} {body : List Word} {owner : State → State × Response} {s : State}
    {f : Port → Port} {r : Response} (hq : requestOf i = some ⟨code, body, owner⟩) (h : s.port.execution = none)
    (hf : ∀ (p : Port) d e b, f { p with done := d, execution := e, requestBuffer := b } =
      { f p with done := d, execution := e, requestBuffer := b })
    (hr : ∀ p, (f p).requestBuffer = p.requestBuffer ∧ (f p).responseBuffer = p.responseBuffer)
    (ho : owner (s.started code body) = ((s.started code body).modPort f, r)) :
    exec i s = .next ((s.modPort f).answered code body r) := by
  rw [exec_idle hq h ho]
  simp only [State.answered, State.modPort, State.started, State.startRequest, State.writeRequest]
  rw [hf s.port]
  simp only [hr]

theorem indexOf_eq_some {n : Nat} {w : Word} {i : Fin n} (h : w.toNat = i.val) : indexOf n w = some i := by
  simp [indexOf, h]

theorem indexOf_eq_none {n : Nat} {w : Word} (h : n ≤ w.toNat) : indexOf n w = none := by
  simp [indexOf, Nat.not_lt.mpr h]

/-! ### Indications -/

theorem indicationBit_inj {i j : Indication} (h : indicationBit i = indicationBit j) : i = j := by
  cases i <;> cases j <;> simp only [indicationBit] at h <;> grind

theorem indicationBit_lt (i : Indication) : indicationBit i < 21 := by
  cases i <;> simp only [indicationBit] <;> omega

theorem mem_indications (i : Indication) : i ∈ indications := by
  cases i <;> simp [indications, allHeads]

/-- A bit set in a word of indications is the bit of one indication. -/
theorem getLsbD_or_indication (w : BitVec 21) (i j : Indication) :
    (w ||| 1#21 <<< indicationBit i).getLsbD (indicationBit j) = (decide (j = i) || w.getLsbD (indicationBit j)) := by
  have hi := indicationBit_lt i
  have hj := indicationBit_lt j
  rw [BitVec.getLsbD_or, BitVec.getLsbD_shiftLeft, BitVec.getLsbD_one, Bool.or_comm]
  by_cases h : j = i
  · subst h; simp [hj]
  · have hne : indicationBit j ≠ indicationBit i := fun hb => h (indicationBit_inj hb)
    have hbit : ¬ (¬ indicationBit j < indicationBit i ∧ indicationBit j - indicationBit i = 0) := by omega
    simp only [h, decide_false, Bool.false_or]
    simpa using fun _ hle => by omega

theorem getLsbD_foldl_indications (c : Indication → Bool) (ls : List Indication) (w : BitVec 21) (j : Indication) :
    (ls.foldl (fun w i => if c i then w ||| 1#21 <<< indicationBit i else w) w).getLsbD (indicationBit j) =
      (w.getLsbD (indicationBit j) || (decide (j ∈ ls) && c j)) := by
  induction ls generalizing w with
  | nil => simp
  | cons i rest ih =>
    rw [List.foldl_cons, ih]
    by_cases hij : j = i
    · subst hij
      split
      · next hc => rw [getLsbD_or_indication]; simp [hc]
      · next hc => simp [hc]
    · split
      · rw [getLsbD_or_indication]; simp [hij]
      · simp [hij]

theorem conditionBits_bit (s : State) (i : Indication) :
    (conditionBits s).getLsbD (indicationBit i) = conditionValue s i := by
  simp [conditionBits, getLsbD_foldl_indications, mem_indications]

theorem conditionValue_raise (s : State) (i j : Indication) : conditionValue (s.raise i) j = conditionValue s j := by
  cases j <;> rfl

theorem conditionBits_started (s : State) (code : Nat) (body : List Word) :
    conditionBits (s.started code body) = conditionBits s := by
  have hv (i : Indication) : conditionValue (s.started code body) i = conditionValue s i := by cases i <;> rfl
  simp only [conditionBits, hv]

theorem conditionBits_raise (s : State) (i : Indication) : conditionBits (s.raise i) = conditionBits s := by
  simp only [conditionBits, conditionValue_raise]

/-- A field of a word is not 0 when one of its bits is set. -/
theorem extractLsb'_ne_zero_iff (w : Word) (start len : Nat) :
    w.extractLsb' start len ≠ 0 ↔ ∃ n, start ≤ n ∧ n < start + len ∧ w.getLsbD n = true := by
  constructor
  · intro h
    by_contra hn
    refine h (BitVec.eq_of_getLsbD_eq fun i hi => ?_)
    rw [BitVec.getLsbD_extractLsb']
    have : w.getLsbD (start + i) = false := by
      by_contra hb
      exact hn ⟨start + i, by omega, by omega, by simpa using hb⟩
    simp [this]
  · rintro ⟨n, hn, hlt, hb⟩ h
    have hbit := congrArg (·.getLsbD (n - start)) h
    simp only [BitVec.getLsbD_extractLsb'] at hbit
    rw [show start + (n - start) = n by omega, hb] at hbit
    have : n - start < len := by omega
    simp [this] at hbit

theorem extractLsb'_eq_zero {w : Word} {start len : Nat} (h : ∀ n, start ≤ n → n < start + len → w.getLsbD n = false) :
    w.extractLsb' start len = 0 := by
  by_contra hne
  obtain ⟨n, hn, hlt, hb⟩ := (extractLsb'_ne_zero_iff w start len).mp hne
  rw [h n hn hlt] at hb
  cases hb

/-- Settles O9: each indication has a bit of its own, and the three requests read and write those bits. -/
theorem indicationsAndEvents : Obligations.IndicationsAndEvents := by
  refine ⟨⟨fun _ _ => indicationBit_inj, fun s i => ⟨conditionBits_bit s i, fun j => ?_, rfl, conditionBits_raise s i⟩⟩,
    fun s => ⟨fun h => ⟨decide_eq_true_iff, rfl, rfl, rfl, rfl, rfl, rfl, rfl⟩, rfl, ?_, rfl, rfl, rfl, rfl⟩,
    fun s h => ⟨?_, fun w => ⟨?_, ?_, ?_, ?_⟩⟩⟩
  · exact getLsbD_or_indication _ i j
  · simp [conditionValue]
  · refine exec_modPort (f := id) rfl h (fun _ _ _ _ => rfl) (fun _ => ⟨rfl, rfl⟩) ?_
    rw [readEventsOwner, conditionBits_started]
    rfl
  · rintro ⟨n, hn, hle, hb⟩
    refine exec_same rfl h fun p => ?_
    rw [setEventEnablesOwner, if_pos ((extractLsb'_ne_zero_iff w 21 10).mpr ⟨n, hn, by omega, hb⟩)]
  · intro hw
    refine exec_modPort (f := fun p => { p with enables := w.setWidth 21, doneEnable := w.msb }) rfl h
      (fun _ _ _ _ => rfl) (fun _ => ⟨rfl, rfl⟩) ?_
    rw [setEventEnablesOwner, if_neg]
    exact not_not_intro (extractLsb'_eq_zero fun n hn hlt => hw n hn (by omega))
  · rintro ⟨n, hn, hle, hb⟩
    refine exec_same rfl h fun p => ?_
    rw [acknowledgeEventsOwner, if_pos ((extractLsb'_ne_zero_iff w 21 11).mpr ⟨n, hn, by omega, hb⟩)]
  · intro hw
    refine exec_modPort (f := fun p => { p with changes := p.changes &&& ~~~(w.setWidth 21) }) rfl h
      (fun _ _ _ _ => rfl) (fun _ => ⟨rfl, rfl⟩) ?_
    rw [acknowledgeEventsOwner, if_neg]
    exact not_not_intro (extractLsb'_eq_zero fun n hn hlt => hw n hn (by omega))

/-! ### Notices and statistics -/

theorem State.putNotice_room (s : State) (n : Notice) (h : s.port.notices.length < Config.noticeCapacity) :
    s.putNotice n = { s with port := { s.port with
      notices := s.port.notices ++ [n]
      changes := if s.port.notices = [] then s.port.changes ||| 1#21 <<< 17 else s.port.changes } } := by
  unfold State.putNotice
  rw [if_pos h]
  split
  · next hn => simp [State.modPort, State.raise, indicationBit, hn]
  · rfl

theorem State.putNotice_full (s : State) (n : Notice) (h : Config.noticeCapacity ≤ s.port.notices.length) :
    s.putNotice n = { s with port := { s.port with changes := s.port.changes ||| 1#21 <<< 18 } } := by
  unfold State.putNotice
  rw [if_neg (Nat.not_lt.mpr h)]
  rfl

theorem noticeWords_eq (n : Notice) : noticeWords n =
    [word n.fiche.series.val, word n.fiche.date, word n.fiche.sequence, word n.head.val, word n.sheet,
      if n.redraw then 1 else 0, word (n.counts[0] % 65536 + n.counts[1] * 65536),
      word (n.counts[2] % 65536 + n.counts[3] * 65536), word (n.counts[4] % 65536 + n.counts[5] * 65536),
      word (n.counts[6] % 65536 + n.counts[7] * 65536), word n.counts[8]] := by
  have hcounts : n.counts.toList = [n.counts[0], n.counts[1], n.counts[2], n.counts[3], n.counts[4], n.counts[5],
      n.counts[6], n.counts[7], n.counts[8]] := by
    apply List.ext_getElem <;> simp
    intro i hi
    interval_cases i <;> rfl
  rw [noticeWords, hcounts]
  rfl

/-- Settles O10: the two places of a notice, and the two answers of Read Notice. -/
theorem noticeQueue : Obligations.NoticeQueue := by
  refine ⟨noticeWords_eq, State.putNotice_room, State.putNotice_full, fun s h hn => ?_, fun s n rest h hn => ?_⟩
  · refine exec_modPort (f := id) rfl h (fun _ _ _ _ => rfl) (fun _ => ⟨rfl, rfl⟩) ?_
    rw [readNoticeOwner, show (s.started 0x63 []).port.notices = [] from hn]
    rfl
  · refine exec_modPort (f := fun p => { p with
      notices := rest
      changes := if rest = [] then p.changes ||| 1#21 <<< 17 else p.changes }) rfl h (fun _ _ _ _ => rfl) (fun _ => ⟨rfl, rfl⟩) ?_
    rw [readNoticeOwner, show (s.started 0x63 []).port.notices = n :: rest from hn]
    dsimp only
    split
    · next hr => simp [State.modPort, State.raise, indicationBit, hr]
    · next hr => simp [State.modPort]

/-- Settles O11: the group that kind and number name is answered and cleared. -/
theorem readStatistics : Obligations.ReadStatistics := by
  refine ⟨fun n => ?_, by decide, by decide, fun s kind number h => ⟨fun l hk hl => ?_, fun l hk hl => ?_, fun hbad => ?_⟩⟩
  · simp only [countUp, Config.counterLimit]
    split <;> omega
  · subst hk
    refine exec_answered (u := s.modLink l fun k => { k with counters := Vector.replicate 11 0 }) rfl h fun p => ?_
    simp only [readStatisticsOwner, if_true, indexOf_eq_some hl]
    rfl
  · subst hk
    refine exec_answered (u := s.modHead l fun k => { k with counters := Vector.replicate 7 0 }) rfl h fun p => ?_
    simp only [readStatisticsOwner, if_true, indexOf_eq_some hl]
    rfl
  · refine exec_same rfl h fun p => ?_
    unfold readStatisticsOwner
    split
    · next hk =>
      have hn : 8 ≤ number.toNat := by
        subst hk
        simpa [Nat.succ_le_iff] using hbad
      rw [indexOf_eq_none hn]
    · split
      · next hk =>
        have hn : 4 ≤ number.toNat := by
          subst hk
          simpa [Nat.succ_le_iff] using hbad
        rw [indexOf_eq_none hn]
      · rfl

end Sys2Proof.Machine
end

section
/-! Requests on records that find, void or retire them, and the refusals of Withdraw and Rekey (R25, R26, R86, R92 to R97). -/

namespace Sys2Proof.Machine

/-! ### Keys and searches -/

theorem Key.accountInRange_iff (k : Key) : k.accountInRange = true ↔ 1 ≤ k.account ∧ k.account ≤ 999999999999 := by
  rw [Key.accountInRange, Bool.and_eq_true, decide_eq_true_iff, decide_eq_true_iff]
  rfl

theorem Key.accountInRange_eq_false {k : Key} (h : k.account = 0 ∨ 999999999999 < k.account) : k.accountInRange = false := by
  rw [Bool.eq_false_iff]
  intro hc
  have := k.accountInRange_iff.mp hc
  omega

theorem State.findRecord_eq_some_iff {s : State} (h : s.directoryOrdered) {k : Key} {r : Record} :
    s.findRecord k = some r ↔ r ∈ s.records ∧ r.key = k := by
  refine ⟨State.findRecord_some, ?_⟩
  rintro ⟨hr, rfl⟩
  exact State.findRecord_of_mem h.1 hr

theorem State.findRecord_eq_none {s : State} {k : Key} (h : ∀ r ∈ s.records, r.key ≠ k) : s.findRecord k = none := by
  simpa [State.findRecord] using h

/-- In an ordered directory the record found is the one of the smallest greater key. -/
theorem State.findNextRecord_eq_some {s : State} (h : s.directoryOrdered) {k : Key} {r : Record} (hr : r ∈ s.records)
    (hk : k.before r.key = true)
    (hleast : ∀ x ∈ s.records, k.before x.key = true → x = r ∨ r.key.before x.key = true) :
    s.findNextRecord k = some r := by
  obtain ⟨as, bs, hrecords⟩ := List.append_of_mem hr
  refine List.find?_eq_some_iff_append.mpr ⟨hk, as, bs, hrecords, fun a ha => ?_⟩
  have hmem : a ∈ s.records := by rw [hrecords]; exact List.mem_append_left _ ha
  have hbefore : a.key.before r.key = true := by
    have hp := h.1
    rw [hrecords, List.pairwise_append] at hp
    exact hp.2.2 a ha r List.mem_cons_self
  have hirrefl (x : Key) (hx : x.before x = true) : False := by rw [Key.before_irrefl] at hx; cases hx
  rw [Bool.not_eq_true', Bool.eq_false_iff]
  intro hka
  rcases hleast a hmem hka with rfl | hra
  · exact hirrefl _ hbefore
  · exact hirrefl _ (Key.before_trans hbefore hra)

theorem State.findNextRecord_eq_none {s : State} {k : Key} (h : ∀ r ∈ s.records, k.before r.key = false) :
    s.findNextRecord k = none := by
  simpa [State.findNextRecord] using h

/-! ### Find and Find Next -/

theorem placeWords_eq (p : Place) : placeWords p =
    [word p.fiche.series.val, word p.fiche.date, word p.fiche.sequence, word p.head.val, word p.sheet, word p.cell,
      word p.width] := rfl

theorem locationWords_eq (l : Location) : locationWords l = placeWords l.place ++ [if l.dose then 1 else 0] := rfl

theorem locationWords_fun : locationWords = fun l : Location =>
    [word l.place.fiche.series.val, word l.place.fiche.date, word l.place.fiche.sequence, word l.place.head.val,
      word l.place.sheet, word l.place.cell, word l.place.width, if l.dose then 1 else 0] := rfl

theorem length_optionalWords {count : Nat} {part : Option (List Word)} (h : ∀ ws ∈ part, ws.length = count) :
    (optionalWords count part).length = count + 1 := by
  cases part with
  | none => simp [optionalWords]
  | some ws => simp [optionalWords, h ws rfl]

theorem length_recordWords (r : Record) : (recordWords r).length = 63 := by
  have himage := length_optionalWords (count := 9) (part := r.image.map imageWords) (by simp [imageWords])
  have hreserved := length_optionalWords (count := 8) (part := r.reserved.map reservedWords)
    (by simp [reservedWords, placeWords_eq])
  have hcurrent := length_optionalWords (count := 8) (part := r.current.map locationWords)
    (by simp [locationWords_eq, placeWords_eq])
  simp only [recordWords, List.length_append, himage, hreserved, hcurrent, List.length_take, List.length_replicate]
  simp [keyWords]

/-- Settles O12: in an ordered directory a search for a key finds its record, and one for a greater key the next. -/
theorem findAndFindNext : Obligations.FindAndFindNext := by
  refine ⟨fun s k r hd => State.findRecord_eq_some_iff hd, ⟨fun r => ⟨length_recordWords r, ?_⟩,
    fun k1 k2 k3 s h hd => ⟨fun hbad => ?_, fun hlo hhi => ⟨fun hn => ?_, fun r hr hk => ?_⟩⟩⟩,
    fun k1 k2 k3 s h hd => ⟨fun hbad => ?_, fun hhi => ⟨fun hn => ?_, fun r hr hk hleast => ?_⟩⟩⟩
  · cases himage : r.image <;> cases hreserved : r.reserved <;> cases hcurrent : r.current <;>
      simp [recordWords, himage, hreserved, hcurrent, optionalWords, imageWords, reservedWords, locationWords_fun,
        placeWords_eq, keyWords, List.replicate]
  · refine exec_same rfl h fun p => ?_
    simp [findOwner, Key.accountInRange_eq_false hbad]
  · refine exec_same rfl h fun p => ?_
    have hf : (s.onPort p).findRecord (keyOf k1 k2 k3) = none := State.findRecord_eq_none hn
    simp [findOwner, (Key.accountInRange_iff _).mpr ⟨hlo, hhi⟩, hf]
  · refine exec_same rfl h fun p => ?_
    have hf : (s.onPort p).findRecord (keyOf k1 k2 k3) = some r := (State.findRecord_eq_some_iff hd).mpr ⟨hr, hk⟩
    simp [findOwner, (Key.accountInRange_iff _).mpr ⟨hlo, hhi⟩, hf]
  · refine exec_same rfl h fun p => ?_
    rw [findNextOwner, if_pos (show Config.accountLimit < _ from hbad)]
  · refine exec_same rfl h fun p => ?_
    rw [findNextOwner, if_neg (show ¬ Config.accountLimit < _ from Nat.not_lt.mpr hhi),
      show (s.onPort p).findNextRecord (keyOf k1 k2 k3) = none from State.findNextRecord_eq_none hn]
  · refine exec_same rfl h fun p => ?_
    rw [findNextOwner, if_neg (show ¬ Config.accountLimit < _ from Nat.not_lt.mpr hhi),
      show (s.onPort p).findNextRecord (keyOf k1 k2 k3) = some r from State.findNextRecord_eq_some hd hr hk hleast]

/-! ### The slots that locations lie in -/

theorem State.slotOfPlace_eq_some_iff {s : State} {p : Place} {i : Fin 12} :
    s.slotOfPlace p = some i → s.slotMatches i p := by
  intro h
  have hf := List.find?_some h
  simp only [Bool.and_eq_true, decide_eq_true_iff, and_assoc] at hf
  exact hf

theorem State.slotOfPlace_eq_none {s : State} {p : Place} (h : s.slotOfPlace p = none) (i : Fin 12) : ¬ s.slotMatches i p := by
  have := List.find?_eq_none.mp h i (List.mem_finRange i)
  simpa [State.slotMatches] using this

theorem State.liveSlotOfPlace_eq_none {s : State} {p : Place}
    (h : ∀ i, s.slotMatches i p → s.slots[i].state = .indexing) : s.liveSlotOfPlace p = none := by
  unfold State.liveSlotOfPlace
  cases hi : s.slotOfPlace p with
  | none => rfl
  | some i =>
    have := h i (State.slotOfPlace_eq_some_iff hi)
    rw [Option.filter_some, this]
    rfl

theorem State.liveSlotOfPlace_eq_some {s : State} {p : Place} {i : Fin 12} (h : s.liveOnly i p) :
    s.liveSlotOfPlace p = some i := by
  obtain ⟨hlive, hmatch, honly⟩ := h
  unfold State.liveSlotOfPlace
  cases hi : s.slotOfPlace p with
  | none => exact absurd hmatch (State.slotOfPlace_eq_none hi i)
  | some j =>
    cases honly j (State.slotOfPlace_eq_some_iff hi)
    rw [Option.filter_some, if_pos]
    rcases hlive with hl | hl <;> rw [hl] <;> rfl

theorem State.liveSlotOfPlace_some {s : State} {p : Place} {i : Fin 12} (h : s.liveSlotOfPlace p = some i) :
    (s.slots[i].state = .opened ∨ s.slots[i].state = .closing) ∧ s.slotMatches i p := by
  obtain ⟨hi, hlive⟩ := Option.filter_eq_some_iff.mp h
  exact ⟨by simpa using hlive, State.slotOfPlace_eq_some_iff hi⟩

theorem Record.mem_filmPlaces {r : Record} {p : Place} :
    p ∈ r.filmPlaces ↔ ∃ l, (r.current = some l ∨ l ∈ r.superseded) ∧ l.place = p := by
  simp [Record.filmPlaces, or_and_right, exists_or]

/-! ### Refusals of Withdraw and Rekey -/

theorem withdrawOwner_of_found {s : State} {k : Key} {r : Record} (hk : k.accountInRange = true)
    (hr : s.findRecord k = some r) : withdrawOwner k s =
      match r.state with
      | .exposing | .retakeExposing => (s, refusal .inExposure)
      | .exposed => (s, refusal .exposedRecord)
      | .receiving => (s.withdrawReceiving r, withdrawAnswer .receiving)
      | .waiting => (s.withdrawWaiting r, withdrawAnswer .waiting)
      | .reserved => (s.withdrawReserved r, withdrawAnswer .reserved)
      | .retakeReceiving => ((s.markWithdrawn r.key).cancelRetake r, withdrawAnswer .retakeReceiving)
      | .retakeWaiting => ((s.leaveWaiting r.series r.key).cancelRetake r, withdrawAnswer .retakeWaiting)
      | .retakeReserved => (s.withdrawRetakeReserved r, withdrawAnswer .retakeReserved) := by
  simp only [withdrawOwner, hk, hr]
  cases r.state <;> rfl

theorem rekeyOwner_of_found {s : State} {old new : Key} {r : Record} (hold : old.accountInRange = true)
    (hnew : new.accountInRange = true) (hr : s.findRecord old = some r) : rekeyOwner old new s =
      match r.state with
      | .receiving => (s, refusal .receiving)
      | .exposing | .retakeExposing => (s, refusal .inExposure)
      | .retakeReceiving | .retakeWaiting | .retakeReserved => (s, refusal .retakePending)
      | .waiting | .reserved | .exposed =>
        if !s.allLive r.filmPlaces then (s, refusal .ficheClosed)
        else if (s.findRecord new).isSome then (s, refusal .duplicateKey)
        else (s.rekeyRecord r new, okWith []) := by
  simp only [rekeyOwner, hold, hnew, hr]
  cases r.state <;> rfl

theorem State.allLive_eq_true {s : State} {ps : List Place} (h : ∀ p ∈ ps, s.liveSlotOfPlace p ≠ none) :
    s.allLive ps = true := by
  simpa [State.allLive, Option.isSome_iff_ne_none] using h

theorem State.allLive_eq_false {s : State} {ps : List Place} (h : ∃ p ∈ ps, s.liveSlotOfPlace p = none) :
    s.allLive ps = false := by
  simpa [State.allLive] using h

/-- Settles O13: the tests of the two owners, one after the other. -/
theorem withdrawAndRekeyRefusals : Obligations.WithdrawAndRekeyRefusals := by
  refine ⟨fun st => by cases st <;> simp [RecordState.retake], Key.accountInRange_iff, fun _ _ => Record.mem_filmPlaces,
    fun s p => ⟨State.liveSlotOfPlace_eq_none, fun i => State.liveSlotOfPlace_eq_some⟩,
    fun k1 k2 k3 s h => ⟨fun hbad => exec_same rfl h fun p => ?_, fun hlo hhi => ⟨fun hn => exec_same rfl h fun p => ?_,
      fun r hr => ⟨fun hst => exec_same rfl h fun p => ?_, fun hst => exec_same rfl h fun p => ?_⟩⟩⟩,
    fun o1 o2 o3 n1 n2 n3 s h => ⟨fun hbad => exec_same rfl h fun p => ?_, fun hold hnew =>
      ⟨fun hn => exec_same rfl h fun p => ?_, fun r hr => ⟨fun hst => exec_same rfl h fun p => ?_,
        fun hst => exec_same rfl h fun p => ?_, fun hst => exec_same rfl h fun p => ?_,
        fun hst => ⟨fun hdead => exec_same rfl h fun p => ?_, fun hlive hdup => exec_same rfl h fun p => ?_⟩⟩⟩⟩⟩
  · simp [withdrawOwner, Key.accountInRange_eq_false hbad]
  · have hf : (s.onPort p).findRecord (keyOf k1 k2 k3) = none := hn
    simp [withdrawOwner, (Key.accountInRange_iff _).mpr ⟨hlo, hhi⟩, hf]
  · rw [withdrawOwner_of_found ((Key.accountInRange_iff _).mpr ⟨hlo, hhi⟩) (s := s.onPort p) hr]
    rcases hst with hst | hst <;> rw [hst]
  · rw [withdrawOwner_of_found ((Key.accountInRange_iff _).mpr ⟨hlo, hhi⟩) (s := s.onPort p) hr, hst]
  · rcases hbad with hb | hb <;> simp [rekeyOwner, hb]
  · have hf : (s.onPort p).findRecord (keyOf o1 o2 o3) = none := hn
    simp [rekeyOwner, hold, hnew, hf]
  · rw [rekeyOwner_of_found hold hnew (s := s.onPort p) hr, hst]
  · rw [rekeyOwner_of_found hold hnew (s := s.onPort p) hr]
    rcases hst with hst | hst <;> rw [hst]
  · rw [rekeyOwner_of_found hold hnew (s := s.onPort p) hr]
    simp only [List.mem_cons, List.not_mem_nil, or_false] at hst
    rcases hst with hst | hst | hst <;> rw [hst]
  · have hd : (s.onPort p).allLive r.filmPlaces = false := State.allLive_eq_false hdead
    rw [rekeyOwner_of_found hold hnew (s := s.onPort p) hr, hd]
    simp only [List.mem_cons, List.not_mem_nil, or_false] at hst
    rcases hst with hst | hst | hst <;> rw [hst] <;> rfl
  · have hd : (s.onPort p).allLive r.filmPlaces = true := State.allLive_eq_true hlive
    have hi : ((s.onPort p).findRecord (keyOf n1 n2 n3)).isSome = true := Option.isSome_iff_ne_none.mpr hdup
    rw [rekeyOwner_of_found hold hnew (s := s.onPort p) hr, hd, hi]
    simp only [List.mem_cons, List.not_mem_nil, or_false] at hst
    rcases hst with hst | hst | hst <;> rw [hst] <;> rfl

/-! ### Void and Retire Fiche -/

/-- Settles O15: the tests of the owner, one after the other. -/
theorem voidAnswers : Obligations.VoidAnswers := by
  refine ⟨fun f n => ?_, fun k1 k2 k3 s h => ⟨fun hbad => exec_same rfl h fun p => ?_, fun hlo hhi =>
    ⟨fun hn => exec_same rfl h fun p => ?_, fun r hr => ?_⟩⟩⟩
  · simp [GridRef.text, Format.gridRef, letter, letterA, BitVec.ofNat_add]
  · simp [voidOwner, Key.accountInRange_eq_false hbad]
  · have hf : (s.onPort p).findRecord (keyOf k1 k2 k3) = none := hn
    simp [voidOwner, (Key.accountInRange_iff _).mpr ⟨hlo, hhi⟩, hf]
  have hk := (Key.accountInRange_iff _).mpr ⟨hlo, hhi⟩
  have hf (p : Port) : (s.onPort p).findRecord (keyOf k1 k2 k3) = some r := hr
  have hkey := (State.findRecord_some hr).2
  refine ⟨fun hst => exec_same rfl h fun p => ?_, fun hst => exec_same rfl h fun p => ?_, fun place dose hst hc =>
    ⟨fun hdead => exec_same rfl h fun p => ?_, fun i hlive => ?_⟩⟩
  · simp only [List.mem_cons, List.not_mem_nil, or_false] at hst
    rcases hst with hst | hst | hst | hst <;> simp [voidOwner, hk, hf, hst]
  · cases hrs : r.state <;> rw [hrs] at hst <;> simp [RecordState.retake] at hst <;> simp [voidOwner, hk, hf, hrs]
  · have hl : (s.onPort p).liveSlotOfPlace place = none := State.liveSlotOfPlace_eq_none hdead
    simp [voidOwner, hk, hf, hst, hc, hl]
  · rw [hkey]
    refine exec_answered (u := (s.modCell i place.cell fun c => { c with state := .void }).removeRecord (keyOf k1 k2 k3))
      rfl h fun p => ?_
    have hl : (s.onPort p).liveSlotOfPlace place = some i := State.liveSlotOfPlace_eq_some hlive
    simp only [voidOwner, hk, hf, hst, hc, hl]
    rfl

theorem Record.liesOn_iff {r : Record} {f : FicheId} : r.liesOn f = true ↔ ∃ l, r.current = some l ∧ l.place.fiche = f := by
  unfold Record.liesOn
  split
  · next l hl => simp [hl]
  · next hn => simp [hn]

theorem State.ficheInSlot_iff {s : State} {f : FicheId} :
    s.ficheInSlot f = true ↔ ∃ i : Fin 12, s.slots[i].state ≠ .free ∧ s.slots[i].fiche = f := by
  simp [State.ficheInSlot, allSlots]

/-- Settles O17: the records that are retired are those the filter drops. -/
theorem retireFicheAnswers : Obligations.RetireFicheAnswers := by
  refine ⟨fun r f => ⟨?_, ?_⟩, fun a b c s h => ⟨fun hbad => exec_same rfl h fun p => ?_, fun f ha hb hc hb' hc0 hc' =>
    ⟨fun hin => exec_same rfl h fun p => ?_, fun hout => ?_⟩⟩⟩
  · rw [Record.retired, Bool.and_eq_true, Record.liesOn_iff, decide_eq_true_iff, and_comm]
  · rw [Record.keptAtRetire, Bool.and_eq_true, Record.liesOn_iff, and_comm]
  · unfold retireOwner
    split
    · rfl
    · next i hi =>
      have ha : ¬ 31 < a.toNat := by
        intro ha
        rw [indexOf_eq_none ha] at hi
        cases hi
      rw [if_pos]
      have hc : c = 0 ↔ c.toNat = 0 := ⟨fun h => by simp [h], fun h => BitVec.eq_of_toNat_eq h⟩
      rw [← hc]
      tauto
  all_goals
    have hc1 : c.toNat ≠ 0 := fun h0 => hc0 (BitVec.eq_of_toNat_eq h0)
    have hf : (⟨f.series, b.toNat, c.toNat⟩ : FicheId) = f := by rw [hb, hc]
    have hrange : ¬ (65535 < b.toNat ∨ c.toNat = 0 ∨ 9999 < c.toNat) := by omega
  · have hslot : (s.onPort p).ficheInSlot f = true := State.ficheInSlot_iff.mpr hin
    simp only [retireOwner, indexOf_eq_some ha, if_neg hrange, hf, hslot, if_true]
  · refine exec_answered (u := { s with records := s.records.filter fun r => !r.retired f }) rfl h fun p => ?_
    have hslot : ¬ (s.onPort p).ficheInSlot f = true := by
      rw [State.ficheInSlot_iff]
      rintro ⟨i, hi, he⟩
      exact hout i hi he
    simp only [retireOwner, indexOf_eq_some ha, if_neg hrange, hf, if_neg hslot]

end Sys2Proof.Machine
end

section
/-! Operations that neither read the port's request cycle nor write it: an answered request is the operation, answered. -/

namespace Sys2Proof.Machine

/-- The state with the fields of the port's request cycle (R184) given. -/
def State.withCycle (s : State) (done : Bool) (execution : Option Execution) (request : Vector Word 16)
    (response : Vector Word 64) : State :=
  s.onPort { s.port with done := done, execution := execution, requestBuffer := request, responseBuffer := response }

/-- The operation neither reads the fields of the request cycle nor writes them. -/
def PassesCycle (f : State → State) : Prop :=
  ∀ s d e b c, f (s.withCycle d e b c) = (f s).withCycle d e b c

theorem PassesCycle.comp {f g : State → State} (hg : PassesCycle g) (hf : PassesCycle f) :
    PassesCycle fun s => g (f s) := fun s d e b c =>
  (congrArg g (hf s d e b c)).trans (hg (f s) d e b c)

theorem PassesCycle.foldl {α : Type} {f : State → α → State} (h : ∀ a, PassesCycle (f · a)) (as : List α) :
    PassesCycle fun s => as.foldl f s := by
  intro s d e b c
  induction as generalizing s with
  | nil => rfl
  | cons a rest ih =>
    exact (congrArg (fun t => rest.foldl f t) (h a s d e b c)).trans (ih (f s a))

/-- What such an operation leaves of the buffers. -/
theorem PassesCycle.buffers {f : State → State} (h : PassesCycle f) (s : State) :
    (f s).port.requestBuffer = s.port.requestBuffer ∧ (f s).port.responseBuffer = s.port.responseBuffer := by
  have hs : f s = (f s).withCycle s.port.done s.port.execution s.port.requestBuffer s.port.responseBuffer := h s _ _ _ _
  exact ⟨(congrArg (fun t : State => t.port.requestBuffer) hs).trans rfl,
    (congrArg (fun t : State => t.port.responseBuffer) hs).trans rfl⟩

/-- A request on an IDLE port whose owner is an operation that passes the request cycle by. -/
theorem exec_passes {i : Instr} {code : Nat} {body : List Word} {owner : State → State × Response} {s : State}
    {f : State → State} {r : Response} (hf : PassesCycle f) (hq : requestOf i = some ⟨code, body, owner⟩)
    (h : s.port.execution = none) (ho : ∀ p, owner (s.onPort p) = (f (s.onPort p), r)) :
    exec i s = .next ((f s).answered code body r) := by
  have hs := ho (s.started code body).port
  rw [← State.started_eq] at hs
  obtain ⟨hb, hc⟩ := hf.buffers s
  rw [exec_idle hq h hs]
  have hstart : s.started code body = s.withCycle false (some ⟨overwrite s.port.requestBuffer (requestMessage code body), false⟩)
      (overwrite s.port.requestBuffer (requestMessage code body)) s.port.responseBuffer := rfl
  rw [hstart, hf]
  simp only [State.withCycle, State.answered, hb, hc]

/-! ### The operations -/

theorem passes_sendFrame (l : Fin 8) (f : OutFrame) : PassesCycle (·.sendFrame l f) := fun _ _ _ _ _ => rfl

theorem passes_raise (i : Indication) : PassesCycle (·.raise i) := fun _ _ _ _ _ => rfl

theorem passes_assertHold : PassesCycle State.assertHold := by
  refine PassesCycle.comp (g := fun s => allLinks.foldl _ s)
    (f := fun s => ({ s with holdAsserted := true } : State).raise .hold) (.foldl (fun l s d e b c => ?_) _) fun _ _ _ _ _ => rfl
  show (if s.links[l].active = true then (s.withCycle d e b c).sendHold l else s.withCycle d e b c) =
    State.withCycle (if s.links[l].active = true then s.sendHold l else s) d e b c
  split <;> rfl

theorem passes_clearHold : PassesCycle State.clearHold := by
  refine PassesCycle.comp (g := fun s => allLinks.foldl _ s)
    (f := fun s => ({ s with holdAsserted := false } : State).raise .hold) (.foldl (fun l s d e b c => ?_) _)
    fun _ _ _ _ _ => rfl
  show (if s.links[l].holdTimer.isSome = true then ((s.withCycle d e b c).sendFrame l (.hold 0)).stopHoldTimer l
      else s.withCycle d e b c) =
    State.withCycle (if s.links[l].holdTimer.isSome = true then (s.sendFrame l (.hold 0)).stopHoldTimer l else s) d e b c
  split <;> rfl

theorem passes_judgeHold : PassesCycle State.judgeHold := by
  intro s d e b c
  show (if (!s.holdAsserted && decide (Config.holdHighMark ≤ s.used.length)) = true then (s.withCycle d e b c).assertHold
    else if (s.holdAsserted && decide (s.used.length ≤ Config.holdLowMark)) = true then (s.withCycle d e b c).clearHold
    else s.withCycle d e b c) = _
  rw [passes_assertHold, passes_clearHold]
  show _ = s.judgeHold.withCycle d e b c
  rw [State.judgeHold]
  split
  · rfl
  · split <;> rfl

theorem passes_indexingTest (i : Fin 12) : PassesCycle (·.indexingTest i) := by
  intro s d e b c
  show (s.withCycle d e b c).indexingTest i = (s.indexingTest i).withCycle d e b c
  rw [State.indexingTest_eq, State.indexingTest_eq,
    show (s.withCycle d e b c).slots = s.slots from rfl]
  split <;> rfl

theorem passes_closeFiche (i : Fin 12) : PassesCycle (·.closeFiche i) := by
  intro s d e b c
  show (if s.slots[i].state = .opened then ((s.modSlot i fun t => { t with state := .closing }).withCycle d e b c).indexingTest i
      else s.withCycle d e b c) = (s.closeFiche i).withCycle d e b c
  unfold State.closeFiche
  split
  · exact passes_indexingTest i _ d e b c
  · rfl

theorem passes_judgeCutOff (c : Fin 32) : PassesCycle (·.judgeCutOff c) := by
  intro s d e b w
  show (s.withCycle d e b w).judgeCutOff c = (s.judgeCutOff c).withCycle d e b w
  have hopen : (s.withCycle d e b w).openSlot c = s.openSlot c := rfl
  unfold State.judgeCutOff
  rw [hopen]
  cases s.openSlot c with
  | none => rfl
  | some i =>
    show (if s.series[c].state = .cutOff ∧ s.pendingCount c = 0 then (s.withCycle d e b w).closeFiche i
      else s.withCycle d e b w) =
      State.withCycle (if s.series[c].state = .cutOff ∧ s.pendingCount c = 0 then s.closeFiche i else s) d e b w
    split
    · exact passes_closeFiche i s d e b w
    · rfl

end Sys2Proof.Machine
end

section
/-! Withdraw and Rekey take effect (R87 to R90, R95). -/

namespace Sys2Proof.Machine

/-! ### Withdraw -/

/-- A record's blocks are free, and it leaves the directory or, with a retake pending, returns to EXPOSED (R87 to R90). -/
def State.recordLeft (s : State) (r : Record) : State :=
  { s with
    used := s.used.filter fun b => !(blocksOf r.image).contains b
    records := if r.state.retake then
        s.records.map fun x => if x.key = r.key then { x with image := none, reserved := none, state := .exposed } else x
      else s.records.filter fun x => decide (x.key ≠ r.key) }

/-- What is judged on a record that has left or returned (R72, R132). -/
def State.judgeLeft (s : State) (r : Record) : State :=
  if r.state.retake then s.judgeHold else s.judgeHold.judgeCutOff r.series

theorem passes_judgeLeft (r : Record) : PassesCycle (·.judgeLeft r) := by
  intro s d e b c
  unfold State.judgeLeft
  split
  · exact passes_judgeHold s d e b c
  · exact (passes_judgeCutOff r.series).comp passes_judgeHold s d e b c

/-- The hold is judged on the blocks alone: a change of the records may be put in before it. -/
theorem State.judgeHold_records (s : State) (rs : List Record) :
    { s.judgeHold with records := rs } = ({ s with records := rs } : State).judgeHold := by
  rw [s.judgeHold_tables rs s.waiting s.slots s.heads]
  simp

theorem State.removed_eq (s : State) {r : Record} (h : r.state.retake = false) :
    (s.release (blocksOf r.image)).removeRecord r.key = (s.recordLeft r).judgeHold := by
  unfold State.recordLeft State.release State.removeRecord
  rw [State.judgeHold_records, h]
  simp

theorem State.cancelRetake_eq (s : State) {r : Record} (h : r.state.retake = true) :
    s.cancelRetake r = (s.recordLeft r).judgeHold := by
  unfold State.recordLeft State.cancelRetake State.release State.updateRecord
  rw [State.judgeHold_records, h]
  simp [Record.retakeCancelled]

theorem withdrawOwner_waiting {s : State} {k : Key} {r : Record} (hk : k.accountInRange = true)
    (hr : s.findRecord k = some r) (hst : r.state = .waiting ∨ r.state = .retakeWaiting) :
    withdrawOwner k s = (((s.leaveWaiting r.series r.key).recordLeft r).judgeLeft r, withdrawAnswer r.state) := by
  rw [withdrawOwner_of_found hk hr]
  rcases hst with hst | hst
  · rw [State.judgeLeft, ← State.removed_eq _ (by rw [hst]; rfl), hst]
    rfl
  · rw [State.judgeLeft, ← State.cancelRetake_eq _ (by rw [hst]; rfl), hst]
    rfl

theorem withdrawOwner_receiving {s : State} {k : Key} {r : Record} (hk : k.accountInRange = true)
    (hr : s.findRecord k = some r) (hst : r.state = .receiving ∨ r.state = .retakeReceiving) :
    withdrawOwner k s = (((s.markWithdrawn r.key).recordLeft r).judgeLeft r, withdrawAnswer r.state) := by
  rw [withdrawOwner_of_found hk hr]
  rcases hst with hst | hst
  · rw [State.judgeLeft, ← State.removed_eq _ (by rw [hst]; rfl), hst]
    rfl
  · rw [State.judgeLeft, ← State.cancelRetake_eq _ (by rw [hst]; rfl), hst]
    rfl

theorem withdrawOwner_reserved {s : State} {k : Key} {r : Record} {v : Reserved} (hk : k.accountInRange = true)
    (hr : s.findRecord k = some r) (hst : r.state = .reserved ∨ r.state = .retakeReserved) (hv : r.reserved = some v) :
    withdrawOwner k s = (((s.freeReserved v).recordLeft r).judgeHold.indexingTest v.slot, withdrawAnswer r.state) := by
  rw [withdrawOwner_of_found hk hr]
  rcases hst with hst | hst
  · rw [← State.removed_eq _ (by rw [hst]; rfl), hst]
    simp only [State.withdrawReserved, hv]
  · rw [← State.cancelRetake_eq _ (by rw [hst]; rfl), hst]
    simp only [State.withdrawRetakeReserved, hv]

theorem withdrawAnswer_eq (st : RecordState) :
    withdrawAnswer st = okWith [word (recordStateCode st), if st.retake then 1 else 0] := rfl

/-- The link whose reception a Withdraw marks: the one that receives the key. -/
theorem State.markWithdrawn_eq_self {s : State} {k : Key}
    (h : ∀ l : Fin 8, ¬ ∃ c, s.links[l].reception = some c ∧ c.key = k ∧ c.withdrawn = false) : s.markWithdrawn k = s := by
  have hnone : s.receivingLink k = none := by
    refine List.find?_eq_none.mpr fun l _ hl => ?_
    split at hl
    · next c hc => exact h l ⟨c, hc, by simpa using hl⟩
    · cases hl
  unfold State.markWithdrawn
  rw [hnone]

theorem State.markWithdrawn_eq {s : State} {k : Key} {l : Fin 8} {c : Reception} (hc : s.links[l].reception = some c)
    (hk : c.key = k) (hw : c.withdrawn = false)
    (honly : ∀ m : Fin 8, (∃ c, s.links[m].reception = some c ∧ c.key = k ∧ c.withdrawn = false) → m = l) :
    s.markWithdrawn k = s.modLink l fun v => { v with reception := some { c with withdrawn := true } } := by
  have hsome : s.receivingLink k = some l := by
    cases hf : s.receivingLink k with
    | none =>
      have := List.find?_eq_none.mp hf l (List.mem_finRange l)
      rw [hc] at this
      simp [hk, hw] at this
    | some m =>
      have hm := List.find?_some hf
      split at hm
      · next d hd => rw [honly m ⟨d, hd, by simpa using hm⟩]
      · cases hm
  unfold State.markWithdrawn
  rw [hsome]
  simp only [State.modLink, hc, Option.map_some]

theorem State.freeReserved_eq (s : State) (v : Reserved) :
    s.freeReserved v = { s with
      slots := s.slots.set v.slot { s.slots[v.slot] with
        cells := if v.place.width = 2 then
            (s.slots[v.slot].cells.modify v.place.cell fun _ => ⟨.empty, none, 1, false⟩).modify (v.place.cell + 1)
              fun _ => ⟨.empty, none, 1, false⟩
          else s.slots[v.slot].cells.modify v.place.cell fun _ => ⟨.empty, none, 1, false⟩ }
      heads := s.heads.set v.place.head { s.heads[v.place.head] with
        queue := s.heads[v.place.head].queue.filter fun e => !e.namesCell v.slot v.place.cell } } := by
  unfold State.freeReserved State.modCells
  split
  · simp only [State.modCell, State.modSlot_modSlot]; rfl
  · rfl

theorem passes_freeReserved (v : Reserved) : PassesCycle (·.freeReserved v) := by
  intro s d e b c
  show (s.withCycle d e b c).freeReserved v = (s.freeReserved v).withCycle d e b c
  rw [State.freeReserved_eq, State.freeReserved_eq]
  rfl

theorem Entry.namesCell_iff (e : Entry) (i : Fin 12) (n : Nat) : e.namesCell i n = true ↔ ∃ c, e = .cell i n c := by
  cases e with
  | cell j m c => simp [Entry.namesCell]
  | _ => simp [Entry.namesCell]

/-- Settles O14: a record that waits or is received leaves with its waiting place or its reception, one that holds a cell
with its cell and its entry. -/
theorem withdrawTakesEffect : Obligations.WithdrawTakesEffect := by
  refine ⟨Entry.namesCell_iff, ⟨rfl, fun _ => rfl⟩, fun k1 k2 k3 s r h hlo hhi hr hst => ⟨fun hw => ?_, fun hrec =>
    ⟨fun hno => ?_, fun l c hc hkey hw honly => ?_⟩⟩, fun k1 k2 k3 s r v h hlo hhi hr hst hv => ?_⟩
  all_goals have hk := (Key.accountInRange_iff _).mpr ⟨hlo, hhi⟩
  · have hpass := (passes_judgeLeft r).comp (f := fun s => (s.leaveWaiting r.series r.key).recordLeft r) fun _ _ _ _ _ => rfl
    exact exec_passes hpass rfl h fun p => withdrawOwner_waiting (s := s.onPort p) hk hr hw
  · refine exec_passes ((passes_judgeLeft r).comp (f := fun s => s.recordLeft r) fun _ _ _ _ _ => rfl) rfl h fun p => ?_
    have howner := withdrawOwner_receiving (s := s.onPort p) hk hr hrec
    rwa [State.markWithdrawn_eq_self (s := s.onPort p) hno] at howner
  · refine exec_passes ((passes_judgeLeft r).comp (f := fun s =>
      (s.modLink l fun v => { v with reception := some { c with withdrawn := true } }).recordLeft r) fun _ _ _ _ _ => rfl)
      rfl h fun p => ?_
    have howner := withdrawOwner_receiving (s := s.onPort p) hk hr hrec
    rwa [State.markWithdrawn_eq (s := s.onPort p) hc hkey hw honly] at howner
  · have hpass := ((passes_indexingTest v.slot).comp passes_judgeHold).comp
      ((PassesCycle.comp (g := fun s => s.recordLeft r) fun _ _ _ _ _ => rfl) (passes_freeReserved v))
    have hexec := exec_passes (i := .withdraw k1 k2 k3) hpass rfl h
      fun p => withdrawOwner_reserved (s := s.onPort p) hk hr hst hv
    rw [State.freeReserved_eq, withdrawAnswer_eq] at hexec
    rcases hst with hst | hst <;>
      simpa only [State.recordLeft, hst, RecordState.retake, reduceCtorEq, Bool.false_eq_true, if_true, if_false] using hexec

end Sys2Proof.Machine
end

section
/-! A Rekey rewrites the key in the cells that a record covers, and in no others (R95). -/

namespace Sys2Proof.Machine

/-! ### Cells rekeyed -/

/-- The second slot is the first with the new key in the cells of a set. -/
def Slot.Rekeyed (a b : Slot) (new : Key) (covered : Nat → Prop) : Prop :=
  { b with cells := a.cells } = a ∧ b.cells.length = a.cells.length ∧
    ∀ n c, a.cells[n]? = some c →
      (covered n → b.cells[n]? = some { c with key := some new }) ∧ (¬ covered n → b.cells[n]? = some c)

theorem Slot.Rekeyed.refl (a : Slot) (new : Key) : a.Rekeyed a new fun _ => False :=
  ⟨rfl, rfl, fun _ _ hc => ⟨False.elim, fun _ => hc⟩⟩

theorem Slot.Rekeyed.trans {a b c : Slot} {new : Key} {p q : Nat → Prop} (hab : a.Rekeyed b new p)
    (hbc : b.Rekeyed c new q) : a.Rekeyed c new fun n => p n ∨ q n := by
  obtain ⟨hrest, hlength, hcells⟩ := hab
  obtain ⟨hrest', hlength', hcells'⟩ := hbc
  refine ⟨?_, hlength'.trans hlength, fun n x hx => ?_⟩
  · calc ({ c with cells := a.cells } : Slot)
      _ = { ({ c with cells := b.cells } : Slot) with cells := a.cells } := rfl
      _ = { b with cells := a.cells } := by rw [hrest']
      _ = a := hrest
  · obtain ⟨hp, hnp⟩ := hcells n x hx
    by_cases hpn : p n
    · obtain ⟨hq, hnq⟩ := hcells' n _ (hp hpn)
      refine ⟨fun _ => ?_, fun hn => absurd (.inl hpn) hn⟩
      by_cases hqn : q n
      · exact hq hqn
      · exact hnq hqn
    · obtain ⟨hq, hnq⟩ := hcells' n _ (hnp hpn)
      exact ⟨fun hn => hq (hn.resolve_left hpn), fun hn => hnq fun hqn => hn (.inr hqn)⟩

theorem Slot.Rekeyed.congr {a b : Slot} {new : Key} {p q : Nat → Prop} (h : a.Rekeyed b new p) (hpq : ∀ n, p n ↔ q n) :
    a.Rekeyed b new q := by
  obtain rfl : p = q := funext fun n => propext (hpq n)
  exact h

theorem Slot.Rekeyed.fields {a b : Slot} {new : Key} {p : Nat → Prop} (h : a.Rekeyed b new p) :
    b.state = a.state ∧ b.sheet = a.sheet ∧ b.fiche = a.fiche := by
  obtain ⟨hrest, -⟩ := h
  generalize a.cells = cells at hrest
  subst hrest
  exact ⟨rfl, rfl, rfl⟩

theorem Slot.rekeyed_modify (a : Slot) (new : Key) (m : Nat) :
    a.Rekeyed { a with cells := a.cells.modify m fun c => { c with key := some new } } new (· = m) := by
  refine ⟨rfl, by simp, fun n c hc => ⟨?_, fun hn => ?_⟩⟩
  · rintro rfl
    simp [hc]
  · simp [hc, Ne.symm hn]

/-- The new key stands in the cells of a set, slot by slot. -/
def State.Rekeyed (s t : State) (new : Key) (covered : Fin 12 → Nat → Prop) : Prop :=
  ∀ j : Fin 12, s.slots[j].Rekeyed t.slots[j] new (covered j)

theorem State.Rekeyed.trans {s t u : State} {new : Key} {p q : Fin 12 → Nat → Prop} (hst : s.Rekeyed t new p)
    (htu : t.Rekeyed u new q) : s.Rekeyed u new fun j n => p j n ∨ q j n := fun j => (hst j).trans (htu j)

theorem State.Rekeyed.congr {s t : State} {new : Key} {p q : Fin 12 → Nat → Prop} (h : s.Rekeyed t new p)
    (hpq : ∀ j n, p j n ↔ q j n) : s.Rekeyed t new q := fun j => (h j).congr (hpq j)

theorem State.rekeyed_modCell (s : State) (new : Key) (i : Fin 12) (m : Nat) :
    s.Rekeyed (s.modCell i m fun c => { c with key := some new }) new fun j n => j = i ∧ n = m := by
  intro j
  unfold State.modCell
  rw [State.modSlot_at]
  split
  · next hj =>
    rw [hj]
    exact (Slot.rekeyed_modify _ new m).congr fun n => by simp
  · next hj => exact (Slot.Rekeyed.refl _ new).congr fun n => by simp [hj]

theorem State.rekeyed_modCells (s : State) (new : Key) (i : Fin 12) (m width : Nat) :
    s.Rekeyed (s.modCells i m width (fun c => { c with key := some new }) fun c => { c with key := some new }) new
      fun j n => j = i ∧ (n = m ∨ (width = 2 ∧ n = m + 1)) := by
  unfold State.modCells
  split
  · next hw =>
    exact ((s.rekeyed_modCell new i m).trans (State.rekeyed_modCell _ new i (m + 1))).congr fun j n => by
      simp [hw, and_or_left]
  · next hw => exact (s.rekeyed_modCell new i m).congr fun j n => by simp [hw]

/-- Rekeying moves no slot and no fiche. -/
theorem State.Rekeyed.liveSlot {s t : State} {new : Key} {covered : Fin 12 → Nat → Prop} (h : s.Rekeyed t new covered)
    (p : Place) : t.liveSlotOfPlace p = s.liveSlotOfPlace p := by
  have hslot (j : Fin 12) : t.slots[j].state = s.slots[j].state ∧ t.slots[j].sheet = s.slots[j].sheet ∧
      t.slots[j].fiche = s.slots[j].fiche := (h j).fields
  have hstate (j : Fin 12) := (hslot j).1
  have hsheet (j : Fin 12) := (hslot j).2.1
  have hfiche (j : Fin 12) := (hslot j).2.2
  simp only [State.liveSlotOfPlace, State.slotOfPlace, hstate, hsheet, hfiche]

theorem State.rekeyed_place (s : State) (new : Key) (p : Place) :
    s.Rekeyed (s.rekeyPlace new p) new fun j n => s.liveSlotOfPlace p = some j ∧ p.covers n := by
  unfold State.rekeyPlace
  split
  · next i hi => exact (s.rekeyed_modCells new i p.cell p.width).congr fun j n => by simp [hi, eq_comm]
  · next hi => exact fun j => (Slot.Rekeyed.refl _ new).congr fun n => by simp [hi]

theorem State.rekeyed_places (s : State) (new : Key) (ps : List Place) :
    s.Rekeyed (ps.foldl (State.rekeyPlace new) s) new fun j n => ∃ p ∈ ps, s.liveSlotOfPlace p = some j ∧ p.covers n := by
  induction ps generalizing s with
  | nil => exact fun j => (Slot.Rekeyed.refl _ new).congr fun n => by simp
  | cons p rest ih =>
    have hp := s.rekeyed_place new p
    refine (hp.trans (ih (s.rekeyPlace new p))).congr fun j n => ?_
    simp only [hp.liveSlot, List.mem_cons, exists_eq_or_imp]

/-! ### Rekey -/

/-- The record at its new place, its cells not yet rewritten. -/
def State.recordMoved (s : State) (r : Record) (new : Key) : State :=
  ((s.removeRecord r.key).addRecord { r with key := new }).modWaiting r.series
    fun ks => ks.map fun x => if x = r.key then new else x

/-- A cell that a Rekey rewrites: held by a RESERVED record, or on film of an EXPOSED one. -/
abbrev State.rekeysCell (s : State) (r : Record) (j : Fin 12) (n : Nat) : Prop :=
  (r.state = .reserved ∧ ∃ v ∈ r.reserved, v.slot = j ∧ v.place.covers n) ∨
    (r.state = .exposed ∧ ∃ p ∈ r.filmPlaces, s.liveSlotOfPlace p = some j ∧ p.covers n)

/-- The state is another one but for its slots. -/
abbrev State.sameButSlots (s t : State) : Prop := t = { s with slots := t.slots }

theorem State.modCells_sameButSlots {s t : State} (h : s.sameButSlots t) (i : Fin 12) (n width : Nat) (f g : Cell → Cell) :
    s.sameButSlots (t.modCells i n width f g) := by
  rw [h]
  unfold State.modCells
  split <;> rfl

theorem State.rekeyPlace_sameButSlots {s t : State} (h : s.sameButSlots t) (new : Key) (p : Place) :
    s.sameButSlots (t.rekeyPlace new p) := by
  unfold State.rekeyPlace
  split
  · exact State.modCells_sameButSlots h _ _ _ _ _
  · exact h

theorem State.rekeyRecord_sameButSlots (s : State) (r : Record) (new : Key) :
    (s.recordMoved r new).sameButSlots (s.rekeyRecord r new) := by
  have hself : (s.recordMoved r new).sameButSlots (s.recordMoved r new) := rfl
  unfold State.rekeyRecord
  dsimp only
  split
  · split
    · exact State.modCells_sameButSlots hself _ _ _ _ _
    · exact hself
  · exact frame_foldl (s.recordMoved r new).sameButSlots _ (fun t p ht => State.rekeyPlace_sameButSlots ht new p) _ _ hself
  · exact hself

theorem State.rekeyRecord_rekeyed (s : State) (r : Record) (new : Key) :
    s.Rekeyed (s.rekeyRecord r new) new (s.rekeysCell r) := by
  unfold State.rekeyRecord
  dsimp only
  split
  · next hst =>
    split
    · next v hv =>
      refine (State.rekeyed_modCells (s.recordMoved r new) new v.slot v.place.cell v.place.width).congr fun j n => ?_
      simp [State.rekeysCell, hst, hv, eq_comm]
    · next hv => exact fun j => (Slot.Rekeyed.refl _ new).congr fun n => by simp [State.rekeysCell, hst, hv]
  · next hst =>
    refine (State.rekeyed_places (s.recordMoved r new) new r.filmPlaces).congr fun j n => ?_
    simp only [State.rekeysCell, hst, reduceCtorEq, false_and, false_or, true_and]
    rfl
  · next h1 h2 =>
    exact fun j => (Slot.Rekeyed.refl _ new).congr fun n => by
      refine iff_of_false id ?_
      rintro (⟨h, -⟩ | ⟨h, -⟩)
      · exact h1 h
      · exact h2 h

theorem passes_modCells (i : Fin 12) (n width : Nat) (f g : Cell → Cell) : PassesCycle (·.modCells i n width f g) := by
  intro s d e b c
  unfold State.modCells
  split <;> rfl

theorem passes_rekeyPlace (new : Key) (p : Place) : PassesCycle fun s => s.rekeyPlace new p := by
  intro s d e b c
  show (s.withCycle d e b c).rekeyPlace new p = (s.rekeyPlace new p).withCycle d e b c
  have hl : (s.withCycle d e b c).liveSlotOfPlace p = s.liveSlotOfPlace p := rfl
  unfold State.rekeyPlace
  rw [hl]
  cases s.liveSlotOfPlace p with
  | none => rfl
  | some i => exact passes_modCells i _ _ _ _ s d e b c

theorem passes_rekeyRecord (r : Record) (new : Key) : PassesCycle (·.rekeyRecord r new) := by
  intro s d e b c
  show (s.withCycle d e b c).rekeyRecord r new = (s.rekeyRecord r new).withCycle d e b c
  unfold State.rekeyRecord
  dsimp only
  split
  · split
    · exact passes_modCells _ _ _ _ _ (s.recordMoved r new) d e b c
    · rfl
  · exact PassesCycle.foldl (passes_rekeyPlace new) r.filmPlaces (s.recordMoved r new) d e b c
  · rfl

/-- Settles O16: the record moves, and the cells that carry it are rewritten. -/
theorem rekeyMovesRecord : Obligations.RekeyMovesRecord := by
  intro o1 o2 o3 n1 n2 n3 s r h hd hold hnew hr hst hlive hfree
  obtain ⟨hmem, hkey⟩ := State.findRecord_some hr
  have hexec : exec (.rekey o1 o2 o3 n1 n2 n3) s =
      .next ((s.rekeyRecord r (keyOf n1 n2 n3)).answered 0x0014 [o1, o2, o3, n1, n2, n3] (okWith [])) := by
    refine exec_passes (passes_rekeyRecord r _) rfl h fun p => ?_
    have hl : (s.onPort p).allLive r.filmPlaces = true := State.allLive_eq_true hlive
    have hn : ((s.onPort p).findRecord (keyOf n1 n2 n3)).isSome = false := by
      rw [show (s.onPort p).findRecord (keyOf n1 n2 n3) = none from hfree]
      rfl
    rw [rekeyOwner_of_found hold hnew (s := s.onPort p) hr, hl, hn]
    simp only [List.mem_cons, List.not_mem_nil, or_false] at hst
    rcases hst with hst | hst | hst <;> rw [hst] <;> rfl
  have hsame := s.rekeyRecord_sameButSlots r (keyOf n1 n2 n3)
  have hrecords : (s.rekeyRecord r (keyOf n1 n2 n3)).records =
      ((s.removeRecord r.key).addRecord { r with key := keyOf n1 n2 n3 }).records := by rw [hsame]; rfl
  have hwaiting : (s.rekeyRecord r (keyOf n1 n2 n3)).waiting = (s.recordMoved r (keyOf n1 n2 n3)).waiting := by rw [hsame]
  refine ⟨_, hexec, ?_, ?_, fun x => ?_, fun c => ?_, s.rekeyRecord_rekeyed r (keyOf n1 n2 n3)⟩
  · rw [hsame]
    rfl
  · have := (s.moveRecord_keeps hmem hfree).directory hd
    simpa only [State.directoryOrdered, State.answered, hrecords] using this
  · simp only [State.answered, hrecords, State.addRecord_records, mem_insertRecord, State.removeRecord_records,
      List.mem_filter, decide_eq_true_eq, hkey, ne_eq]
  · simp only [State.answered, hwaiting, State.recordMoved]
    rw [State.modWaiting_at, hkey]
    split
    · next hc => rw [hc]; rfl
    · rfl

end Sys2Proof.Machine
end

section
/-! The requests on formats (R27 to R30, R50 to R55). -/

namespace Sys2Proof.Machine

theorem mul_ceilDiv_bounds {a b : Nat} (hb : 0 < b) : a ≤ b * ceilDiv a b ∧ b * ceilDiv a b < a + b := by
  have hdiv := Nat.div_add_mod (a + b - 1) b
  have hmod := Nat.mod_lt (a + b - 1) hb
  unfold ceilDiv
  omega

theorem State.formatInUse_iff {s : State} {n : Fin 4} :
    s.formatInUse n = true ↔ ∃ e : Fin 32, s.series[e].state ≠ .undefined ∧ s.series[e].format = n := by
  simp [State.formatInUse, allSeries]

theorem Format.inRange_iff (f : Format) : f.inRange = true ↔ (1 ≤ f.rows ∧ f.rows ≤ 16) ∧ (1 ≤ f.cols ∧ f.cols ≤ 32) ∧
    (1000 ≤ f.px ∧ f.px ≤ 20000) ∧ (1000 ≤ f.py ∧ f.py ≤ 20000) ∧ f.ox ≤ 148000 ∧ f.oy ≤ 105000 ∧
    (2000 ≤ f.band ∧ f.band ≤ 20000) ∧ f.gutter ≤ 500 := by
  simp only [Format.inRange, Bool.and_eq_true, decide_eq_true_eq]
  simp only [Config.sheetLength, Config.filmWidth]
  tauto

theorem Format.doubleCapacity_iff (f : Format) : f.doubleCapacity = true ↔
    2 ≤ f.cols ∧ 2 ≤ f.rows * f.cols - ceilDiv (f.rows * f.cols) 121 := by
  rw [Format.doubleCapacity, Bool.and_eq_true, decide_eq_true_iff, decide_eq_true_iff]
  rfl

/-- What Set Format answers when index and fields are in range. -/
theorem setFormatOwner_of_inRange {i : Word} {n : Fin 4} {f : Format} (hi : i.toNat = n.val) (hf : f.inRange = true) (s : State) :
    setFormatOwner i f s =
      if s.formatInUse n then (s, refusal .formatInUse)
      else if !f.valid then (s, refusal .badFormat)
      else (s.setFormatEntry n f, okWith [word f.indexCells, word f.documentCells]) := by
  simp only [setFormatOwner, indexOf_eq_some hi, hf, Bool.not_true, Bool.false_eq_true, if_false]

/-- Settles O18: the tests of the two owners. -/
theorem formatRequests : Obligations.FormatRequests := by
  refine ⟨fun a b hb => mul_ceilDiv_bounds hb, fun f => ⟨rfl, rfl, rfl, ?_, fun _ => rfl, rfl⟩, fun s n => ⟨fun f hf => ?_,
    fun hn => ?_, fun i hi => ?_⟩, Format.inRange_iff, fun s h => ⟨fun i r c px py ox oy hh g => ?_, fun i => ⟨fun hi => ?_,
      fun n hi => ⟨fun hn => ?_, fun f hf => ?_⟩⟩⟩⟩
  · exact f.doubleCapacity_iff
  · simp only [State.formatAt, hf, Option.getD_some]
  · simp only [State.formatAt, hn, Option.getD_none, zeroFormat]
  · rw [State.slotFormat, hi]
  · refine ⟨fun hbad => exec_same rfl h fun p => ?_, fun n hi hf => ⟨fun huse => exec_same rfl h fun p => ?_,
      fun hfree => ⟨fun hv => exec_same rfl h fun p => ?_, fun hv => ?_⟩⟩⟩
    · unfold setFormatOwner
      split
      · rfl
      · next n hn =>
        rcases hbad with hb | hb
        · rw [indexOf_eq_none hb] at hn
          cases hn
        · rw [formatOf, hb]
          rfl
    all_goals have hfr : (formatOf r c px py ox oy hh g).inRange = true := hf
    · rw [setFormatOwner_of_inRange hi hfr, if_pos (State.formatInUse_iff (s := s.onPort p) |>.mpr huse)]
    all_goals
      have hnot (p : Port) : ¬ (s.onPort p).formatInUse n = true := fun hu => by
        obtain ⟨e, he, hen⟩ := State.formatInUse_iff.mp hu
        exact hfree e he hen
    · rw [setFormatOwner_of_inRange hi hfr, if_neg (hnot p), formatOf, hv]
      rfl
    · refine exec_answered (u := s.setFormatEntry n (formatOf r c px py ox oy hh g)) rfl h fun p => ?_
      rw [setFormatOwner_of_inRange hi hfr, if_neg (hnot p), show (formatOf r c px py ox oy hh g).valid = true from hv]
      rfl
  · refine exec_same rfl h fun p => ?_
    simp only [readFormatOwner, indexOf_eq_none hi]
  · refine exec_same rfl h fun p => ?_
    simp only [readFormatOwner, indexOf_eq_some hi, State.onPort, hn]
  · refine exec_same rfl h fun p => ?_
    simp only [readFormatOwner, indexOf_eq_some hi, State.onPort, hf, formatWords, Format.indexCells, Format.documentCells,
      Format.cellCount, flagWord, Format.doubleCapacity_iff]

/-! ### The fit -/

/-- A fit is that of a trial, and is judged by the pitch of that trial. -/
theorem Format.fit_cases (f : Format) (w h : Nat) :
    (16384 < (f.trial 1 w h).pitch ∧ f.fit w h = .fits (f.settleFit 1 w h 16384 true)) ∨
    (4096 ≤ (f.trial 1 w h).pitch ∧ (f.trial 1 w h).pitch ≤ 16384 ∧
      f.fit w h = .fits (f.settleFit 1 w h (f.trial 1 w h).pitch false)) ∨
    ((f.trial 1 w h).pitch < 4096 ∧ f.doubleCapacity = true ∧ 4096 ≤ (f.trial 2 w h).pitch ∧
      f.fit w h = .fits (f.settleFit 2 w h (f.trial 2 w h).pitch false)) ∨
    ((f.trial 1 w h).pitch < 4096 ∧ f.doubleCapacity = true ∧ (f.trial 2 w h).pitch < 4096 ∧
      f.fit w h = .oversize (f.trial 2 w h).sx (f.trial 2 w h).sy) ∨
    ((f.trial 1 w h).pitch < 4096 ∧ f.doubleCapacity = false ∧ f.fit w h = .oversize (f.trial 1 w h).sx (f.trial 1 w h).sy) := by
  unfold Format.fit
  dsimp only
  split
  · next h1 => exact .inl ⟨h1, rfl⟩
  · next h1 =>
    split
    · next h2 => exact .inr (.inl ⟨h2, Nat.not_lt.mp h1, rfl⟩)
    · next h2 =>
      have hlow := Nat.not_le.mp h2
      split
      · next hd =>
        split
        · next h3 => exact .inr (.inr (.inl ⟨hlow, hd, h3, rfl⟩))
        · next h3 => exact .inr (.inr (.inr (.inl ⟨hlow, hd, Nat.not_le.mp h3, rfl⟩)))
      · next hd => exact .inr (.inr (.inr (.inr ⟨hlow, by simpa using hd, rfl⟩)))

theorem Format.pitch_one (f : Format) (w h : Nat) : (f.trial 1 w h).pitch =
    min ((f.px - 2 * f.gutter) * 4096 / w) ((f.py - 2 * f.gutter) * 4096 / h) := by
  simp [Format.trial, Trial.pitch, Format.drawableWidth, Format.drawableHeight]

theorem Format.pitch_two (f : Format) (w h : Nat) : (f.trial 2 w h).pitch =
    min ((2 * f.px - 2 * f.gutter) * 4096 / w) ((f.py - 2 * f.gutter) * 4096 / h) := rfl

/-- What Try Fit answers when index and image are in range. -/
theorem tryFitOwner_of_inRange {i w h : Word} {n : Fin 4} (hi : i.toNat = n.val) (hw : 64 ≤ w.toNat) (hw' : w.toNat ≤ 8192)
    (hh : 64 ≤ h.toNat) (hh' : h.toNat ≤ 8192) (s : State) : tryFitOwner i w h s =
      match s.formats[n] with
      | none => (s, refusal .badFormat)
      | some f =>
        match f.fit w.toNat h.toNat with
        | .fits fit => (s, okWith (fitWords fit))
        | .oversize sx sy => (s, ⟨.oversize, [word sx, word sy]⟩) := by
  have hin : ¬ (w.toNat < 64 ∨ 8192 < w.toNat ∨ h.toNat < 64 ∨ 8192 < h.toNat) := by omega
  simp only [tryFitOwner, indexOf_eq_some hi, if_neg hin] <;> rfl

/-- Settles O20: Try Fit's tests, and the fit by its cases. -/
theorem fitsAndTryFit : Obligations.FitsAndTryFit := by
  refine ⟨fun i w h s hidle => ⟨fun hbad => exec_same rfl hidle fun p => ?_, fun n hi hw hw' hh hh' =>
    ⟨fun hn => exec_same rfl hidle fun p => ?_, fun f hf => ⟨fun x hx => exec_same rfl hidle fun p => ?_,
      fun sx sy hx => exec_same rfl hidle fun p => ?_⟩⟩⟩, fun f w h => ⟨fun x hx => ?_, fun x hx => ?_, fun sx sy hx => ?_⟩⟩
  · unfold tryFitOwner
    split
    · rfl
    · next n hn =>
      rw [if_pos]
      refine hbad.resolve_left fun hi => ?_
      rw [indexOf_eq_none hi] at hn
      cases hn
  · rw [tryFitOwner_of_inRange hi hw hw' hh hh']
    simp only [State.onPort, hn]
  · rw [tryFitOwner_of_inRange hi hw hw' hh hh']
    simp only [State.onPort, hf, hx, fitWords, flagWord]
  · rw [tryFitOwner_of_inRange hi hw hw' hh hh']
    simp only [State.onPort, hf, hx]
  · rcases f.fit_cases w h with ⟨-, hc⟩ | ⟨-, -, hc⟩ | ⟨-, -, -, hc⟩ | ⟨-, -, -, hc⟩ | ⟨-, -, hc⟩ <;> rw [hx] at hc <;>
      cases hc <;> exact ⟨rfl, rfl, rfl, rfl⟩
  · rw [← f.pitch_one, ← f.pitch_two]
    rcases f.fit_cases w h with ⟨h1, hc⟩ | ⟨h1, h2, hc⟩ | ⟨h1, hd, h2, hc⟩ | ⟨-, -, -, hc⟩ | ⟨-, -, hc⟩ <;> rw [hx] at hc <;>
      cases hc
    · exact .inl ⟨rfl, by omega, (Nat.min_eq_right h1.le).symm, iff_of_true rfl h1⟩
    · exact .inl ⟨rfl, h1, (Nat.min_eq_left h2).symm, iff_of_false Bool.false_ne_true (Nat.not_lt.mpr h2)⟩
    · exact .inr ⟨rfl, h1, hd, h2, rfl, rfl⟩
  · rw [← f.pitch_one, ← f.pitch_two]
    rcases f.fit_cases w h with ⟨-, hc⟩ | ⟨-, -, hc⟩ | ⟨-, -, -, hc⟩ | ⟨h1, hd, h2, hc⟩ | ⟨h1, hd, hc⟩ <;> rw [hx] at hc <;>
      cases hc
    · exact ⟨h1, fun _ => h2, by rw [if_pos hd]; rfl, rfl⟩
    · exact ⟨h1, fun hd' => absurd (hd.symm.trans hd') (by decide), by rw [hd]; rfl, rfl⟩

end Sys2Proof.Machine
end

section
/-! The requests on series (R33 to R39). -/

namespace Sys2Proof.Machine

theorem templateChar_iff (ch : Byte) : templateChar ch = true ↔
    (0x41 ≤ ch.toNat ∧ ch.toNat ≤ 0x5A) ∨ (0x30 ≤ ch.toNat ∧ ch.toNat ≤ 0x39) ∨ ch = 0x20 ∨ ch = 0x2D ∨ ch = 0x2E := by
  simp only [templateChar, Bool.or_eq_true, Bool.and_eq_true, decide_eq_true_eq, beq_iff_eq, BitVec.le_def, or_assoc]
  rfl

theorem State.seriesInSlot_iff {s : State} {c : Fin 32} :
    s.seriesInSlot c = true ↔ ∃ j : Fin 12, s.slots[j].state ≠ .free ∧ s.slots[j].fiche.series = c := by
  simp [State.seriesInSlot, allSlots]

theorem State.pendingCount_pos_iff {s : State} {c : Fin 32} :
    0 < s.pendingCount c ↔ ∃ r ∈ s.records, r.series = c ∧ (r.state = .receiving ∨ r.state = .waiting) := by
  have hpending (st : RecordState) : st.pending = true ↔ st = .receiving ∨ st = .waiting := by
    cases st <;> simp [RecordState.pending]
  simp [State.pendingCount, List.countP_pos_iff, hpending]

theorem State.recordCount_pos_iff {s : State} {c : Fin 32} : 0 < s.recordCount c ↔ ∃ r ∈ s.records, r.series = c := by
  simp [State.recordCount, List.countP_pos_iff]

theorem State.seriesBusy_iff {s : State} {c : Fin 32} : s.seriesBusy c = true ↔
    (∃ j : Fin 12, s.slots[j].state ≠ .free ∧ s.slots[j].fiche.series = c) ∨
      ∃ r ∈ s.records, r.series = c ∧ r.state ∈ [RecordState.receiving, .waiting, .retakeReceiving, .retakeWaiting] := by
  have hretake : s.retakeUnplaced c = true ↔
      ∃ r ∈ s.records, r.series = c ∧ (r.state = .retakeReceiving ∨ r.state = .retakeWaiting) := by
    simp [State.retakeUnplaced]
  simp only [State.seriesBusy, Bool.or_eq_true, decide_eq_true_eq, State.seriesInSlot_iff, State.pendingCount_pos_iff, hretake,
    List.mem_cons, List.not_mem_nil, or_false, or_assoc]
  refine or_congr_right ⟨?_, ?_⟩
  · rintro (⟨r, hr, hc, h⟩ | ⟨r, hr, hc, h⟩)
    · exact ⟨r, hr, hc, by tauto⟩
    · exact ⟨r, hr, hc, by tauto⟩
  · rintro ⟨r, hr, hc, h⟩
    by_cases hp : r.state = .receiving ∨ r.state = .waiting
    · exact .inl ⟨r, hr, hc, hp⟩
    · exact .inr ⟨r, hr, hc, by tauto⟩

/-! ### Set Series and Read Series -/

/-- The request fields that Set Series refuses (R33, test 1). -/
abbrev seriesFieldsBad (b m n : Word) (text : Vector Word 7) (d : Word) : Prop :=
  3 < b.toNat ∨ m = 0 ∨ 15 < m.toNat ∨ 65535 < d.toNat ∨ 28 < n.toNat ∨ ∃ ch ∈ templateText n text, templateChar ch = false

theorem templateText_bad_iff (n : Word) (text : Vector Word 7) :
    (templateText n text).all templateChar = false ↔ ∃ ch ∈ templateText n text, templateChar ch = false := by
  simp

theorem seriesFields_eq_none {b m n : Word} {text : Vector Word 7} {d : Word} (h : seriesFieldsBad b m n text d) :
    seriesFields b m n text d = none := by
  unfold seriesFields
  split
  · rfl
  · next i hi =>
    rw [if_pos]
    rw [templateText_bad_iff]
    refine h.resolve_left fun hb => ?_
    rw [indexOf_eq_none hb] at hi
    cases hi

theorem seriesFields_eq_some {b m n : Word} {text : Vector Word 7} {d : Word} {i : Fin 4} (hi : b.toNat = i.val)
    (h : ¬ seriesFieldsBad b m n text d) :
    seriesFields b m n text d = some ⟨i, m.setWidth 4, templateText n text, d.toNat⟩ := by
  have hrest := fun hr => h (.inr hr)
  unfold seriesFields
  rw [indexOf_eq_some hi]
  dsimp only
  exact if_neg (by rwa [templateText_bad_iff])

/-- What Set Series answers when index and fields are good. -/
theorem setSeriesOwner_of_good {a b m n : Word} {text : Vector Word 7} {d : Word} {c : Fin 32} {i : Fin 4}
    (ha : a.toNat = c.val) (hi : b.toNat = i.val) (h : ¬ seriesFieldsBad b m n text d) (s : State) :
    setSeriesOwner a b m n text d s =
      if s.series[c].state = .cutOff then (s, refusal .seriesClosed)
      else if s.formats[i] = none then (s, refusal .badFormat)
      else if s.series[c].state = .active ∧ s.seriesBusy c = true then (s, refusal .seriesBusy)
      else (if s.series[c].state = .active ∧ s.series[c].date ≠ d.toNat then
          (s.modSeries c (·.rewritten ⟨i, m.setWidth 4, templateText n text, d.toNat⟩)).retry (.dateCodeChanged c)
        else s.modSeries c (·.rewritten ⟨i, m.setWidth 4, templateText n text, d.toNat⟩), okWith []) := by
  simp only [setSeriesOwner, indexOf_eq_some ha, seriesFields_eq_some hi h]

theorem State.setSeries_answers (a b m n : Word) (text : Vector Word 7) (d : Word) (s : State)
    (h : s.port.execution = none) :
    let body := [a, b, m, n] ++ text.toList ++ [d]
    let bad := 31 < a.toNat ∨ seriesFieldsBad b m n text d
    (bad → exec (.setSeries a b m n text d) s = .next (s.answered 0x0023 body (refusal .badArgument))) ∧
     ∀ (c : Fin 32) (i : Fin 4), a.toNat = c.val → b.toNat = i.val → ¬ bad →
       let busy := s.seriesBusy c = true
       (s.series[c].state = .cutOff →
         exec (.setSeries a b m n text d) s = .next (s.answered 0x0023 body (refusal .seriesClosed))) ∧
       (s.series[c].state ≠ .cutOff → s.formats[i] = none →
         exec (.setSeries a b m n text d) s = .next (s.answered 0x0023 body (refusal .badFormat))) ∧
       (s.series[c].state = .active → s.formats[i] ≠ none → busy →
         exec (.setSeries a b m n text d) s = .next (s.answered 0x0023 body (refusal .seriesBusy))) ∧
       (s.series[c].state = .undefined ∨ (s.series[c].state = .active ∧ s.series[c].date ≠ d.toNat ∧ ¬ busy) →
         s.formats[i] ≠ none →
         exec (.setSeries a b m n text d) s = .next (State.answered
           { s with
             series := s.series.set c
               { state := .active, format := i, headMask := m.setWidth 4, template := templateText n text,
                 date := d.toNat, next := 1, exhausted := false }
             retryEvents := if s.series[c].state = .active then s.retryEvents ++ [.dateCodeChanged c]
               else s.retryEvents }
           0x0023 body (okWith []))) ∧
       (s.series[c].state = .active → s.series[c].date = d.toNat → ¬ busy → s.formats[i] ≠ none →
         exec (.setSeries a b m n text d) s = .next (State.answered
           { s with series := s.series.set c { s.series[c] with
               format := i, headMask := m.setWidth 4, template := templateText n text } }
           0x0023 body (okWith []))) := by
  refine ⟨fun hbad => exec_same rfl h fun p => ?_, fun c i ha hi hgood => ?_⟩
  · unfold setSeriesOwner
    split
    · next c' d' hc hd =>
      rcases hbad with hb | hb
      · rw [indexOf_eq_none hb] at hc
        cases hc
      · rw [seriesFields_eq_none hb] at hd
        cases hd
    · rfl
  · have howner := setSeriesOwner_of_good ha hi (fun hb => hgood (.inr hb))
    refine ⟨fun hcut => exec_same rfl h fun p => ?_, fun hcut hn => exec_same rfl h fun p => ?_,
      fun hact hn hbusy => exec_same rfl h fun p => ?_, fun hst hn => ?_, fun hact hdate hbusy hn => ?_⟩
    · rw [howner (s.onPort p)]
      exact if_pos hcut
    · rw [howner (s.onPort p)]
      exact (if_neg hcut).trans (if_pos hn)
    · rw [howner (s.onPort p)]
      have hcut : s.series[c].state ≠ .cutOff := by rw [hact]; decide
      exact (if_neg hcut).trans ((if_neg hn).trans (if_pos ⟨hact, hbusy⟩))
    · have hcut : s.series[c].state ≠ .cutOff := by
        rcases hst with hst | ⟨hst, -⟩ <;> rw [hst] <;> decide
      have hbusy : ¬ (s.series[c].state = .active ∧ s.seriesBusy c = true) := by
        rintro ⟨hact, hbusy⟩
        rcases hst with hst | ⟨-, -, hnot⟩
        · rw [hst] at hact; cases hact
        · exact hnot hbusy
      have hdate : ¬ (s.series[c].state = .active ∧ s.series[c].date = d.toNat) := by
        rintro ⟨hact, hd⟩
        rcases hst with hst | ⟨-, hne, -⟩
        · rw [hst] at hact; cases hact
        · exact hne hd
      refine exec_answered (u := { s with
          series := s.series.set c
            { state := .active, format := i, headMask := m.setWidth 4, template := templateText n text,
              date := d.toNat, next := 1, exhausted := false }
          retryEvents := if s.series[c].state = .active then s.retryEvents ++ [.dateCodeChanged c]
            else s.retryEvents }) rfl h fun p => ?_
      rw [howner (s.onPort p)]
      refine ((if_neg hcut).trans ((if_neg hn).trans (if_neg hbusy))).trans ?_
      simp only [State.modSeries, State.retry, Series.rewritten, State.onPort, if_neg hdate]
      split
      · next hact => rw [if_pos hact.1]
      · next hact =>
        rw [if_neg fun ha => hact ⟨ha, fun hd => hdate ⟨ha, hd⟩⟩]
    · have hcut : s.series[c].state ≠ .cutOff := by rw [hact]; decide
      refine exec_answered (u := { s with series := s.series.set c { s.series[c] with
               format := i, headMask := m.setWidth 4, template := templateText n text } }) rfl h fun p => ?_
      rw [howner (s.onPort p)]
      refine ((if_neg hcut).trans ((if_neg hn).trans (if_neg fun hb => hbusy hb.2))).trans ?_
      simp only [State.modSeries, Series.rewritten, State.onPort, hact, hdate, and_self, if_true, ne_eq, not_true_eq_false,
        and_false, if_false]

theorem length_packText_of_mul {n : Nat} {t : Text} (h : t.length = 4 * n) : (packText t).length = n := by
  induction n generalizing t with
  | zero => rw [List.eq_nil_of_length_eq_zero h]; rfl
  | succ n ih =>
    match t, h with
    | a :: b :: c :: d :: rest, h =>
      have hrest : rest.length = 4 * n := by simp only [List.length_cons] at h; omega
      simp [packText, ih hrest]

theorem optionalWords_slot (o : Option (Fin 12)) : optionalWords 1 (o.map fun i => [word i.val]) =
    match o with | some i => [1, word i.val] | none => [0, 0] := by
  cases o <;> rfl

theorem State.pendingCount_eq (s : State) (c : Fin 32) : s.pendingCount c =
    s.records.countP fun r => decide (r.series = c) && (decide (r.state = .receiving) || decide (r.state = .waiting)) := by
  unfold State.pendingCount
  congr 1
  funext r
  cases r.state <;> rfl

/-- Settles O22: the tests of the two owners. -/
theorem setAndReadSeries : Obligations.SetAndReadSeries := by
  refine ⟨templateChar_iff, fun s c => ⟨fun i => State.openSlot_some, (s.openSlot_eq_none_iff c).mp⟩,
    fun a b m n text d s h => ?_, fun a s h => ⟨fun ha => exec_same rfl h fun p => ?_, fun c ha hlen => ?_⟩⟩
  · simpa only [State.seriesBusy_iff] using State.setSeries_answers a b m n text d s h
  · simp only [readSeriesOwner, indexOf_eq_none ha]
  · refine ⟨(List.range (28 - s.series[c].template.length)).map fun i => (Config.freeWord (s.freeCount + i)).setWidth 8,
      by simp, length_packText_of_mul (n := 7) ?_, ?_⟩
    · simp only [List.length_append, List.length_map, List.length_range]
      omega
    · refine (exec_answered (u := { s with freeCount := s.freeCount + 28 }) (r := okWith (seriesWords s c)) rfl h
        fun p => ?_).trans ?_
      · simp only [readSeriesOwner, indexOf_eq_some ha]
        rfl
      · rw [seriesWords]
        simp only [optionalWords_slot, State.recordCount, State.pendingCount_eq]
        rfl

/-! ### Clear, Cut Off and Reopen -/

theorem State.judgeCutOff_eq_self {s : State} {c : Fin 32}
    (h : s.series[c].state ≠ .cutOff ∨ (∃ r ∈ s.records, r.series = c ∧ (r.state = .receiving ∨ r.state = .waiting)) ∨
      ∀ i : Fin 12, s.slots[i].state = .opened → s.slots[i].fiche.series ≠ c) : s.judgeCutOff c = s := by
  unfold State.judgeCutOff
  split
  · next i hi =>
    obtain ⟨hopen, hseries⟩ := State.openSlot_some hi
    rw [if_neg]
    rintro ⟨hcut, hcount⟩
    rcases h with h | h | h
    · exact h hcut
    · exact absurd (State.pendingCount_pos_iff.mpr h) (by omega)
    · exact h i hopen hseries
  · rfl

theorem State.judgeCutOff_eq_closeFiche {s : State} {c : Fin 32} {i : Fin 12} (hcut : s.series[c].state = .cutOff)
    (hwaits : ¬ ∃ r ∈ s.records, r.series = c ∧ (r.state = .receiving ∨ r.state = .waiting))
    (hopen : s.slots[i].state = .opened) (hseries : s.slots[i].fiche.series = c)
    (honly : ∀ j : Fin 12, s.slots[j].state = .opened → s.slots[j].fiche.series = c → j = i) :
    s.judgeCutOff c = s.closeFiche i := by
  have hi : s.openSlot c = some i := by
    cases hf : s.openSlot c with
    | none => exact absurd hseries ((s.openSlot_eq_none_iff c).mp hf i hopen)
    | some j =>
      obtain ⟨hj, hc⟩ := State.openSlot_some hf
      rw [honly j hj hc]
  have hcount : s.pendingCount c = 0 := by
    by_contra hn
    exact hwaits (State.pendingCount_pos_iff.mp (Nat.pos_of_ne_zero hn))
  unfold State.judgeCutOff
  rw [hi]
  exact if_pos ⟨hcut, hcount⟩

theorem State.openSlot_isSome_iff {s : State} {c : Fin 32} : (s.openSlot c).isSome = true ↔
    ∃ j : Fin 12, s.slots[j].state = .opened ∧ s.slots[j].fiche.series = c := by
  rw [Option.isSome_iff_ne_none, ne_eq, s.openSlot_eq_none_iff]
  simp

/-- Settles O23: the owners by the state of the series. -/
theorem clearCutOffReopen : Obligations.ClearCutOffReopen := by
  refine ⟨fun a d s h => ⟨fun ha => exec_same rfl h fun p => ?_, fun hbad => exec_same rfl h fun p => ?_, fun c ha =>
    ⟨fun hst => exec_same rfl h fun p => ?_, fun hst hheld => exec_same rfl h fun p => ?_, fun hst hheld => ?_, fun hd =>
      ⟨fun hst => exec_same rfl h fun p => ?_, fun hst => exec_same rfl h fun p => ?_, fun hst =>
        ⟨fun hopen => exec_same rfl h fun p => ?_, fun hopen => ?_⟩⟩⟩⟩,
    fun a s h => ⟨fun ha => exec_same rfl h fun p => ?_, fun c ha => ⟨fun hst => exec_same rfl h fun p => ?_,
      fun hst => exec_same rfl h fun p => ?_, fun hst => ⟨fun hno => ?_, fun i hwaits hopen hseries honly => ?_⟩⟩⟩⟩
  · simp only [clearSeriesOwner, indexOf_eq_none ha]
  · unfold reopenOwner
    split
    · rfl
    · next c hc =>
      rw [if_pos]
      refine hbad.resolve_left fun ha => ?_
      rw [indexOf_eq_none ha] at hc
      cases hc
  · simp only [clearSeriesOwner, indexOf_eq_some ha]
    exact if_pos hst
  · simp only [clearSeriesOwner, indexOf_eq_some ha]
    refine (if_neg hst).trans (if_pos ?_)
    rwa [State.recordCount_pos_iff, State.seriesInSlot_iff]
  · refine exec_answered (u := { s with series := s.series.set c State.reset.series[c] }) rfl h fun p => ?_
    simp only [clearSeriesOwner, indexOf_eq_some ha]
    refine (if_neg hst).trans ((if_neg ?_).trans ?_)
    · rwa [State.recordCount_pos_iff, State.seriesInSlot_iff]
    · simp [State.modSeries, State.reset]
  · simp only [reopenOwner, indexOf_eq_some ha, if_neg (Nat.not_lt.mpr hd), State.onPort, hst]
  · simp only [reopenOwner, indexOf_eq_some ha, if_neg (Nat.not_lt.mpr hd), State.onPort, hst]
  · simp only [reopenOwner, indexOf_eq_some ha, if_neg (Nat.not_lt.mpr hd), State.onPort, hst]
    exact if_pos (State.openSlot_isSome_iff.mpr hopen)
  · refine exec_answered (u := { s with
                 series := s.series.set c { s.series[c] with
                   state := .active, date := d.toNat, next := 1, exhausted := false }
                 retryEvents := s.retryEvents ++ [.dateCodeChanged c] }) rfl h fun p => ?_
    simp only [reopenOwner, indexOf_eq_some ha, if_neg (Nat.not_lt.mpr hd), State.onPort, hst]
    refine if_neg ?_
    rw [State.openSlot_isSome_iff]
    rintro ⟨j, hj, hc⟩
    exact hopen j hj hc
  · simp only [cutOffOwner, indexOf_eq_none ha]
  · simp only [cutOffOwner, indexOf_eq_some ha, State.onPort, hst]
  · simp only [cutOffOwner, indexOf_eq_some ha, State.onPort, hst]
  all_goals
    have hexec : exec (.cutOffSeries a) s = .next
        (((s.modSeries c fun v => { v with state := .cutOff }).judgeCutOff c).answered 0x0026 [a] (okWith [])) := by
      refine exec_passes ((passes_judgeCutOff c).comp (f := fun s => s.modSeries c fun v => { v with state := .cutOff })
        fun _ _ _ _ _ => rfl) rfl h fun p => ?_
      simp only [cutOffOwner, indexOf_eq_some ha, State.onPort, hst]
  · rw [hexec, State.judgeCutOff_eq_self (s := s.modSeries c fun v => { v with state := .cutOff }) (.inr hno)]
    rfl
  · have hcut : (s.modSeries c fun v => { v with state := .cutOff }).series[c].state = .cutOff := by
      rw [State.modSeries_at, if_pos rfl]
    rw [hexec, State.judgeCutOff_eq_closeFiche hcut hwaits hopen hseries honly]
    rfl

end Sys2Proof.Machine
end

section
/-! Closing a fiche and the requests on slots (R70 to R73, R80, R85). -/

namespace Sys2Proof.Machine

/-! ### Index entries in a queue -/

theorem joinQueue_append {as bs : List Entry} {e : Entry} (ha : ∀ x ∈ as, e.cls ≤ x.cls) (hb : ∀ x ∈ bs, x.cls < e.cls) :
    joinQueue (as ++ bs) e = (as ++ [e]) ++ bs := by
  have htake : bs.takeWhile (fun x => decide (e.cls ≤ x.cls)) = [] ∧ bs.dropWhile (fun x => decide (e.cls ≤ x.cls)) = bs := by
    cases bs with
    | nil => exact ⟨rfl, rfl⟩
    | cons b rest =>
      have hlt := hb b List.mem_cons_self
      simp [Nat.not_le.mpr hlt]
  unfold joinQueue
  rw [List.takeWhile_append_of_pos (by simpa using ha), List.dropWhile_append_of_pos (by simpa using ha), htake.1, htake.2]
  simp

/-- Entries of class 4 join behind the queue's own entries of class 4. -/
theorem foldl_joinQueue_append {es as bs : List Entry} (he : ∀ e ∈ es, e.cls = 4) (ha : ∀ x ∈ as, 4 ≤ x.cls)
    (hb : ∀ x ∈ bs, x.cls < 4) : es.foldl joinQueue (as ++ bs) = as ++ es ++ bs := by
  induction es generalizing as with
  | nil => simp
  | cons e rest ih =>
    have hcls := he e List.mem_cons_self
    rw [List.foldl_cons, joinQueue_append (by rwa [hcls]) (by rwa [hcls]),
      ih (fun x hx => he x (List.mem_cons_of_mem e hx))]
    · simp
    · intro x hx
      rcases List.mem_append.mp hx with hx | hx
      · exact ha x hx
      · rw [List.mem_singleton.mp hx, hcls]

/-- A descending queue of classes up to 4 is its entries of class 4 and then the others. -/
theorem queue_eq_classes {q : List Entry} (hs : q.Pairwise fun a b => b.cls ≤ a.cls) (hle : ∀ e ∈ q, e.cls ≤ 4) :
    q = q.filter (fun e => decide (e.cls = 4)) ++ q.filter fun e => decide (e.cls < 4) := by
  induction q with
  | nil => rfl
  | cons a rest ih =>
    obtain ⟨ha, hs⟩ := List.pairwise_cons.mp hs
    have hrest := ih hs fun e he => hle e (List.mem_cons_of_mem a he)
    by_cases h4 : a.cls = 4
    · simpa [h4] using hrest
    · have hlt : a.cls < 4 := Nat.lt_of_le_of_ne (hle a List.mem_cons_self) h4
      have hall : ∀ e ∈ rest, e.cls < 4 := fun e he => Nat.lt_of_le_of_lt (ha e he) hlt
      have hnone : rest.filter (fun e => decide (e.cls = 4)) = [] := by
        simpa using fun e he => Nat.ne_of_lt (hall e he)
      have hself : rest.filter (fun e => decide (e.cls < 4)) = rest := by simpa using hall
      simp [h4, hlt, hnone, hself]

theorem foldl_joinQueue_index {q : List Entry} (hs : q.Pairwise fun a b => b.cls ≤ a.cls) (hle : ∀ e ∈ q, e.cls ≤ 4)
    (f : Format) (i : Fin 12) : (indexQueueEntries f i).foldl joinQueue q =
      q.filter (fun e => decide (e.cls = 4)) ++ ((List.range f.indexCells).map fun p => .index i (f.documentCells + p) p) ++
        q.filter fun e => decide (e.cls < 4) := by
  conv_lhs => rw [queue_eq_classes hs hle]
  refine foldl_joinQueue_append ?_ ?_ ?_
  · simp only [indexQueueEntries, List.mem_map]
    rintro e ⟨p, -, rfl⟩
    rfl
  · intro x hx
    have := (List.mem_filter.mp hx).2
    simp only [decide_eq_true_eq] at this
    omega
  · intro x hx
    simpa using (List.mem_filter.mp hx).2

/-! ### Close triggers -/

theorem cells_all_not_held_iff (cells : List Cell) :
    cells.all (fun c => decide (c.state ≠ .held)) = true ↔ ¬ ∃ c ∈ cells, c.state = .held := by
  simp

/-- A fiche indexed (R73, R80): its index built, and its INDEX entries at the end of class 4. -/
def State.indexed (s : State) (i : Fin 12) : State :=
  { s with
    slots := s.slots.set i { s.slots[i] with state := .indexing, index := some (buildIndex s.slots[i].cells) }
    heads := s.heads.set (headOf i) { s.heads[headOf i] with
      queue := s.heads[headOf i].queue.filter (fun e => decide (e.cls = 4)) ++
        ((List.range (s.slotFormat i).indexCells).map fun p => .index i ((s.slotFormat i).documentCells + p) p) ++
        s.heads[headOf i].queue.filter (fun e => decide (e.cls < 4)) } }

theorem State.indexingTest_eq_self {s : State} {i : Fin 12}
    (h : s.slots[i].state ≠ .closing ∨ ∃ c ∈ s.slots[i].cells, c.state = .held) : s.indexingTest i = s := by
  rw [State.indexingTest_eq, if_neg]
  rintro ⟨hc, hall⟩
  rcases h with h | h
  · exact h hc
  · exact (cells_all_not_held_iff _).mp hall h

theorem State.indexingTest_eq_indexed {s : State} {i : Fin 12} (hc : s.slots[i].state = .closing)
    (hheld : ¬ ∃ c ∈ s.slots[i].cells, c.state = .held)
    (hs : s.heads[headOf i].queue.Pairwise fun a b => b.cls ≤ a.cls) (hle : ∀ e ∈ s.heads[headOf i].queue, e.cls ≤ 4) :
    s.indexingTest i = s.indexed i := by
  rw [State.indexingTest_eq, if_pos ⟨hc, (cells_all_not_held_iff _).mpr hheld⟩]
  simp only [State.modHead, State.modSlot, foldl_joinQueue_index hs hle, State.indexed]

theorem State.closeFiche_eq_self {s : State} {i : Fin 12} (h : s.slots[i].state ≠ .opened) : s.closeFiche i = s := if_neg h

theorem State.closeFiche_eq_closing {s : State} {i : Fin 12} (h : s.slots[i].state = .opened)
    (hheld : ∃ c ∈ s.slots[i].cells, c.state = .held) :
    s.closeFiche i = { s with slots := s.slots.set i { s.slots[i] with state := .closing } } := by
  refine (if_pos h).trans (State.indexingTest_eq_self (.inr ?_))
  rw [State.modSlot_at, if_pos rfl]
  exact hheld

theorem State.closeFiche_eq_indexed {s : State} {i : Fin 12} (h : s.slots[i].state = .opened)
    (hheld : ¬ ∃ c ∈ s.slots[i].cells, c.state = .held)
    (hs : s.heads[headOf i].queue.Pairwise fun a b => b.cls ≤ a.cls) (hle : ∀ e ∈ s.heads[headOf i].queue, e.cls ≤ 4) :
    s.closeFiche i = s.indexed i := by
  have hslot : (s.modSlot i fun t => { t with state := .closing }).slots[i] = { s.slots[i] with state := .closing } := by
    rw [State.modSlot_at, if_pos rfl]
  refine (if_pos h).trans ((State.indexingTest_eq_indexed (s := s.modSlot i fun t => { t with state := .closing }) ?_ ?_ hs
    hle).trans ?_)
  · rw [hslot]
  · rw [hslot]
    exact hheld
  · simp only [State.indexed, hslot, State.slotFormat]
    simp [State.modSlot, State.formatAt]

theorem State.closeFiche_onPort (s : State) (p : Port) (i : Fin 12) : (s.onPort p).closeFiche i = (s.closeFiche i).onPort p := by
  have htest (u : State) : (u.onPort p).indexingTest i = (u.indexingTest i).onPort p := by
    rw [State.indexingTest_eq, State.indexingTest_eq, show (u.onPort p).slots = u.slots from rfl]
    split <;> rfl
  show (if s.slots[i].state = .opened then ((s.modSlot i fun t => { t with state := .closing }).onPort p).indexingTest i
    else s.onPort p) = _
  rw [htest, State.closeFiche]
  split <;> rfl

/-! ### Fiche Status -/

theorem slotWords_eq (i : Fin 12) (t : Slot) :
    let count := fun st : CellState => t.cells.countP fun x => decide (x.state = st)
    let two := fun m n : CellState => word (count m % 65536 + count n * 65536)
    slotWords i t = [word (slotStateCode t.state), word t.fiche.series.val, word t.fiche.date, word t.fiche.sequence,
        word (i.val / 3), word t.sheet, word t.format.val, word ((if t.title then 1 else 0) + (if t.redraw then 2 else 0)),
        two .empty .held, two .exposed .superseded, two .void .spoiled, two .trailing .indexPending,
        word (count .indexDone)] ++
      if t.state = .indexing then [1, word (t.index.getD []).length] else [0, 0] := by
  cases hst : t.state <;> simp only [slotWords, Slot.indexCount, hst] <;> rfl

theorem rowCells_getElem? (f : Format) (cells : List Cell) (row column j : Nat) (x : Cell) :
    (rowCells f cells row column)[j]? = some x ↔
      j < 16 ∧ column + j < f.cols ∧ cells[row * f.cols + column + j]? = some x := by
  unfold rowCells
  rw [List.getElem?_take, List.getElem?_drop]
  split
  · next hj =>
    have : j < 16 ∧ column + j < f.cols := by omega
    simp [this]
  · next hj => simpa using fun h1 h2 => absurd (show j < min 16 (f.cols - column) by omega) hj

theorem length_rowCells (f : Format) (cells : List Cell) (row column : Nat) : (rowCells f cells row column).length ≤ 16 := by
  unfold rowCells
  rw [List.length_take]
  omega

/-! ### Cell words -/

theorem word_toNat (n : Nat) : (word n).toNat = n % 4294967296 := by simp [word]

/-- The fields of a cell's first word. -/
theorem cellWord_fields {date high state width : Nat} {dose key : Bool} (hdate : date < 65536) (hhigh : high < 256)
    (hstate : state < 16) (hwidth : width < 4) :
    let a := word (date * 65536 + high * 256 + state * 16 + width * 4 + (if dose then 2 else 0) + if key then 1 else 0)
    (a.extractLsb' 16 16).toNat = date ∧ (a.extractLsb' 8 8).toNat = high ∧ (a.extractLsb' 4 4).toNat = state ∧
      (a.extractLsb' 2 2).toNat = width ∧ a.getLsbD 1 = dose ∧ a.getLsbD 0 = key := by
  intro a
  obtain ⟨d, hd, hdose⟩ : ∃ d, d < 2 ∧ (if dose then 2 else 0 : Nat) = 2 * d ∧ (dose = true ↔ d = 1) := by
    cases dose
    · exact ⟨0, by simp⟩
    · exact ⟨1, by simp⟩
  obtain ⟨k, hk, hkey⟩ : ∃ k, k < 2 ∧ (if key then 1 else 0 : Nat) = k ∧ (key = true ↔ k = 1) := by
    cases key
    · exact ⟨0, by simp⟩
    · exact ⟨1, by simp⟩
  have ha : a.toNat = date * 65536 + high * 256 + state * 16 + width * 4 + 2 * d + k := by
    rw [word_toNat, hdose.1, hkey.1]
    omega
  have hbit (n : Nat) : a.getLsbD n = decide (a.toNat / 2 ^ n % 2 = 1) := by
    rw [BitVec.getLsbD, Nat.testBit_eq_decide_div_mod_eq]
  simp only [BitVec.extractLsb'_toNat, Nat.shiftRight_eq_div_pow, hbit, ha]
  refine ⟨by omega, by omega, by omega, by omega, ?_, ?_⟩
  · rw [Bool.eq_iff_iff, decide_eq_true_iff, hdose.2]
    omega
  · rw [Bool.eq_iff_iff, decide_eq_true_iff, hkey.2]
    omega

theorem cellStateCode_lt (st : CellState) : cellStateCode st < 16 := by cases st <;> decide

/-- Settles O24: the close trigger by the slot's cells, the two requests by its state, and the bits of a cell's words. -/
theorem closingAndSlotRequests : Obligations.ClosingAndSlotRequests := by
  refine ⟨⟨fun s c => ⟨State.judgeCutOff_eq_self, fun i => State.judgeCutOff_eq_closeFiche⟩, fun s i =>
      ⟨State.closeFiche_eq_self, State.closeFiche_eq_closing, fun h hheld hs => State.closeFiche_eq_indexed h hheld hs.1 hs.2,
        State.indexingTest_eq_self, fun h hheld hs => State.indexingTest_eq_indexed h hheld hs.1 hs.2⟩⟩,
    fun a r c s h => ⟨fun ha => ⟨exec_same rfl h fun p => ?_, exec_same rfl h fun p => ?_⟩, fun i ha =>
      ⟨fun hfree => ⟨exec_same rfl h fun p => ?_, exec_same rfl h fun p => ?_⟩, fun hfree => ⟨?_, fun hbad =>
        exec_same rfl h fun p => ?_, fun hr hc => ?_⟩⟩⟩, fun x hw hk => ?_⟩
  · simp only [closeFicheOwner, indexOf_eq_none ha]
  · simp only [ficheStatusOwner, indexOf_eq_none ha]
  · simp only [closeFicheOwner, indexOf_eq_some ha, State.onPort, hfree]
  · simp only [ficheStatusOwner, indexOf_eq_some ha]
    exact if_pos hfree
  · refine exec_passes (f := (·.closeFiche i)) (passes_closeFiche i) rfl h fun p => ?_
    have hstate : ((s.onPort p).closeFiche i).slots[i].state = (s.closeFiche i).slots[i].state := by
      rw [State.closeFiche_onPort]
    simp only [closeFicheOwner, indexOf_eq_some ha]
    split
    · next hf => exact absurd hf hfree
    all_goals rw [hstate]
  · simp only [ficheStatusOwner, indexOf_eq_some ha]
    exact (if_neg hfree).trans (if_pos hbad)
  · refine ⟨rowCells (s.slotFormat i) s.slots[i].cells r.toNat c.toNat, length_rowCells _ _ _ _, ?_,
      fun j x => rowCells_getElem? _ _ _ _ j x⟩
    rw [← slotWords_eq]
    refine exec_same rfl h fun p => ?_
    simp only [ficheStatusOwner, indexOf_eq_some ha]
    exact (if_neg hfree).trans (if_neg (by simpa using ⟨hr, hc⟩))
  · have hrange : (x.key.getD ⟨0, 0, 0⟩).date < 65536 ∧ (x.key.getD ⟨0, 0, 0⟩).account ≤ 999999999999 ∧
        (x.key.getD ⟨0, 0, 0⟩).item < 65536 := by
      cases hx : x.key with
      | none => simp
      | some k => exact hk k hx
    obtain ⟨hdate, haccount, hitem⟩ := hrange
    obtain ⟨h1, h2, h3, h4, h5, h6⟩ := cellWord_fields (dose := x.dose) (key := x.key.isSome) hdate
      (show (x.key.getD ⟨0, 0, 0⟩).account / 4294967296 < 256 by omega) (cellStateCode_lt x.state) (show x.width < 4 by omega)
    exact ⟨_, _, _, rfl, h1, h2, h3, h4, h5, h6, word_toNat _, by rw [word_toNat]; omega⟩

end Sys2Proof.Machine
end

section
/-! Grants and openings (R38, R43 to R46, R56 to R62). -/

namespace Sys2Proof.Machine

/-! ### The grant of a cell -/

theorem take_all_not_empty_iff (cells : List Cell) (d : Nat) :
    (cells.take d).all (fun c => decide (c.state ≠ .empty)) = true ↔ ¬ ∃ m < d, emptyAt cells m = true := by
  simp only [List.all_eq_true, List.mem_take_iff_getElem, decide_eq_true_eq, not_exists, not_and, emptyAt_iff]
  constructor
  · rintro h m hm c hc hst
    obtain ⟨hlt, rfl⟩ := List.getElem?_eq_some_iff.mp hc
    exact h _ ⟨m, by omega, rfl⟩ hst
  · rintro h c ⟨m, hm, rfl⟩ hst
    exact h m (by omega) _ (List.getElem?_eq_getElem (by omega)) hst

/-- The cells of a map with one of them granted, and its second half (R59). -/
def grantedCells (cells : List Cell) (q : CellRequest) (n : Nat) : List Cell :=
  let lead := cells.set n ⟨.held, some q.key, q.width, false⟩
  if q.width = 2 then lead.set (n + 1) ⟨.trailing, some q.key, 0, false⟩ else lead

theorem held_mem_grantedCells {cells : List Cell} {n : Nat} {x : Cell} (hx : cells[n]? = some x) (q : CellRequest) :
    ∃ c ∈ grantedCells cells q n, c.state = .held := by
  obtain ⟨hn, -⟩ := List.getElem?_eq_some_iff.mp hx
  refine ⟨⟨.held, some q.key, q.width, false⟩, List.mem_of_getElem? (i := n) ?_, rfl⟩
  unfold grantedCells
  dsimp only
  split
  · rw [List.getElem?_set_ne (by omega)]
    simp [hn]
  · simp [hn]

theorem State.grantCell_state (s : State) (q : CellRequest) (i : Fin 12) (n : Nat) (o : Bool) :
    (s.grantCell q i n o).state =
      ((s.modSlot i fun t => { t with cells := grantedCells t.cells q n }).modHead (headOf i)
        fun k => { k with queue := joinQueue k.queue (.cell i n q.cls) }).fullTest i := by
  unfold State.grantCell State.modCells grantedCells State.enqueue
  dsimp only
  split
  · simp only [State.modCell, State.modSlot_modSlot, List.set_eq_modify]
  · simp only [State.modCell, List.set_eq_modify]

/-- The whole state after a grant in an OPEN fiche: OPEN while it holds an EMPTY document cell, else CLOSING (R60). -/
theorem State.grantCell_eq (s : State) (q : CellRequest) (i : Fin 12) (n : Nat) (o : Bool) (x : Cell)
    (hopen : s.slots[i].state = .opened) (hx : s.slots[i].cells[n]? = some x) (st : SlotState)
    (hroom : (∃ m < (s.slotFormat i).documentCells, emptyAt (grantedCells s.slots[i].cells q n) m = true) → st = .opened)
    (hfull : ¬ (∃ m < (s.slotFormat i).documentCells, emptyAt (grantedCells s.slots[i].cells q n) m = true) → st = .closing) :
    s.grantCell q i n o = ⟨{ s with
        slots := s.slots.set i { s.slots[i] with state := st, cells := grantedCells s.slots[i].cells q n }
        heads := s.heads.set (headOf i) { s.heads[headOf i] with
          queue := joinQueue s.heads[headOf i].queue (.cell i n q.cls) } },
      some ⟨i, ⟨s.slots[i].fiche, headOf i, s.slots[i].sheet, n, q.width⟩⟩, o⟩ := by
  have hstate := s.grantCell_state q i n o
  let u := (s.modSlot i fun t => { t with cells := grantedCells t.cells q n }).modHead (headOf i)
    fun k => { k with queue := joinQueue k.queue (.cell i n q.cls) }
  have hu : u.slots[i] = { s.slots[i] with cells := grantedCells s.slots[i].cells q n } := by
    simp [u, State.modHead, State.modSlot]
  have hformat : u.slotFormat i = s.slotFormat i := by
    unfold State.slotFormat
    rw [hu]
    rfl
  have hfullTest : u.fullTest i = { s with
      slots := s.slots.set i { s.slots[i] with state := st, cells := grantedCells s.slots[i].cells q n }
      heads := s.heads.set (headOf i) { s.heads[headOf i] with
        queue := joinQueue s.heads[headOf i].queue (.cell i n q.cls) } } := by
    unfold State.fullTest
    rw [hformat, hu]
    split
    · next hall =>
      obtain rfl := hfull ((take_all_not_empty_iff _ _).mp hall)
      rw [State.closeFiche_eq_closing (by rw [hu]; exact hopen) (by rw [hu]; exact held_mem_grantedCells hx q), hu]
      simp [u, State.modHead, State.modSlot]
    · next hall =>
      obtain rfl := hroom (by rwa [take_all_not_empty_iff, not_not] at hall)
      rw [← hopen]
      rfl
  rw [show s.grantCell q i n o = ⟨(s.grantCell q i n o).state, some ⟨i, ⟨s.slots[i].fiche, headOf i, s.slots[i].sheet, n,
    q.width⟩⟩, o⟩ from rfl, hstate]
  exact congrArg (fun t => Placement.mk t _ _) hfullTest

/-! ### Joining a queue -/

theorem takeWhile_eq_filter_of_descending {q : List Entry} (h : q.Pairwise fun a b => b.cls ≤ a.cls) (c : Nat) :
    q.takeWhile (fun x => decide (c ≤ x.cls)) = q.filter (fun x => decide (c ≤ x.cls)) ∧
      q.dropWhile (fun x => decide (c ≤ x.cls)) = q.filter fun x => decide (x.cls < c) := by
  induction q with
  | nil => exact ⟨rfl, rfl⟩
  | cons a rest ih =>
    obtain ⟨ha, h⟩ := List.pairwise_cons.mp h
    obtain ⟨htake, hdrop⟩ := ih h
    by_cases hc : c ≤ a.cls
    · simp [hc, htake, hdrop, Nat.not_lt.mpr hc]
    · have hlt : ∀ x ∈ a :: rest, x.cls < c := by
        intro x hx
        rcases List.mem_cons.mp hx with rfl | hx
        · omega
        · exact Nat.lt_of_le_of_lt (ha x hx) (by omega)
      have hnone : (a :: rest).filter (fun x => decide (c ≤ x.cls)) = [] := by
        rw [List.filter_eq_nil_iff]
        intro x hx
        simpa using hlt x hx
      have hall : (a :: rest).filter (fun x => decide (x.cls < c)) = a :: rest := by
        rw [List.filter_eq_self]
        intro x hx
        simpa using hlt x hx
      rw [hnone, hall]
      simp [hc]

theorem joinQueue_eq {q : List Entry} (h : q.Pairwise fun a b => b.cls ≤ a.cls) (e : Entry) :
    joinQueue q e = q.filter (fun x => decide (e.cls ≤ x.cls)) ++ [e] ++ q.filter fun x => decide (x.cls < e.cls) := by
  obtain ⟨htake, hdrop⟩ := takeWhile_eq_filter_of_descending h e.cls
  rw [joinQueue, htake, hdrop, List.append_assoc]
  rfl

/-! ### Placement -/

theorem State.openSlot_eq_some {s : State} {c : Fin 32} {i : Fin 12} (hi : s.slots[i].state = .opened ∧ s.slots[i].fiche.series = c)
    (honly : ∀ j : Fin 12, s.slots[j].state = .opened ∧ s.slots[j].fiche.series = c → j = i) : s.openSlot c = some i := by
  cases hf : s.openSlot c with
  | none => exact absurd hi.2 ((s.openSlot_eq_none_iff c).mp hf i hi.1)
  | some j => rw [honly j (State.openSlot_some hf)]

theorem slotsOf_sorted : ∀ h : Fin 4, (slotsOf h).Pairwise (· < ·) := by decide

theorem State.freeSlot_eq_some {s : State} {h : Fin 4} {i : Fin 12} (hh : headOf i = h) (hi : s.slots[i].state = .free)
    (hleast : ∀ j : Fin 12, headOf j = h → s.slots[j].state = .free → i ≤ j) : s.freeSlot h = some i := by
  subst hh
  have hmem := mem_slotsOf_headOf i
  cases hf : s.freeSlot (headOf i) with
  | none =>
    exact absurd (decide_eq_true hi) (List.find?_eq_none.mp hf i hmem)
  | some j =>
    obtain ⟨hj, as, bs, hlist, has⟩ := List.find?_eq_some_iff_append.mp hf
    have hjm : j ∈ slotsOf (headOf i) := by rw [hlist]; simp
    have hij := hleast j (headOf_of_mem_slotsOf _ _ hjm) (of_decide_eq_true hj)
    have hsorted := slotsOf_sorted (headOf i)
    rw [hlist] at hmem hsorted
    rcases List.mem_append.mp hmem with hm | hm
    · exact absurd (has i hm) (by rw [decide_eq_true hi]; decide)
    · rcases List.mem_cons.mp hm with rfl | hm
      · rfl
      · have hlt := (List.pairwise_cons.mp (List.pairwise_append.mp hsorted).2.1).1 i hm
        exact absurd hlt (Fin.not_lt.mpr hij)

theorem Format.newCells_getElem?_document {f : Format} {n : Nat} (h : n < f.documentCells) :
    f.newCells[n]? = some ⟨.empty, none, 1, false⟩ := by
  rw [Format.newCells, List.getElem?_append_left (by simpa using h)]
  simp [h]

theorem Format.newCells_getElem?_index {f : Format} {n : Nat} (h : n < f.indexCells) :
    f.newCells[f.documentCells + n]? = some ⟨.indexPending, none, 1, false⟩ := by
  rw [Format.newCells, List.getElem?_append_right (by simp)]
  simp [h]

theorem Format.newCells_suitable {f : Format} {w : Nat} (hvalid : f.valid = true)
    (hw : w = 1 ∨ (w = 2 ∧ f.doubleCapacity = true)) : f.suitable f.newCells w 0 = true := by
  have hempty {n : Nat} (hn : n < f.documentCells) : emptyAt f.newCells n = true :=
    (emptyAt_iff _ _).mpr ⟨_, Format.newCells_getElem?_document hn, rfl⟩
  obtain ⟨-, -, -, -, hcells⟩ := f.valid_iff.mp hvalid
  have hpos := Format.documentCells_pos hcells
  rcases hw with rfl | ⟨rfl, hd⟩
  · simpa [Format.suitable, hempty hpos] using Nat.lt_of_succ_le hpos
  · obtain ⟨hcols, hdoc⟩ := (Format.doubleCapacity_iff _).mp hd
    have hdoc : 1 < f.documentCells := hdoc
    simp [Format.suitable, hempty hpos, hempty hdoc, hdoc]
    omega

theorem State.openFiche_slot (s : State) (c : Fin 32) (h : Fin 4) (i : Fin 12) :
    (s.openFiche c h i).slots[i] = s.openedSlot c h := by
  rw [State.openFiche_eq]
  simp [State.modSeries, State.modHead, State.modSlot]

/-- Cell 0 of a new fiche suits every request that its format can carry (R46). -/
theorem State.openFiche_searchCell {s : State} {c : Fin 32} {h : Fin 4} {i : Fin 12} {w : Nat}
    (hvalid : (s.formatAt s.series[c].format).valid = true)
    (hw : w = 1 ∨ (w = 2 ∧ (s.formatAt s.series[c].format).doubleCapacity = true)) :
    (s.openFiche c h i).searchCell i w = some 0 := by
  have hslot := s.openFiche_slot c h i
  have hformat : (s.openFiche c h i).slotFormat i = s.formatAt s.series[c].format := by
    unfold State.slotFormat
    rw [hslot, State.openFiche_eq]
    rfl
  rw [State.searchCell_eq_some_iff, hformat, hslot]
  refine ⟨Format.newCells_suitable hvalid hw, fun m hm => absurd hm (Nat.not_lt_zero m)⟩

theorem State.openAndGrant_refused {s : State} {q : CellRequest} (h : s.series[q.series].state = .undefined ∨
    s.series[q.series].exhausted = true ∨ s.chooseHead q.series = none) : s.openAndGrant q = ⟨s, none, false⟩ := by
  unfold State.openAndGrant
  split
  · next hgood =>
    rw [(h.resolve_left hgood.1).resolve_left (by rw [hgood.2]; decide)]
  · rfl

/-- Settles O26: the search and the choice of a head decide what a placement is. -/
theorem grantAndOpening : Obligations.GrantAndOpening := by
  refine ⟨fun _ => rfl, fun _ _ _ => ⟨rfl, rfl, rfl, rfl, rfl, rfl⟩, emptyAt_iff, State.grantCell_eq, fun q e h => joinQueue_eq h e,
    fun s q => ⟨fun hno => ?_, fun i hi honly => ⟨fun n hn => ?_, fun hn => ?_⟩⟩, fun s q i => ⟨fun h => ?_, fun n hopen hn => ?_⟩,
    fun s q => ⟨State.openAndGrant_refused, fun h i hst hex hh hi hfree hleast hvalid hw => ?_⟩, fun s c h i => ⟨_, rfl, ?_, ?_, ?_, ?_⟩⟩
  · unfold State.normalPlacement
    rw [(s.openSlot_eq_none_iff _).mpr fun i hopen hc => hno i ⟨hopen, hc⟩]
  · unfold State.normalPlacement
    rw [State.openSlot_eq_some hi honly]
    dsimp only
    rw [hn]
  · unfold State.normalPlacement
    rw [State.openSlot_eq_some hi honly]
    dsimp only
    rw [hn]
  · unfold State.rePlacement
    split
    · next hopen => rw [h.resolve_left (not_not_intro hopen)]
    · rfl
  · unfold State.rePlacement
    rw [if_pos hopen, hn]
  · unfold State.openAndGrant
    rw [if_pos ⟨hst, hex⟩, hh]
    dsimp only
    rw [State.freeSlot_eq_some hi hfree hleast]
    dsimp only
    rw [State.openFiche_searchCell hvalid hw]
  all_goals have hslot := s.openFiche_slot c h i
  · rw [hslot, State.openFiche_eq]
    have hadvanced : s.series[c].advanced = { s.series[c] with
        next := if s.series[c].next = 9999 then 9999 else s.series[c].next + 1
        exhausted := s.series[c].exhausted || decide (s.series[c].next = 9999) } := by
      unfold Series.advanced
      split <;> simp_all
    simp only [State.modSeries, State.modHead, State.modSlot, hadvanced]
    rfl
  · rw [hslot]
    exact fun _ => Format.length_newCells _
  · rw [hslot]
    exact fun n hn => Format.newCells_getElem?_document hn
  · rw [hslot]
    exact fun n hn => Format.newCells_getElem?_index hn

end Sys2Proof.Machine
end

section
/-! The serving pass of a retry event (R15, R18, R47). -/

namespace Sys2Proof.Machine

theorem State.offer_waiting {s t : State} {r : Record} {b : Bool} (h : s.offer r = (t, b)) : t.waiting = s.waiting := by
  have ht : (s.offer r).1 = t := by rw [h]
  simp [← ht]

/-- A list is served from its front: one offer, and after a grant the list without its front. -/
theorem State.serveFrom_succ {s t : State} {c : Fin 32} {k : Key} {ks : List Key} {r : Record} {b : Bool} (n : Nat)
    (hw : s.waiting[c] = k :: ks) (hr : s.findRecord k = some r) (ho : s.offer r = (t, b)) :
    State.serveFrom c (n + 1) s = if b = true then State.serveFrom c n (t.leaveWaiting c k) else t := by
  rw [State.serveFrom, hw]
  dsimp only
  rw [hr]
  dsimp only
  rw [ho]
  cases b <;> rfl

theorem State.serveFrom_nil {s : State} {c : Fin 32} (hw : s.waiting[c] = []) (n : Nat) : State.serveFrom c n s = s := by
  cases n with
  | zero => rfl
  | succ n => rw [State.serveFrom, hw]

theorem State.serveFrom_missing {s : State} {c : Fin 32} {k : Key} {ks : List Key} (hw : s.waiting[c] = k :: ks)
    (hr : s.findRecord k = none) (n : Nat) : State.serveFrom c n s = s := by
  cases n with
  | zero => rfl
  | succ n =>
    unfold State.serveFrom
    rw [hw]
    dsimp only
    rw [hr]

theorem State.leaveWaiting_at (s : State) (c : Fin 32) (k : Key) :
    (s.leaveWaiting c k).waiting[c] = s.waiting[c].filter fun x => decide (x ≠ k) := by
  simp [State.leaveWaiting, State.modWaiting]

theorem length_filter_ne_cons_le (k : Key) (ks : List Key) :
    ((k :: ks).filter fun x => decide (x ≠ k)).length ≤ ks.length := by
  simpa using List.length_filter_le (fun x => decide (x ≠ k)) ks

/-- The fuel does not matter once it covers the list. -/
theorem State.serveFrom_fuel {s : State} {c : Fin 32} {n : Nat} (h : s.waiting[c].length ≤ n) :
    State.serveFrom c n s = s.serveList c := by
  unfold State.serveList
  induction n using Nat.strong_induction_on generalizing s with
  | _ n ih =>
    cases hw : s.waiting[c] with
    | nil => rw [State.serveFrom_nil hw, State.serveFrom_nil hw]
    | cons k ks =>
      cases hr : s.findRecord k with
      | none => rw [State.serveFrom_missing hw hr, State.serveFrom_missing hw hr]
      | some r =>
        obtain ⟨t, b, ho⟩ : ∃ t b, s.offer r = (t, b) := ⟨_, _, rfl⟩
        rw [hw, List.length_cons] at h
        obtain ⟨m, rfl⟩ : ∃ m, n = m + 1 := ⟨n - 1, by omega⟩
        rw [List.length_cons, State.serveFrom_succ m hw hr ho, State.serveFrom_succ ks.length hw hr ho]
        split
        · have hlen : (t.leaveWaiting c k).waiting[c].length ≤ ks.length := by
            rw [State.leaveWaiting_at, State.offer_waiting ho, hw]
            exact length_filter_ne_cons_le k ks
          rw [ih m (by omega) (by omega)]
          rcases Nat.lt_or_ge ks.length (m + 1) with hlt | hge
          · exact (ih ks.length hlt hlen).symm
          · omega
        · rfl

theorem State.serveList_cons {s t : State} {c : Fin 32} {k : Key} {ks : List Key} {r : Record}
    (hw : s.waiting[c] = k :: ks) (hr : s.findRecord k = some r) (ho : s.offer r = (t, true)) :
    s.serveList c = (t.leaveWaiting c k).serveList c := by
  have hlen : (t.leaveWaiting c k).waiting[c].length ≤ ks.length := by
    rw [State.leaveWaiting_at, State.offer_waiting ho, hw]
    exact length_filter_ne_cons_le k ks
  rw [← State.serveFrom_fuel hlen, State.serveList, hw, List.length_cons, State.serveFrom_succ ks.length hw hr ho]
  rfl

/-- What a grant makes of the record that was offered. -/
theorem Record.granted_offered {r : Record} (h : r.state = .waiting ∨ r.state = .retakeWaiting) (v : Reserved) :
    r.granted v = { r with
      reserved := some v, state := if r.state = .waiting then .reserved else .retakeReserved } := by
  unfold Record.granted
  rcases h with h | h <;> rw [h] <;> rfl

theorem State.updateRecord_granted {s u : State} {r : Record} (hd : s.directoryOrdered) (hr : s.findRecord r.key = some r)
    (hw : r.state = .waiting ∨ r.state = .retakeWaiting) (hu : u.records = s.records) (v : Reserved) :
    u.updateRecord r.key (·.granted v) = { u with
      records := s.records.map fun x => if x.key = r.key then { x with
        reserved := some v, state := if r.state = .waiting then .reserved else .retakeReserved } else x } := by
  unfold State.updateRecord
  rw [hu]
  congr 1
  refine List.map_congr_left fun x hx => ?_
  split
  · next hk =>
    obtain rfl := State.record_unique hd hr hx hk
    exact Record.granted_offered hw v
  · rfl

/-- Settles O28: the serving of a list by its front offer, the offer by what normal placement answers. -/
theorem servingPass : Obligations.ServingPass := by
  refine ⟨fun s h => ?_, fun s e rest h => ?_, fun s c hw => State.serveFrom_nil hw _,
    fun s c k ks r hw hr => ⟨fun t ho => ?_, fun t ho => State.serveList_cons hw hr ho⟩, fun r m hm => ?_,
    fun s r hd hr hw => ⟨fun u o hp => ?_, fun u v o hp => ?_⟩⟩
  · show execServeWaitingLists s = _
    rw [execServeWaitingLists, h]
  · show execServeWaitingLists s = _
    rw [execServeWaitingLists, h]
    rfl
  · rw [State.serveList, hw, List.length_cons, State.serveFrom_succ _ hw hr ho]
    rfl
  · simp [Record.request, hm]
  all_goals
    obtain ⟨_, _, _, _, _, _, _, hrecords, hwaiting, -⟩ := s.normalPlacement_frame r.request
    rw [hp] at hrecords hwaiting
  · rw [State.offer, hp]
    exact ⟨rfl, hrecords, hwaiting⟩
  · rw [State.offer, hp]
    dsimp only [State.settle]
    rw [State.updateRecord_granted hd hr hw hrecords]
    by_cases h : r.state = .waiting ∨ o = true
    · rw [if_pos h, if_pos h.symm]
    · rw [if_neg h, if_neg fun h' => h h'.symm]

end Sys2Proof.Machine
end

section
/-! The built index (R75 to R78). -/

namespace Sys2Proof.Machine

/-! ### The order of index entries -/

theorem IndexEntry.before_iff (a b : IndexEntry) :
    a.before b = true ↔ a.key.before b.key = true ∨ (a.key = b.key ∧ a.cell < b.cell) := by
  simp [IndexEntry.before]

theorem IndexEntry.before_trans {a b c : IndexEntry} (hab : a.before b = true) (hbc : b.before c = true) :
    a.before c = true := by
  rw [IndexEntry.before_iff] at *
  rcases hab with hab | ⟨hab, hlt⟩
  · rcases hbc with hbc | ⟨hbc, -⟩
    · exact .inl (Key.before_trans hab hbc)
    · exact .inl (hbc ▸ hab)
  · rcases hbc with hbc | ⟨hbc, hlt'⟩
    · exact .inl (hab ▸ hbc)
    · exact .inr ⟨hab.trans hbc, hlt.trans hlt'⟩

theorem IndexEntry.before_total {a b : IndexEntry} (h : a.cell ≠ b.cell) : a.before b = true ∨ b.before a = true := by
  simp only [IndexEntry.before_iff]
  by_cases hk : a.key = b.key
  · rcases Nat.lt_or_gt_of_ne h with hlt | hlt
    · exact .inl (.inr ⟨hk, hlt⟩)
    · exact .inr (.inr ⟨hk.symm, hlt⟩)
  · exact (Key.before_total hk).imp .inl .inl

theorem insertIndexEntry_perm (e : IndexEntry) (l : List IndexEntry) : (insertIndexEntry e l).Perm (e :: l) := by
  induction l with
  | nil => exact .refl _
  | cons x rest ih =>
    unfold insertIndexEntry
    split
    · exact .refl _
    · exact (ih.cons x).trans (.swap e x rest)

theorem insertIndexEntry_sorted {e : IndexEntry} {l : List IndexEntry} (h : l.Pairwise fun a b => a.before b = true)
    (hne : ∀ x ∈ l, e.cell ≠ x.cell) : (insertIndexEntry e l).Pairwise fun a b => a.before b = true := by
  induction l with
  | nil => exact List.pairwise_singleton _ _
  | cons x rest ih =>
    obtain ⟨hx, hrest⟩ := List.pairwise_cons.mp h
    unfold insertIndexEntry
    split
    · next hbefore =>
      refine List.pairwise_cons.mpr ⟨fun y hy => ?_, h⟩
      rcases List.mem_cons.mp hy with rfl | hy
      · exact hbefore
      · exact IndexEntry.before_trans hbefore (hx y hy)
    · next hbefore =>
      refine List.pairwise_cons.mpr ⟨fun y hy => ?_, ih hrest fun y hy => hne y (List.mem_cons_of_mem _ hy)⟩
      rcases List.mem_cons.mp ((insertIndexEntry_perm e rest).mem_iff.mp hy) with rfl | hy
      · exact (IndexEntry.before_total (hne x List.mem_cons_self)).resolve_left hbefore
      · exact hx y hy

/-! ### The entries of a cell map -/

theorem CellState.listed_iff (st : CellState) :
    st.listed = true ↔ st ∈ [CellState.exposed, .superseded, .void, .spoiled] := by
  cases st <;> decide

/-- The cell that an index entry lists (R75). -/
def Cell.Listed (c : Cell) (e : IndexEntry) : Prop :=
  c.key = some e.key ∧ c.state = e.state ∧ c.dose = e.dose ∧ c.width ≠ 0 ∧
    c.state ∈ [CellState.exposed, .superseded, .void, .spoiled]

theorem indexEntriesFrom_cons (n : Nat) (c : Cell) (rest : List Cell) :
    (∃ e : IndexEntry, c.Listed e ∧ e.cell = n ∧ indexEntriesFrom n (c :: rest) = e :: indexEntriesFrom (n + 1) rest) ∨
      ((∀ e, ¬ c.Listed e) ∧ indexEntriesFrom n (c :: rest) = indexEntriesFrom (n + 1) rest) := by
  rw [indexEntriesFrom]
  split
  · next k hk =>
    split
    · next h =>
      simp only [Bool.and_eq_true, decide_eq_true_eq, CellState.listed_iff] at h
      exact .inl ⟨⟨k, n, c.state, c.dose⟩, ⟨hk, rfl, rfl, h.2, h.1⟩, rfl, rfl⟩
    · next h =>
      simp only [Bool.and_eq_true, decide_eq_true_eq, CellState.listed_iff] at h
      exact .inr ⟨fun e ⟨_, _, _, hwidth, hstate⟩ => h ⟨hstate, hwidth⟩, rfl⟩
  · next hk => exact .inr ⟨fun e he => (by rw [he.1] at hk; cases hk), rfl⟩

theorem mem_indexEntriesFrom {e : IndexEntry} {n : Nat} {cells : List Cell} :
    e ∈ indexEntriesFrom n cells ↔ ∃ m c, e.cell = n + m ∧ cells[m]? = some c ∧ c.Listed e := by
  induction cells generalizing n with
  | nil => simp [indexEntriesFrom]
  | cons x rest ih =>
    have hsplit : (∃ m c, e.cell = n + m ∧ (x :: rest)[m]? = some c ∧ c.Listed e) ↔
        (e.cell = n ∧ x.Listed e) ∨ ∃ m c, e.cell = n + 1 + m ∧ rest[m]? = some c ∧ c.Listed e := by
      constructor
      · rintro ⟨m | m, c, hm, hc, hl⟩
        · cases hc
          exact .inl ⟨hm, hl⟩
        · exact .inr ⟨m, c, by omega, hc, hl⟩
      · rintro (⟨hm, hl⟩ | ⟨m, c, hm, hc, hl⟩)
        · exact ⟨0, x, hm, rfl, hl⟩
        · exact ⟨m + 1, c, by omega, hc, hl⟩
    rw [hsplit, ← ih]
    rcases indexEntriesFrom_cons n x rest with ⟨a, ha, hcell, heq⟩ | ⟨hno, heq⟩
    · rw [heq, List.mem_cons]
      refine or_congr_left ⟨?_, ?_⟩
      · rintro rfl
        exact ⟨hcell, ha⟩
      · rintro ⟨hn, hkey, hstate, hdose, -⟩
        obtain ⟨hkey', hstate', hdose', -⟩ := ha
        obtain ⟨k, i, st, d⟩ := e
        obtain ⟨k', i', st', d'⟩ := a
        simp_all
    · rw [heq]
      exact ⟨.inr, fun h => h.resolve_left fun h' => hno e h'.2⟩

theorem indexEntriesFrom_distinct (n : Nat) (cells : List Cell) :
    (indexEntriesFrom n cells).Pairwise fun a b => a.cell ≠ b.cell := by
  induction cells generalizing n with
  | nil => exact .nil
  | cons x rest ih =>
    rcases indexEntriesFrom_cons n x rest with ⟨a, -, hcell, heq⟩ | ⟨-, heq⟩
    · rw [heq]
      refine List.pairwise_cons.mpr ⟨fun b hb => ?_, ih _⟩
      obtain ⟨m, -, hm, -⟩ := mem_indexEntriesFrom.mp hb
      omega
    · rw [heq]
      exact ih _

theorem foldr_insertIndexEntry {l : List IndexEntry} (h : l.Pairwise fun a b => a.cell ≠ b.cell) :
    (l.foldr insertIndexEntry []).Perm l ∧ (l.foldr insertIndexEntry []).Pairwise fun a b => a.before b = true := by
  induction l with
  | nil => exact ⟨.refl _, .nil⟩
  | cons x rest ih =>
    obtain ⟨hx, hrest⟩ := List.pairwise_cons.mp h
    obtain ⟨hperm, hsorted⟩ := ih hrest
    exact ⟨(insertIndexEntry_perm _ _).trans (hperm.cons x),
      insertIndexEntry_sorted hsorted fun y hy => hx y (hperm.mem_iff.mp hy)⟩

theorem buildIndex_sorted (cells : List Cell) : (buildIndex cells).Pairwise fun a b => a.before b = true :=
  (foldr_insertIndexEntry (indexEntriesFrom_distinct 0 cells)).2

theorem mem_buildIndex {e : IndexEntry} {cells : List Cell} :
    e ∈ buildIndex cells ↔ ∃ c, cells[e.cell]? = some c ∧ c.Listed e := by
  rw [buildIndex, (foldr_insertIndexEntry (indexEntriesFrom_distinct 0 cells)).1.mem_iff, mem_indexEntriesFrom]
  constructor
  · rintro ⟨m, c, hm, hc, hl⟩
    rw [Nat.zero_add] at hm
    exact ⟨c, hm ▸ hc, hl⟩
  · rintro ⟨c, hc, hl⟩
    exact ⟨e.cell, c, by omega, hc, hl⟩

/-! ### The lines -/

theorem digits_length (w n : Nat) : (digits w n).length = w := by
  induction w generalizing n with
  | zero => rfl
  | succ w ih => simp [digits, ih]

theorem digits_getElem? {w j : Nat} (n : Nat) (hj : j < w) :
    (digits w n)[j]? = some (BitVec.ofNat 8 (48 + n / 10 ^ (w - 1 - j) % 10)) := by
  induction w generalizing n with
  | zero => omega
  | succ w ih =>
    unfold digits
    rcases Nat.lt_or_ge j w with hlt | hge
    · rw [List.getElem?_append_left (by rw [digits_length]; exact hlt), ih (n / 10) hlt, Nat.div_div_eq_div_mul,
        ← Nat.pow_succ']
      congr 6
      omega
    · obtain rfl : j = w := by omega
      rw [List.getElem?_append_right (by rw [digits_length]), digits_length]
      simp [digit]

theorem letter_eq (n : Nat) : letter n = BitVec.ofNat 8 (0x41 + n) := (BitVec.ofNat_add 0x41 n).symm

theorem IndexEntry.mark_eq {e : IndexEntry} (h : e.state ∈ [CellState.exposed, .superseded, .void, .spoiled]) :
    e.mark = if e.state = .superseded then 0x53#8 else if e.state = .void then 0x56#8
      else if e.state = .spoiled then 0x58#8 else if e.dose then 0x44#8 else 0x20#8 := by
  simp only [List.mem_cons, List.not_mem_nil, or_false] at h
  unfold IndexEntry.mark
  rcases h with h | h | h | h <;> rw [h] <;> rfl

theorem IndexEntry.line_length (f : Format) (e : IndexEntry) : (e.line f).length = 30 := by
  simp [IndexEntry.line, GridRef.text, digits_length]

theorem indexPartLines_getElem? {f : Format} {index : List IndexEntry} (h : index ≠ []) (p j : Nat) (line : Text) :
    (indexPartLines f index p)[j]? = some line ↔
      j < 120 ∧ ∃ e, index[120 * p + j]? = some e ∧ line = e.line f := by
  have hne : index.isEmpty = false := by simpa using h
  rw [indexPartLines, hne, if_neg Bool.false_ne_true, List.getElem?_map, Option.map_eq_some_iff, List.getElem?_take]
  split
  · next hj => simp [hj, List.getElem?_drop, eq_comm]
  · next hj => simp [hj]

/-- Settles O29. -/
theorem indexBuild : Obligations.IndexBuild := by
  refine fun f cells => ⟨(buildIndex_sorted cells).imp (IndexEntry.before_iff _ _).mp, fun e => mem_buildIndex,
    IndexEntry.line_length f, fun w n => ⟨digits_length w n, fun j hj => digits_getElem? n hj⟩, fun e he => ?_,
    fun h p j line => indexPartLines_getElem? h p j line, fun h p => ?_, fun _ hlen => ?_⟩
  · obtain ⟨c, -, -, hstate, -, -, hlisted⟩ := mem_buildIndex.mp he
    rw [← IndexEntry.mark_eq (hstate ▸ hlisted), ← letter_eq, IndexEntry.line]
    simp [GridRef.text, Format.gridRef, spaceCode]
  · rw [h]
    rfl
  · have := mul_ceilDiv_bounds (a := f.cellCount) (b := 121) (by decide)
    unfold Format.documentCells Format.indexCells at *
    omega

end Sys2Proof.Machine
end

section
/-! The requests of the intake: admission, hold and status (R111, R112, R127, R138, R139). -/

namespace Sys2Proof.Machine

/-! ### Set Admission and Read Admission -/

theorem toNat_setWidth_8 {w : Word} (h : w.toNat ≤ 255) : (w.setWidth 8).toNat = w.toNat := by
  rw [BitVec.toNat_setWidth]
  omega

/-- Another enabled entry of the table has the link and the operator code (R111). -/
theorem State.duplicateEntry_iff (s : State) (i : Fin 16) (l : Fin 8) {w : Word} (h : w.toNat ≤ 255) :
    s.duplicateEntry i l (w.setWidth 8) = true ↔ ∃ j : Fin 16, j ≠ i ∧ s.admission[j].enabled = true ∧
      s.admission[j].link = l ∧ s.admission[j].operator.toNat = w.toNat := by
  simp only [State.duplicateEntry, List.any_eq_true, allEntries, List.mem_finRange, true_and, Bool.and_eq_true,
    decide_eq_true_eq, and_assoc, ← BitVec.toNat_inj, toNat_setWidth_8 h]

theorem setAdmissionOwner_of_bad {a e l p g : Word} (m : Word) (h : 15 < a.toNat ∨ 1 < e.toNat ∨ 7 < l.toNat ∨
    255 < p.toNat ∨ 3 < g.toNat) (s : State) : setAdmissionOwner a e l p g m s = (s, refusal .badArgument) := by
  unfold setAdmissionOwner
  split
  · next i n hi hn =>
    have hlt : a.toNat < 16 ∧ l.toNat < 8 := by
      unfold indexOf at hi hn
      split at hi
      · split at hn
        · exact ⟨‹_›, ‹_›⟩
        · cases hn
      · cases hi
    exact if_pos (by omega)
  · rfl

theorem setAdmissionOwner_of_inRange {a e l p g : Word} (m : Word) {i : Fin 16} {n : Fin 8} (hi : a.toNat = i.val)
    (hn : l.toNat = n.val) (h : ¬ (1 < e.toNat ∨ 255 < p.toNat ∨ 3 < g.toNat)) (s : State) :
    setAdmissionOwner a e l p g m s =
      if e = 1 ∧ s.duplicateEntry i n (p.setWidth 8) then (s, refusal .duplicateEntry)
      else
        (s.modAdmission i fun x =>
          { enabled := decide (e = 1), link := n, operator := p.setWidth 8, floor := g.toNat, mask := m,
            generation := x.generation + 1 },
          okWith [word (s.admission[i].generation + 1).toNat]) := by
  unfold setAdmissionOwner
  rw [indexOf_eq_some hi, indexOf_eq_some hn]
  exact if_neg h

/-! ### Staging Status -/

theorem freeFrom_one (used : List Nat) (fuel b : Nat) :
    freeFrom used fuel b 1 = ((List.range' b fuel).find? fun x => !used.contains x).toList := by
  induction fuel generalizing b with
  | zero => rfl
  | succ n ih =>
    rw [freeFrom, List.range'_succ, List.find?_cons]
    by_cases hb : used.contains b = true
    · rw [if_pos hb, ih, hb]
      rfl
    · rw [if_neg hb, Bool.eq_false_iff.mpr hb]
      cases n <;> rfl

/-- The lowest-numbered free block of the pool. -/
theorem lowestFree_one (used : List Nat) :
    (lowestFree used 1).head? = (List.range Config.blockCount).find? fun x => !used.contains x := by
  rw [lowestFree, freeFrom_one, List.range_eq_range']
  cases (List.range' 0 Config.blockCount).find? _ <;> rfl

theorem lowestFree_one_eq_none {used : List Nat} (h : ∀ b < 4096, b ∈ used) : (lowestFree used 1).head? = none := by
  rw [lowestFree_one, List.find?_eq_none]
  intro b hb
  simpa using h b (List.mem_range.mp hb)

theorem lowestFree_one_eq_some {used : List Nat} {b : Nat} (hb : b < 4096) (hfree : b ∉ used) (hlow : ∀ a < b, a ∈ used) :
    (lowestFree used 1).head? = some b := by
  rw [lowestFree_one, List.find?_range_eq_some]
  exact ⟨by simpa using hfree, List.mem_range.mpr hb, fun a ha => by simpa using hlow a ha⟩

/-- The words of a Staging Status answer, the optional pair written out. -/
theorem stagingWords_eq (s : State) : ∃ c d, optionalWords 1 ((lowestFree s.used 1).head?.map fun b => [word b]) = [c, d] ∧
    stagingWords s = [word s.used.length, word (4096 - s.used.length), c, d, flagWord s.holdAsserted, word s.holdQuantum] ++
      allLinks.flatMap fun l => [flagWord s.links[l].holdTimer.isSome, word s.links[l].quantum] := by
  have hwords : ∃ c d, optionalWords 1 ((lowestFree s.used 1).head?.map fun b => [word b]) = [c, d] := by
    cases (lowestFree s.used 1).head? with
    | none => exact ⟨0, 0, rfl⟩
    | some b => exact ⟨1, word b, rfl⟩
  obtain ⟨c, d, h⟩ := hwords
  refine ⟨c, d, h, ?_⟩
  rw [stagingWords, h]
  rfl

theorem flagWord_isSome {α : Type} (o : Option α) : flagWord o.isSome = if o = none then 0 else 1 := by
  cases o <;> rfl

theorem stagingWords_link (s : State) (l : Fin 8) : ((stagingWords s).drop (6 + 2 * l.val)).take 2 =
    [flagWord s.links[l].holdTimer.isSome, word s.links[l].quantum] := by
  obtain ⟨c, d, -, h⟩ := stagingWords_eq s
  rw [h]
  fin_cases l <;> rfl

theorem linkStatusOwner_eq {a : Word} {l : Fin 8} (ha : a.toNat = l.val) (s : State) : linkStatusOwner a s =
    (s, okWith ([flagWord s.links[l].active, flagWord s.links[l].reception.isSome] ++
      optionalWords 8 (s.links[l].reception.map receptionWords) ++ [flagWord s.links[l].holdTimer.isSome])) := by
  unfold linkStatusOwner
  rw [indexOf_eq_some ha]

/-- Settles O30: each request by its argument's range. -/
theorem intakeRequests : Obligations.IntakeRequests := by
  refine ⟨fun s h => ⟨fun a e l p g m => ⟨fun hbad => ?_, fun i n hgood hi hn => ⟨fun htwin => ?_, fun hno => ?_⟩⟩,
    fun a => ⟨fun ha => ?_, fun i hi => ?_⟩, fun q => ⟨fun hq => ?_, fun hlow hhigh => ?_⟩⟩,
    fun s h => ⟨fun a => ⟨fun ha => ?_, fun l hl => ⟨fun hr => ?_, fun r hr => ?_⟩⟩, stagingWords s, ?_, ?_⟩⟩
  · exact exec_same rfl h fun p => setAdmissionOwner_of_bad m hbad _
  · have hp : p.toNat ≤ 255 := by omega
    refine exec_same rfl h fun port => (setAdmissionOwner_of_inRange m hi hn (by omega) _).trans (if_pos ⟨htwin.1, ?_⟩)
    exact ((s.onPort port).duplicateEntry_iff i n hp).mpr htwin.2
  · have hp : p.toNat ≤ 255 := by omega
    rw [exec_answered (u := s.modAdmission i fun x =>
      { enabled := decide (e = 1), link := n, operator := p.setWidth 8, floor := g.toNat, mask := m,
        generation := x.generation + 1 }) (r := okWith [word (s.admission[i].generation + 1).toNat]) rfl h fun port => ?_]
    · rw [BitVec.toNat_add]
      rfl
    · refine (setAdmissionOwner_of_inRange m hi hn (by omega) _).trans (if_neg fun htwin => hno ⟨htwin.1, ?_⟩)
      exact ((s.onPort port).duplicateEntry_iff i n hp).mp htwin.2
  · exact exec_same rfl h fun p => by simp only [readAdmissionOwner, indexOf_eq_none (show 16 ≤ a.toNat from ha)]
  · exact exec_same rfl h fun p => by simp only [readAdmissionOwner, indexOf_eq_some hi]; rfl
  · exact exec_same rfl h fun p => if_pos hq
  · exact exec_answered (u := { s with holdQuantum := q.toNat }) rfl h fun p => if_neg (by omega)
  · exact exec_same rfl h fun p => by simp only [linkStatusOwner, indexOf_eq_none (show 8 ≤ a.toNat from ha)]
  · refine exec_same rfl h fun p => (linkStatusOwner_eq hl _).trans ?_
    have hp : (s.onPort p).links[l].reception = none := hr
    rw [hp, flagWord_isSome (s.onPort p).links[l].holdTimer]
    rfl
  · refine exec_same rfl h fun p => (linkStatusOwner_eq hl _).trans ?_
    have hp : (s.onPort p).links[l].reception = some r := hr
    rw [hp, flagWord_isSome (s.onPort p).links[l].holdTimer]
    rfl
  · exact exec_same rfl h fun p => rfl
  · obtain ⟨c, d, hfree, hwords⟩ := stagingWords_eq s
    refine ⟨?_, ?_, fun hall => ?_, fun b hb hno hlow => ?_, ?_, fun l => ?_⟩
    · rw [hwords]
      rfl
    · rw [hwords]
      rfl
    · rw [lowestFree_one_eq_none hall] at hfree
      rw [hwords]
      exact hfree.symm
    · rw [lowestFree_one_eq_some hb hno hlow] at hfree
      rw [hwords]
      exact hfree.symm
    · rw [hwords]
      rfl
    · rw [stagingWords_link, flagWord_isSome]

end Sys2Proof.Machine
end

section
/-! Frames of the station links: discards, probes and bodies (R105 to R109, R119). -/

namespace Sys2Proof.Machine

/-! ### The two checks -/

theorem crc16Bit_eq (r : BitVec 16) (bit : Bool) :
    crc16Bit r bit = (r <<< 1) ^^^ (if (r.msb ^^ bit) = true then 0x1021#16 else 0) := by
  unfold crc16Bit
  cases r.msb <;> cases bit <;> simp

theorem bitsMsbFirst_eq (b : Byte) : bitsMsbFirst b = (List.range 8).map fun j => b.getMsbD j := rfl

theorem frameCheck_append (bytes : List Byte) (b : Byte) : frameCheck (bytes ++ [b]) =
    (List.range 8).foldl (fun (r : BitVec 16) j => (r <<< 1) ^^^ (if (r.msb ^^ b.getMsbD j) = true then 0x1021#16 else 0))
      (frameCheck bytes) := by
  simp only [frameCheck, List.foldl_append, List.foldl_cons, List.foldl_nil, bitsMsbFirst_eq, List.foldl_map, crc16Bit_eq]

theorem crc32Bit_eq (r : BitVec 32) (bit : Bool) : crc32Bit r bit =
    (r >>> 1) ^^^ (if (r.getLsbD 0 ^^ bit) = true then (0x04C11DB7#32).reverse else 0) := by
  have hreverse : (0x04C11DB7#32).reverse = 0xEDB88320#32 := by decide +kernel
  rw [hreverse, crc32Bit]
  cases r.getLsbD 0 <;> cases bit <;> simp

theorem bitsLsbFirst_eq (b : Byte) : bitsLsbFirst b = (List.range 8).map fun j => b.getLsbD j := rfl

theorem checkAdvance_append (r : BitVec 32) (bytes : List Byte) (b : Byte) : checkAdvance r (bytes ++ [b]) =
    (List.range 8).foldl
      (fun (x : BitVec 32) j => (x >>> 1) ^^^ (if (x.getLsbD 0 ^^ b.getLsbD j) = true then (0x04C11DB7#32).reverse else 0))
      (checkAdvance r bytes) := by
  simp only [checkAdvance, List.foldl_append, List.foldl_cons, List.foldl_nil, bitsLsbFirst_eq, List.foldl_map, crc32Bit_eq]

/-! ### Links -/

theorem State.modLink_modLink (s : State) (l : Fin 8) (f g : Link → Link) :
    (s.modLink l f).modLink l g = s.modLink l fun k => g (f k) := by
  simp [State.modLink]

theorem State.countLink_eq (s : State) (l : Fin 8) (c : LinkCounter) : s.countLink l c = s.modLink l (·.counted c) := rfl

theorem State.sendFrame_active {s : State} {l : Fin 8} (h : s.links[l].active = true) (f : OutFrame) :
    s.sendFrame l f = s.modLink l fun k => { k with outbox := k.outbox ++ [f] } := by
  exact congrArg (fun k => ({ s with links := s.links.set l k } : State)) (if_pos h)

/-! ### Frames of a fixed length -/

theorem State.takeFixed_down {s : State} {l : Fin 8} (h : s.links[l].active = false) (kind : Byte) (n : Nat) (f : Frame)
    (take : State → State) : s.takeFixed l kind n f take = s := if_neg (by rw [h]; decide)

theorem State.takeFixed_bad {s : State} {l : Fin 8} {kind : Byte} {f : Frame} (h : s.links[l].active = true)
    (hgood : frameGood kind f = false) (n : Nat) (take : State → State) :
    s.takeFixed l kind n f take = s.countLink l .checkErrors :=
  (if_pos h).trans (if_neg (by rw [hgood]; decide))

theorem State.takeFixed_stray {s : State} {l : Fin 8} {kind : Byte} {f : Frame} {n : Nat} (h : s.links[l].active = true)
    (hgood : frameGood kind f = true) (hn : f.length.toNat ≠ n) (take : State → State) :
    s.takeFixed l kind n f take = s.countLink l .strayFrames :=
  (if_pos h).trans ((if_pos hgood).trans (if_neg hn))

theorem State.takeFixed_taken {s : State} {l : Fin 8} {kind : Byte} {f : Frame} {n : Nat} (h : s.links[l].active = true)
    (hgood : frameGood kind f = true) (hn : f.length.toNat = n) (take : State → State) :
    s.takeFixed l kind n f take = take s :=
  (if_pos h).trans ((if_pos hgood).trans (if_pos hn))

theorem frameGood_iff (k : Byte) (f : Frame) : frameGood k f = true ↔
    f.check = frameCheck (k :: bytesOf 2 f.length.toNat ++ f.payload) ∧ f.length.toNat ≤ 4096 := by
  rw [frameGood, Bool.and_eq_true, decide_eq_true_eq, decide_eq_true_eq]
  rfl

theorem kindHasOtherRow_iff (k : Byte) : kindHasOtherRow k = true ↔ k = 0x01 ∨ k = 0x03 ∨ k = 0x04 := by
  simp only [kindHasOtherRow, Bool.or_eq_true, beq_iff_eq, or_assoc]
  rfl

theorem execBody_down {l : Fin 8} {s : State} (h : s.links[l].active = false) (k : Byte) (f : Frame) :
    execBody l k f s = .next s := if_neg (by rw [h]; decide)

theorem execBody_bad {l : Fin 8} {s : State} {k : Byte} {f : Frame} (h : s.links[l].active = true)
    (hgood : frameGood k f = false) : execBody l k f s = .next (s.countLink l .checkErrors) :=
  (if_pos h).trans (if_neg (by rw [hgood]; decide))

theorem execBody_stray {l : Fin 8} {s : State} {k : Byte} {f : Frame} (h : s.links[l].active = true)
    (hgood : frameGood k f = true) (hk : k ≠ 0x02) : execBody l k f s = .next (s.countLink l .strayFrames) :=
  (if_pos h).trans ((if_pos hgood).trans (if_neg hk))

theorem execBody_taken {l : Fin 8} {s : State} {f : Frame} (h : s.links[l].active = true)
    (hgood : frameGood 0x02 f = true) : execBody l 0x02 f s = .next (s.takeBody l f.payload) :=
  (if_pos h).trans ((if_pos hgood).trans (if_pos rfl))

/-- Settles O32. -/
theorem discardedFrames : Obligations.DiscardedFrames := by
  refine ⟨⟨rfl, frameCheck_append⟩, kindHasOtherRow_iff, fun l k f s => ⟨frameGood_iff k f, fun h => ?_, fun h => ?_⟩⟩
  · exact ⟨congrArg _ (State.takeFixed_down h ..), execBody_down h k f, congrArg _ (State.takeFixed_down h ..),
      congrArg _ (State.takeFixed_down h ..)⟩
  · exact ⟨fun hg => congrArg _ (State.takeFixed_bad h hg ..), fun hg hn => congrArg _ (State.takeFixed_stray h hg hn _),
      fun hg => execBody_bad h hg, fun hg hk _ => execBody_stray h hg hk,
      fun hg => congrArg _ (State.takeFixed_bad h hg ..), fun hg hn => congrArg _ (State.takeFixed_stray h hg hn _),
      fun hg => congrArg _ (State.takeFixed_bad h hg ..), fun hg hn => congrArg _ (State.takeFixed_stray h hg hn _)⟩

/-! ### Probes -/

theorem length_bytesOf (w n : Nat) : (bytesOf w n).length = w := by
  induction w generalizing n with
  | zero => rfl
  | succ w ih => simp [bytesOf, ih]

theorem length_probeReply (p : ProbeReply) : (outPayload (.probeReply p)).length = 15 := by
  simp [outPayload, length_bytesOf]

/-- Settles O38. -/
theorem probeReplies : Obligations.ProbeReplies := by
  intro l f s h hgood hn
  refine ⟨s.probeAnswer l, ?_, length_probeReply _, ?_⟩
  · exact congrArg _ ((State.takeFixed_taken h hgood hn _).trans
      (State.sendFrame_active (s := { s with freeCount := s.freeCount + 4 }) h _))
  · cases hr : s.links[l].reception with
    | none =>
      rw [State.probeAnswer, hr]
      exact ⟨rfl, rfl, rfl, fun r hr => by cases hr⟩
    | some r =>
      rw [State.probeAnswer, hr]
      exact ⟨rfl, rfl, rfl, fun r' hr' => by cases hr'; exact ⟨rfl, rfl, rfl, rfl⟩⟩

/-! ### Bodies -/

theorem bodyAddress_eq_some_iff (blocks : List Nat) (b a : Nat) : bodyAddress blocks b = some a ↔
    ∃ block, blocks[b / 65536]? = some block ∧ a = block * 65536 + b % 65536 := by
  simp only [bodyAddress, Option.map_eq_some_iff, eq_comm (a := a)]
  rfl

/-- Two positions of a body lie at one address only when they are one. -/
theorem bodyAddress_inj {blocks : List Nat} (hnodup : blocks.Nodup) {b b' a : Nat} (h : bodyAddress blocks b = some a)
    (h' : bodyAddress blocks b' = some a) : b = b' := by
  obtain ⟨x, hx, rfl⟩ := (bodyAddress_eq_some_iff _ _ _).mp h
  obtain ⟨y, hy, heq⟩ := (bodyAddress_eq_some_iff _ _ _).mp h'
  obtain rfl : x = y := by omega
  obtain ⟨hlt, hxe⟩ := List.getElem?_eq_some_iff.mp hx
  obtain ⟨hlt', hye⟩ := List.getElem?_eq_some_iff.mp hy
  have := (hnodup.getElem_inj_iff).mp (hxe.trans hye.symm)
  omega

/-- Of any cell list, a write leaves what every other address reads. -/
theorem readByte_writeByte_ne (m : List Host.Cell) {a x : Nat} (h : a ≠ x) (v : Byte) :
    readByte (writeByte m a v) x = readByte m x := by
  induction m with
  | nil =>
    unfold writeByte
    split <;> simp [readByte, h]
  | cons c rest ih =>
    obtain ⟨b, u⟩ := c
    unfold writeByte
    split
    · split <;> simp [readByte, h]
    · split
      · next hab =>
        subst hab
        split <;> simp [readByte, h]
      · simp [readByte, ih]

theorem readByte_writeBody_outside (m : List Host.Cell) (blocks : List Nat) (b : Nat) (bytes : List Byte) (x : Nat)
    (hx : ∀ j < bytes.length, bodyAddress blocks (b + j) ≠ some x) :
    readByte (writeBody m blocks b bytes) x = readByte m x := by
  induction bytes generalizing m b with
  | nil => rfl
  | cons v rest ih =>
    have hrest : ∀ j < rest.length, bodyAddress blocks (b + 1 + j) ≠ some x := fun j hj => by
      rw [show b + 1 + j = b + (j + 1) by omega]
      exact hx (j + 1) (by simpa using hj)
    unfold writeBody
    split
    · next a ha =>
      rw [ih _ _ hrest, readByte_writeByte_ne]
      rintro rfl
      exact hx 0 (by simp) ha
    · exact ih _ _ hrest

theorem readByte_writeBody_inside {m : List Host.Cell} (hm : Memory.wf m) {blocks : List Nat} (hnodup : blocks.Nodup)
    {b a j : Nat} {bytes : List Byte} (hj : j < bytes.length) (ha : bodyAddress blocks (b + j) = some a) :
    readByte (writeBody m blocks b bytes) a = bytes[j] := by
  induction bytes generalizing m b j with
  | nil => cases hj
  | cons v rest ih =>
    rw [writeBody]
    cases j with
    | zero =>
      rw [Nat.add_zero] at ha
      rw [ha]
      dsimp only
      rw [readByte_writeBody_outside _ _ _ _ _ fun i _ hi => absurd (bodyAddress_inj hnodup ha hi) (by omega),
        readByte_writeByte hm.1, if_pos rfl]
      rfl
    | succ j =>
      have ha' : bodyAddress blocks (b + 1 + j) = some a := by rwa [show b + 1 + j = b + (j + 1) by omega]
      split
      · exact ih (writeByte_wf hm _ v) (Nat.lt_of_succ_lt_succ hj) ha'
      · exact ih hm (Nat.lt_of_succ_lt_succ hj) ha'

theorem State.receptionBlocks_of_found {s : State} {k : Key} {x : Record} (h : s.findRecord k = some x) :
    s.receptionBlocks k = blocksOf x.image := by
  rw [State.receptionBlocks, h]

theorem State.takeBody_some {s : State} {l : Fin 8} {r : Reception} (hr : s.links[l].reception = some r)
    (bytes : List Byte) : s.takeBody l bytes = if r.withdrawn then s
      else if r.soFar + bytes.length ≤ r.expected then s.storeBody l r bytes else s.endWithRefuse l r .overlength := by
  rw [State.takeBody, hr]

/-- Settles O35. -/
theorem bodyFrames : Obligations.BodyFrames := by
  refine ⟨fun r => ⟨rfl, checkAdvance_append r⟩, bodyAddress_eq_some_iff, fun s k x => State.receptionBlocks_of_found,
    fun l f s h hgood => ⟨fun hr => ?_, fun r hr => ?_⟩⟩
  · show execBody l 0x02 f s = _
    rw [execBody_taken h hgood, State.takeBody, hr]
    rfl
  · have htake : exec (.body l 0x02 f) s = .next (s.takeBody l f.payload) := execBody_taken h hgood
    rw [State.takeBody_some hr] at htake
    refine ⟨fun hw => ?_, fun hw hlong => ?_, fun hw hfits => ?_⟩
    · rw [htake, hw]
      rfl
    · rw [htake, hw, if_neg Bool.false_ne_true, if_neg (by omega)]
    · rw [hw, if_neg Bool.false_ne_true, if_pos hfits] at htake
      refine ⟨_, htake.trans ?_, fun a ha => readByte_writeBody_outside _ _ _ _ _ ha, fun hm hnodup j hj a ha =>
        readByte_writeBody_inside hm hnodup hj ha⟩
      rw [State.storeBody, hw]
      rfl

end Sys2Proof.Machine
end

section
/-! The hold, the blocks, and the endings of receptions (R13, R105, R120 to R124, R130 to R137). -/

namespace Sys2Proof.Machine

/-! ### The transitions of the hold -/

/-- A walk over links that applies one change to each. -/
theorem foldl_modLink {f : State → Fin 8 → State} {g : Link → Link} {q : Nat}
    (hf : ∀ t l, t.holdQuantum = q → f t l = t.modLink l g) {ls : List (Fin 8)} (hls : ls.Nodup) {s : State}
    (hq : s.holdQuantum = q) : ls.foldl f s =
      { s with links := Vector.ofFn fun j => if j ∈ ls then g s.links[j] else s.links[j] } := by
  induction ls generalizing s with
  | nil =>
    have hlinks : s.links = Vector.ofFn fun j => s.links[j] := by ext j hj; simp
    simp only [List.foldl_nil, List.not_mem_nil, if_false, ← hlinks]
  | cons l rest ih =>
    obtain ⟨hl, hrest⟩ := List.nodup_cons.mp hls
    rw [List.foldl_cons, hf s l hq, ih hrest (s := s.modLink l g) hq]
    refine congrArg (fun v => ({ s with links := v } : State)) (congrArg Vector.ofFn (funext fun j => ?_))
    rw [State.modLink_at]
    by_cases hj : j = l
    · subst hj
      rw [if_neg hl, if_pos rfl, if_pos List.mem_cons_self]
    · rw [if_neg hj]
      simp only [List.mem_cons, hj, false_or]

/-- What the assertion of the hold does to a link (R134). -/
def Link.holdSent (k : Link) (q : Nat) : Link :=
  if k.active then { k with outbox := k.outbox ++ [.hold q], holdTimer := some q, quantum := q } else k

/-- What the clearing of the hold does to a link (R136). -/
def Link.holdCleared (k : Link) : Link :=
  if k.holdTimer = none then k else { k with
    outbox := if k.active then k.outbox ++ [.hold 0] else k.outbox
    holdTimer := none, quantum := 0 }

theorem State.sendHold_active {s : State} {l : Fin 8} (h : s.links[l].active = true) : s.sendHold l = s.modLink l fun k =>
    { k with outbox := k.outbox ++ [.hold s.holdQuantum], holdTimer := some s.holdQuantum, quantum := s.holdQuantum } := by
  rw [State.sendHold, State.sendFrame_active h, State.modLink_modLink]

theorem State.modLink_of_eq {s : State} {l : Fin 8} {f : Link → Link} {k : Link} (h : f s.links[l] = k) :
    s.modLink l f = { s with links := s.links.set l k } := by
  rw [← h]
  rfl

theorem State.modLink_self {s : State} {l : Fin 8} {f : Link → Link} (h : f s.links[l] = s.links[l]) : s.modLink l f = s := by
  rw [State.modLink_of_eq h]
  simp

theorem assertHold_link (t : State) (l : Fin 8) :
    (if t.links[l].active then t.sendHold l else t) = t.modLink l (·.holdSent t.holdQuantum) := by
  split
  · next h =>
    rw [State.sendHold_active h]
    exact (State.modLink_of_eq (if_pos h)).symm
  · next h => exact (State.modLink_self (if_neg h)).symm

theorem clearHold_link (t : State) (l : Fin 8) :
    (if t.links[l].holdTimer.isSome then (t.sendFrame l (.hold 0)).stopHoldTimer l else t) = t.modLink l Link.holdCleared := by
  cases h : t.links[l].holdTimer with
  | none => exact (State.modLink_self (f := Link.holdCleared) (if_pos h)).symm
  | some n =>
    have hcleared : t.links[l].holdCleared = { t.links[l] with
        outbox := if t.links[l].active then t.links[l].outbox ++ [.hold 0] else t.links[l].outbox
        holdTimer := none, quantum := 0 } := if_neg (by rw [h]; nofun)
    rw [State.modLink_of_eq hcleared]
    simp only [Option.isSome_some, if_true, State.sendFrame, State.stopHoldTimer, State.modLink_modLink]
    refine State.modLink_of_eq ?_
    split <;> rfl

theorem mem_allLinks_ite {α : Type} (j : Fin 8) (a b : α) : (if j ∈ allLinks then a else b) = a :=
  if_pos (List.mem_finRange j)

theorem State.assertHold_eq (s : State) : s.assertHold = { s with
    holdAsserted := true
    port := { s.port with changes := s.port.changes ||| 1#21 <<< 16 }
    links := Vector.ofFn fun l => s.links[l].holdSent s.holdQuantum } := by
  have hf : ∀ (t : State) (l : Fin 8), t.holdQuantum = s.holdQuantum →
      (if t.links[l].active then t.sendHold l else t) = t.modLink l (·.holdSent s.holdQuantum) :=
    fun t l hq => hq ▸ assertHold_link t l
  rw [State.assertHold, foldl_modLink hf (ls := allLinks) (List.nodup_finRange 8)
    (s := ({ s with holdAsserted := true } : State).raise .hold) rfl]
  simp only [mem_allLinks_ite]
  rfl

theorem State.clearHold_eq (s : State) : s.clearHold = { s with
    holdAsserted := false
    port := { s.port with changes := s.port.changes ||| 1#21 <<< 16 }
    links := Vector.ofFn fun l => s.links[l].holdCleared } := by
  rw [State.clearHold, foldl_modLink (fun t l _ => clearHold_link t l) (ls := allLinks) (List.nodup_finRange 8)
    (s := ({ s with holdAsserted := false } : State).raise .hold) rfl]
  simp only [mem_allLinks_ite]
  rfl

theorem State.judgeHold_eq_self {s : State} (h : s.holdAsserted = false ∧ s.used.length < 3584 ∨
    s.holdAsserted = true ∧ 3072 < s.used.length) : s.judgeHold = s := by
  unfold State.judgeHold
  rcases h with ⟨ha, hlt⟩ | ⟨ha, hlt⟩
  · rw [ha, decide_eq_false (show ¬ Config.holdHighMark ≤ s.used.length from Nat.not_le.mpr hlt)]
    rfl
  · rw [ha, decide_eq_false (show ¬ s.used.length ≤ Config.holdLowMark from Nat.not_le.mpr hlt)]
    rfl

theorem State.judgeHold_eq_asserted {s : State} (ha : s.holdAsserted = false) (h : 3584 ≤ s.used.length) :
    s.judgeHold = s.assertHold := by
  unfold State.judgeHold
  rw [ha, decide_eq_true (show Config.holdHighMark ≤ s.used.length from h)]
  rfl

theorem State.judgeHold_eq_cleared {s : State} (ha : s.holdAsserted = true) (h : s.used.length ≤ 3072) :
    s.judgeHold = s.clearHold := by
  unfold State.judgeHold
  rw [ha, decide_eq_true (show s.used.length ≤ Config.holdLowMark from h)]
  rfl

theorem State.judgeHold_cases (s : State) : s.judgeHold = s ∨ s.judgeHold = s.assertHold ∨ s.judgeHold = s.clearHold := by
  cases ha : s.holdAsserted with
  | false =>
    rcases Nat.lt_or_ge s.used.length 3584 with h | h
    · exact .inl (State.judgeHold_eq_self (.inl ⟨ha, h⟩))
    · exact .inr (.inl (State.judgeHold_eq_asserted ha h))
  | true =>
    rcases Nat.lt_or_ge 3072 s.used.length with h | h
    · exact .inl (State.judgeHold_eq_self (.inr ⟨ha, h⟩))
    · exact .inr (.inr (State.judgeHold_eq_cleared ha h))

/-! ### Blocks given and freed -/

/-- A pool has as many free blocks as its used blocks leave over. -/
theorem countP_free_ge (used : List Nat) (n : Nat) : n - used.length ≤ (List.range n).countP fun x => !used.contains x := by
  have hsplit := List.length_eq_countP_add_countP (fun x => used.contains x) (l := List.range n)
  have hused : (List.range n).countP (fun x => used.contains x) ≤ used.length := by
    rw [List.countP_eq_length_filter]
    refine ((List.nodup_range.filter _).subperm fun x hx => ?_).length_le
    simpa using (List.mem_filter.mp hx).2
  simp only [List.length_range] at hsplit
  have hneg : (List.range n).countP (fun x => decide ¬ used.contains x = true) =
      (List.range n).countP fun x => !used.contains x := by
    congr 1
    funext x
    cases used.contains x <;> rfl
  omega

/-- The blocks that an allocation gives (R130). -/
theorem lowestFree_given {used : List Nat} {need : Nat} (h : need ≤ 4096 - used.length) :
    (lowestFree used need).length = need ∧ (lowestFree used need).Pairwise (· < ·) ∧
      (∀ b ∈ lowestFree used need, b < 4096 ∧ b ∉ used) ∧
      ∀ b < 4096, b ∉ used → b ∉ lowestFree used need → ∀ x ∈ lowestFree used need, x < b := by
  refine ⟨length_freeFrom ?_, freeFrom_ascending _ _ _ _, fun b hb => mem_lowestFree hb, fun b _ hfree hno x hx => ?_⟩
  · rw [← List.range_eq_range']
    exact h.trans (countP_free_ge used _)
  · by_contra hle
    have hne : b ≠ x := fun he => hno (he ▸ hx)
    exact hno (freeFrom_lowest hx (Nat.zero_le b) (by omega) hfree)

theorem State.allocate_eq (s : State) {need : Nat} (h : need ≤ 4096 - s.used.length) : s.allocate need =
    some (lowestFree s.used need,
      ({ s with used := (lowestFree s.used need).foldl (fun u b => insertBlock b u) s.used } : State).judgeHold) :=
  if_neg (Nat.not_lt.mpr h)

theorem State.allocate_eq_none {s : State} {need : Nat} (h : 4096 - s.used.length < need) : s.allocate need = none :=
  if_pos h

theorem length_eq_of_mem_iff {u v w : List Nat} (hu : u.Nodup) (hv : v.Nodup) (hw : w.Nodup)
    (hdisjoint : ∀ b ∈ w, b ∉ v) (h : ∀ b, b ∈ u ↔ b ∈ v ∨ b ∈ w) : u.length = v.length + w.length := by
  rw [← List.length_append]
  refine (List.perm_of_nodup_nodup_toFinset_eq hu ?_ ?_).length_eq
  · exact List.nodup_append.mpr ⟨hv, hw, fun a ha b hb he => hdisjoint b hb (he ▸ ha)⟩
  · ext b
    simp [h]

/-- Settles O39. -/
theorem holdsAndBlocks : Obligations.HoldsAndBlocks := by
  refine ⟨⟨fun l s => ⟨fun h => ?_, fun h ha hactive => ?_⟩, fun s => ⟨fun ha h => State.judgeHold_eq_self (.inl ⟨ha, h⟩),
    fun ha h => State.judgeHold_eq_self (.inr ⟨ha, h⟩), fun ha h => ?_, fun ha h => ?_⟩⟩,
    fun s hpool => ⟨fun need h => State.allocate_eq_none h, fun need h => ?_, fun blocks => ?_⟩⟩
  · show execHoldTimerExpiry l s = _
    rw [execHoldTimerExpiry, h]
    rfl
  · show execHoldTimerExpiry l s = _
    rw [execHoldTimerExpiry, if_pos (Option.isSome_iff_ne_none.mpr h), if_pos ha, State.sendHold_active hactive]
    rfl
  · rw [State.judgeHold_eq_asserted ha h, State.assertHold_eq]
    rfl
  · rw [State.judgeHold_eq_cleared ha h, State.clearHold_eq]
    rfl
  · obtain ⟨hlen, hasc, hfree, hlow⟩ := lowestFree_given h
    have hordered := insertBlocks_ordered (n := Config.blockCount) (fun b hb => (hfree b hb).1) hpool
    have hmem (b : Nat) : b ∈ (lowestFree s.used need).foldl (fun u b => insertBlock b u) s.used ↔
        b ∈ s.used ∨ b ∈ lowestFree s.used need := mem_foldl_insertBlock.trans or_comm
    refine ⟨_, _, s.allocate_eq h, hlen, hasc, hfree, hlow, ?_, ?_, ?_, ?_⟩
    · simpa [State.poolOrdered] using hordered
    · simpa using hmem
    · have := length_eq_of_mem_iff (hordered.1.imp Nat.ne_of_lt) (hpool.1.imp Nat.ne_of_lt) (hasc.imp Nat.ne_of_lt)
        (fun b hb => (hfree b hb).2) hmem
      simpa [hlen] using this
    · simp
  · refine ⟨?_, ?_, rfl⟩
    · simpa [State.release, State.poolOrdered] using
        ⟨hpool.1.filter _, fun b hb _ => hpool.2 b hb⟩
    · simp [State.release]

end Sys2Proof.Machine
end

section
/-! Carriers and the endings of receptions (R13, R14, R105, R120 to R124). -/

namespace Sys2Proof.Machine

/-! ### The end of a reception and the context -/

theorem Link.holdSent_reception (k : Link) (q : Nat) (o : Option Reception) :
    ({ k with reception := o } : Link).holdSent q = { k.holdSent q with reception := o } := by
  unfold Link.holdSent
  split <;> rfl

theorem Link.holdCleared_reception (k : Link) (o : Option Reception) :
    ({ k with reception := o } : Link).holdCleared = { k.holdCleared with reception := o } := by
  unfold Link.holdCleared
  split <;> rfl

/-- A change of one link before or after a change of every link that keeps out of its way. -/
theorem ofFn_set_comm {g f : Link → Link} (hfg : ∀ k, g (f k) = f (g k)) (v : Vector Link 8) (l : Fin 8) :
    (Vector.ofFn fun j : Fin 8 => g (v.set l (f v[l]))[j]) =
      (Vector.ofFn fun j : Fin 8 => g v[j]).set l (f (Vector.ofFn fun j : Fin 8 => g v[j])[l]) := by
  ext1 j hj
  simp only [Vector.getElem_set, Vector.getElem_ofFn, Fin.getElem_fin]
  split
  · exact hfg _
  · rfl

theorem State.assertHold_idleContext (s : State) (l : Fin 8) : (s.idleContext l).assertHold = s.assertHold.idleContext l := by
  have hlinks := ofFn_set_comm (g := (·.holdSent s.holdQuantum)) (f := fun k => { k with reception := none })
    (fun k => Link.holdSent_reception k s.holdQuantum none) s.links l
  rw [State.assertHold_eq, State.assertHold_eq]
  exact congrArg (fun v => ({ s with
    holdAsserted := true, port := { s.port with changes := s.port.changes ||| 1#21 <<< 16 }, links := v } : State)) hlinks

theorem State.clearHold_idleContext (s : State) (l : Fin 8) : (s.idleContext l).clearHold = s.clearHold.idleContext l := by
  have hlinks := ofFn_set_comm (g := Link.holdCleared) (f := fun k => { k with reception := none })
    (fun k => Link.holdCleared_reception k none) s.links l
  rw [State.clearHold_eq, State.clearHold_eq]
  exact congrArg (fun v => ({ s with
    holdAsserted := false, port := { s.port with changes := s.port.changes ||| 1#21 <<< 16 }, links := v } : State)) hlinks

theorem State.judgeHold_idleContext (s : State) (l : Fin 8) : (s.idleContext l).judgeHold = s.judgeHold.idleContext l := by
  show (if (!s.holdAsserted && decide (Config.holdHighMark ≤ s.used.length)) = true then (s.idleContext l).assertHold
    else if (s.holdAsserted && decide (s.used.length ≤ Config.holdLowMark)) = true then (s.idleContext l).clearHold
    else s.idleContext l) = _
  rw [State.assertHold_idleContext, State.clearHold_idleContext, State.judgeHold]
  split
  · rfl
  · split <;> rfl

theorem State.indexingTest_modLink (s : State) (l : Fin 8) (f : Link → Link) (i : Fin 12) :
    (s.modLink l f).indexingTest i = (s.indexingTest i).modLink l f := by
  rw [State.indexingTest_eq, State.indexingTest_eq, show (s.modLink l f).slots = s.slots from rfl]
  split <;> rfl

theorem State.closeFiche_modLink (s : State) (l : Fin 8) (f : Link → Link) (i : Fin 12) :
    (s.modLink l f).closeFiche i = (s.closeFiche i).modLink l f := by
  unfold State.closeFiche
  rw [show (s.modLink l f).slots = s.slots from rfl]
  split
  · exact State.indexingTest_modLink (s.modSlot i fun t => { t with state := .closing }) l f i
  · rfl

theorem State.judgeCutOff_modLink (s : State) (l : Fin 8) (f : Link → Link) (c : Fin 32) :
    (s.modLink l f).judgeCutOff c = (s.judgeCutOff c).modLink l f := by
  have hopen : (s.modLink l f).openSlot c = s.openSlot c := rfl
  unfold State.judgeCutOff
  rw [hopen]
  cases s.openSlot c with
  | none => rfl
  | some i =>
    show (if s.series[c].state = .cutOff ∧ s.pendingCount c = 0 then (s.modLink l f).closeFiche i else s.modLink l f) =
      State.modLink (if s.series[c].state = .cutOff ∧ s.pendingCount c = 0 then s.closeFiche i else s) l f
    split
    · exact State.closeFiche_modLink s l f i
    · rfl

/-- The end of a RECEIVING record's reception. -/
theorem State.endReception_receiving {s : State} {k : Key} {x : Record} (hx : s.findRecord k = some x)
    (hst : x.state = .receiving) : s.endReception k = (State.judgeHold
      { s with
        used := s.used.filter fun b => !(blocksOf x.image).contains b
        records := s.records.filter fun y => decide (y.key ≠ k) }).judgeCutOff x.series := by
  rw [State.endReception, hx]
  dsimp only
  rw [hst]
  rfl

/-- The end of a RETAKE-RECEIVING record's reception. -/
theorem State.endReception_retake {s : State} {k : Key} {x : Record} (hx : s.findRecord k = some x)
    (hst : x.state = .retakeReceiving) : s.endReception k = State.judgeHold
      { s with
        used := s.used.filter fun b => !(blocksOf x.image).contains b
        records := s.records.map fun y =>
          if y.key = k then { y with image := none, reserved := none, state := .exposed } else y } := by
  rw [State.endReception, hx]
  dsimp only
  rw [hst]
  rfl

theorem State.endReception_idleContext (s : State) (k : Key) (l : Fin 8) :
    (s.endReception k).idleContext l = (s.idleContext l).endReception k := by
  unfold State.endReception
  rw [show (s.idleContext l).findRecord k = s.findRecord k from rfl]
  cases s.findRecord k with
  | none => rfl
  | some x =>
    dsimp only
    split
    · exact (State.judgeCutOff_modLink _ l _ x.series).symm.trans
        (congrArg (fun t : State => t.judgeCutOff x.series) (State.judgeHold_idleContext _ l).symm)
    · exact (State.judgeHold_idleContext _ l).symm
    · rfl

/-! ### Carriers -/

/-- The link whose carrier is lost, and whose reception has ended (R124). -/
def Link.lost (k : Link) : Link :=
  { ({ k with active := false, holdTimer := none, quantum := 0, outbox := [] } : Link).counted .carrierLostReceptions with
    reception := none }

theorem State.endWithCarrier_eq (s : State) (l : Fin 8) (r : Reception) : (s.carrierLost l).endWithCarrier l r =
    if r.withdrawn then s.modLink l Link.lost else (s.modLink l Link.lost).endReception r.key := by
  unfold State.endWithCarrier
  dsimp only
  rw [State.endReception_idleContext]
  simp only [State.carrierLost, State.countLink_eq, State.idleContext, State.modLink_modLink]
  rfl

/-- Settles O31. -/
theorem carrierChanges : Obligations.CarrierChanges := by
  refine ⟨fun l s => ⟨fun h => ?_, fun h => ⟨fun ha => ?_, fun ha => ?_⟩⟩, fun l s => ⟨fun h => ?_, fun h => ⟨fun hr => ?_,
    fun r hr => ?_⟩⟩⟩
  · exact congrArg _ (if_pos h)
  · refine congrArg _ ((if_neg (by rw [h]; decide)).trans ?_)
    exact if_neg (by rw [ha]; decide)
  · refine congrArg _ ((if_neg (by rw [h]; decide)).trans ((if_pos ha).trans ?_))
    rw [State.sendHold_active (by rw [State.modLink_at, if_pos rfl]), State.modLink_modLink]
    rfl
  · exact if_neg (by rw [h]; decide)
  · show execLinkDown l s = _
    rw [execLinkDown, if_pos h, hr]
    rfl
  · have hexec : exec (.linkDown l) s = .next (if r.withdrawn then s.modLink l Link.lost
        else (s.modLink l Link.lost).endReception r.key) := by
      rw [← State.endWithCarrier_eq]
      show execLinkDown l s = _
      rw [execLinkDown, if_pos h, hr]
    refine ⟨fun hw => ?_, fun hw x hx => ⟨fun hst => ?_, fun hst => ?_⟩⟩
    · rw [hexec, hw]
      rfl
    · rw [hexec, hw, if_neg Bool.false_ne_true, State.endReception_receiving (s := s.modLink l Link.lost) hx hst]
      rfl
    · rw [hexec, hw, if_neg Bool.false_ne_true, State.endReception_retake (s := s.modLink l Link.lost) hx hst]
      rfl

/-! ### Endings that send a REFUSE -/

/-- The link whose reception has ended with a REFUSE (R121). -/
def Link.refused (k : Link) (tag : BitVec 16) (cause : Cause) : Link :=
  { k.counted .refused with reception := none, outbox := k.outbox ++ [.refuse tag cause] }

theorem State.refuse_idleContext {s : State} {l : Fin 8} (h : s.links[l].active = true) (tag : BitVec 16) {cause : Cause}
    (hc : ¬ (cause = .directoryFull ∨ cause = .noRoom)) :
    (s.refuse l tag cause).idleContext l = s.modLink l (·.refused tag cause) := by
  unfold State.refuse
  dsimp only
  rw [if_neg hc, State.sendFrame_active h, State.countLink_eq, State.idleContext, State.modLink_modLink, State.modLink_modLink]
  rfl

theorem State.endWithRefuse_eq {s : State} {l : Fin 8} (h : s.links[l].active = true) (r : Reception) {cause : Cause}
    (hc : ¬ (cause = .directoryFull ∨ cause = .noRoom)) : s.endWithRefuse l r cause =
      if r.withdrawn then s.modLink l (·.refused r.tag .withdrawn)
      else (s.modLink l (·.refused r.tag cause)).endReception r.key := by
  unfold State.endWithRefuse
  rw [State.endReception_idleContext, State.refuse_idleContext h r.tag hc,
    State.refuse_idleContext h r.tag (cause := .withdrawn) nofun]

/-- Settles O37. -/
theorem receptionEndings : Obligations.ReceptionEndings := by
  refine fun l s => ⟨fun hr => ?_, fun r hr h => ⟨?_, fun cause hcause => ?_⟩⟩
  · show execReceptionTimerExpiry l s = _
    rw [execReceptionTimerExpiry, State.endRunning, hr]
    split <;> rfl
  · show execReceptionTimerExpiry l s = _
    rw [execReceptionTimerExpiry, if_pos h, State.endRunning, hr]
  · have hc : ¬ (cause = .directoryFull ∨ cause = .noRoom) := by
      rintro (rfl | rfl) <;> simp at hcause
    have hend := State.endWithRefuse_eq h r hc
    refine ⟨fun hw => ?_, fun hw _ x hx => ⟨fun hst => ?_, fun hst => ?_⟩⟩
    · rw [hend, hw]
      rfl
    · rw [hend, hw, if_neg Bool.false_ne_true,
        State.endReception_receiving (s := s.modLink l (·.refused r.tag cause)) hx hst]
      rfl
    · rw [hend, hw, if_neg Bool.false_ne_true,
        State.endReception_retake (s := s.modLink l (·.refused r.tag cause)) hx hst]
      rfl

/-! ### Acceptance -/

/-- The link whose reception has been accepted (R120). -/
def Link.acceptedAt (k : Link) (r : Reception) : Link :=
  { k.counted .accepted with reception := none, outbox := k.outbox ++ [.accept r.tag r.key] }

theorem State.acceptReception_eq {s : State} {l : Fin 8} (h : s.links[l].active = true) (r : Reception) :
    s.acceptReception l r = (s.modLink l (·.acceptedAt r)).acceptBody r.key := by
  unfold State.acceptReception
  rw [State.sendFrame_active h, State.countLink_eq, State.idleContext, State.modLink_modLink, State.modLink_modLink]
  rfl

theorem State.takeEnd_some {s : State} {l : Fin 8} {r : Reception} (hr : s.links[l].reception = some r)
    (check : BitVec 32) : s.takeEnd l check = if r.withdrawn then s.endWithRefuse l r .withdrawn
      else if r.soFar < r.expected then s.endWithRefuse l r .shortBody
      else if check ≠ checkValue r.check then s.endWithRefuse l r .bodyCheck
      else s.acceptReception l r := by
  rw [State.takeEnd, hr]

/-- The record whose body was accepted, where others wait: it joins its list, and the list is served (R14). -/
theorem State.acceptBody_behind {s : State} {k : Key} {x : Record} (hx : s.findRecord k = some x)
    (hw : s.waiting[x.series] ≠ []) : s.acceptBody k =
      ((s.updateRecord k fun r => { r with state := r.state.accepted }).joinWaiting x.series k).serveList x.series := by
  rw [State.acceptBody, hx]
  exact if_neg hw

/-- The record whose body was accepted, where none waits: it is offered at once (R14). -/
theorem State.acceptBody_alone {s : State} {k : Key} {x : Record} (hx : s.findRecord k = some x)
    (hw : s.waiting[x.series] = []) : s.acceptBody k =
      match (s.updateRecord k fun r => { r with state := r.state.accepted }).offer { x with state := x.state.accepted } with
      | (t, true) => t
      | (t, false) => t.joinWaiting x.series k := by
  rw [State.acceptBody, hx]
  exact if_pos hw

/-- Every record with the key has the state that the acceptance gives. -/
theorem State.updateRecord_accepted {s : State} {k : Key} {x : Record} (hd : s.directoryOrdered)
    (hx : s.findRecord k = some x) : (s.updateRecord k fun r => { r with state := r.state.accepted }) = { s with
      records := s.records.map fun y => if y.key = k then { y with state := x.state.accepted } else y } := by
  unfold State.updateRecord
  congr 1
  refine List.map_congr_left fun y hy => ?_
  split
  · next hk => rw [State.record_unique hd hx hy hk]
  · rfl

/-- The states of a record whose body was accepted, and of the same record once it is granted a cell. -/
theorem RecordState.accepted_granted {st : RecordState} (h : st = .receiving ∨ st = .retakeReceiving) :
    st.accepted = (if st = .receiving then .waiting else .retakeWaiting) ∧
      ∀ (r : Record) (v : Reserved), r.state = st.accepted → r.granted v =
        { r with reserved := some v, state := if st = .receiving then .reserved else .retakeReserved } := by
  rcases h with rfl | rfl
  · exact ⟨rfl, fun r v hr => by rw [Record.granted, hr]; rfl⟩
  · exact ⟨rfl, fun r v hr => by rw [Record.granted, hr]; rfl⟩

/-- A grant to the record whose state the acceptance has just set. -/
theorem updateRecord_granted_accepted {s u : State} {k : Key} {st : RecordState} (h : st = .receiving ∨ st = .retakeReceiving)
    (hu : u.records = s.records.map fun y => if y.key = k then { y with state := st.accepted } else y) (v : Reserved) :
    u.updateRecord k (·.granted v) = { u with records := u.records.map fun y => if y.key = k then
      { y with state := if st = .receiving then .reserved else .retakeReserved, reserved := some v } else y } := by
  unfold State.updateRecord
  congr 1
  refine List.map_congr_left fun y hy => ?_
  split
  · next hk =>
    rw [hu] at hy
    obtain ⟨z, -, rfl⟩ := List.mem_map.mp hy
    by_cases hz : z.key = k
    · rw [if_pos hz]
      exact (RecordState.accepted_granted h).2 _ v rfl
    · rw [if_neg hz] at hk
      exact absurd hk hz
  · rfl

theorem State.offer_refused {s u : State} {r : Record} {o : Bool} (hp : s.normalPlacement r.request = ⟨u, none, o⟩) :
    s.offer r = (u, false) := by
  rw [State.offer, hp]
  rfl

theorem State.offer_granted {s u : State} {r : Record} {v : Reserved} {o : Bool}
    (hp : s.normalPlacement r.request = ⟨u, some v, o⟩) : s.offer r =
      (if o = true ∨ r.state = .waiting then (u.updateRecord r.key (·.granted v)).judgeCutOff r.series
        else u.updateRecord r.key (·.granted v), true) := by
  rw [State.offer, hp]
  dsimp only [State.settle]
  split <;> rfl

theorem State.acceptBody_refused {s u : State} {k : Key} {x : Record} {o : Bool} (hd : s.directoryOrdered)
    (hx : s.findRecord k = some x) (hst : x.state = .receiving ∨ x.state = .retakeReceiving) (hw : s.waiting[x.series] = [])
    (hp : ({ s with records := s.records.map fun y => if y.key = k then { y with
        state := if x.state = .receiving then .waiting else .retakeWaiting } else y } : State).normalPlacement
      ({ x with state := if x.state = .receiving then .waiting else .retakeWaiting } : Record).request = ⟨u, none, o⟩) :
    s.acceptBody k = { u with waiting := s.waiting.set x.series [k] } := by
  obtain ⟨_, _, _, _, _, _, _, _, hwaiting, -⟩ := State.normalPlacement_frame (s := { s with
    records := s.records.map fun y => if y.key = k then { y with
      state := if x.state = .receiving then .waiting else .retakeWaiting } else y })
    ({ x with state := if x.state = .receiving then .waiting else .retakeWaiting } : Record).request
  rw [hp] at hwaiting
  rw [State.acceptBody_alone hx hw, State.updateRecord_accepted hd hx, (RecordState.accepted_granted hst).1,
    State.offer_refused hp]
  show u.joinWaiting x.series k = _
  rw [State.joinWaiting, State.modWaiting, hwaiting, hw]
  rfl

theorem State.acceptBody_granted {s u : State} {k : Key} {x : Record} {v : Reserved} {o : Bool} (hd : s.directoryOrdered)
    (hx : s.findRecord k = some x) (hst : x.state = .receiving ∨ x.state = .retakeReceiving) (hw : s.waiting[x.series] = [])
    (hp : ({ s with records := s.records.map fun y => if y.key = k then { y with
        state := if x.state = .receiving then .waiting else .retakeWaiting } else y } : State).normalPlacement
      ({ x with state := if x.state = .receiving then .waiting else .retakeWaiting } : Record).request = ⟨u, some v, o⟩) :
    s.acceptBody k =
      let placed : State := { u with records := u.records.map fun y => if y.key = k then { y with
        state := if x.state = .receiving then .reserved else .retakeReserved, reserved := some v } else y }
      if x.state = .receiving ∨ o = true then placed.judgeCutOff x.series else placed := by
  obtain ⟨haccepted, -⟩ := RecordState.accepted_granted hst
  obtain ⟨-, hkey⟩ := State.findRecord_some hx
  obtain ⟨_, _, _, _, _, _, _, hrecords, -⟩ := State.normalPlacement_frame (s := { s with
    records := s.records.map fun y => if y.key = k then { y with
      state := if x.state = .receiving then .waiting else .retakeWaiting } else y })
    ({ x with state := if x.state = .receiving then .waiting else .retakeWaiting } : Record).request
  rw [hp, ← haccepted] at hrecords
  rw [State.acceptBody_alone hx hw, State.updateRecord_accepted hd hx, haccepted, State.offer_granted hp]
  dsimp only
  rw [hkey, updateRecord_granted_accepted hst hrecords]
  have hjudge : (o = true ∨ (if x.state = .receiving then RecordState.waiting else .retakeWaiting) = .waiting) ↔
      (x.state = .receiving ∨ o = true) := by
    rcases hst with hst | hst <;> rw [hst] <;> simp
  simp only [hjudge]

/-- Settles O36. -/
theorem submitEndOutcomes : Obligations.SubmitEndOutcomes := by
  intro l f s h hgood hn
  have htake : exec (.submitEnd l f) s = .next (s.takeEnd l (BitVec.ofNat 32 (numberOf f.payload))) :=
    congrArg _ (State.takeFixed_taken h hgood hn _)
  refine ⟨fun hr => ?_, fun r hr => ?_⟩
  · rw [htake, State.takeEnd, hr]
    rfl
  rw [State.takeEnd_some hr] at htake
  refine ⟨fun hw => ?_, fun hw hshort => ?_, fun hw hfull hcheck => ?_, fun hw hfull hcheck => ?_⟩
  · rw [htake, hw]
    rfl
  · rw [htake, hw, if_neg Bool.false_ne_true, if_pos hshort]
  · rw [htake, hw, if_neg Bool.false_ne_true, if_neg (by omega)]
    exact congrArg _ (if_pos hcheck)
  rw [hw, if_neg Bool.false_ne_true, if_neg (by omega), if_neg (show ¬ _ ≠ checkValue r.check from not_not_intro hcheck),
    State.acceptReception_eq h] at htake
  refine ⟨⟨_, htake, ?_⟩, fun x hd hx hst => ?_⟩
  · simp
    rfl
  obtain ⟨haccepted, -⟩ := RecordState.accepted_granted hst
  have hupdate := State.updateRecord_accepted (s := s.modLink l (·.acceptedAt r)) hd hx
  refine ⟨fun hwait => ?_, fun hwait => ⟨fun u o hp => ?_, fun u v o hp => ?_⟩⟩
  · rw [htake, State.acceptBody_behind (s := s.modLink l (·.acceptedAt r)) hx hwait, hupdate, haccepted]
    rfl
  · rw [htake, State.acceptBody_refused (s := s.modLink l (·.acceptedAt r)) hd hx hst hwait hp]
    rfl
  · have hgrant := State.acceptBody_granted (s := s.modLink l (·.acceptedAt r)) hd hx hst hwait hp
    refine ⟨fun hjudge => ?_, fun hretake ho => ?_⟩
    · rw [htake, hgrant, if_pos hjudge]
    · rw [htake, hgrant, if_neg (by rw [hretake, ho]; decide)]

end Sys2Proof.Machine
end

section
/-! The claim of a submission head, and the head's checks (R10 to R12, R113 to R118). -/

namespace Sys2Proof.Machine

/-! ### The claim -/

theorem State.claimFailure_newKey {s : State} {c : Claim} (hr : c.retake = false) (hf : s.findRecord c.key = none) :
    s.claimFailure c = if 16384 ≤ s.records.length then some .directoryFull else none := by
  rw [State.claimFailure, hr, hf]
  rfl

theorem State.claimFailure_duplicate {s : State} {c : Claim} (hr : c.retake = false) (hf : s.findRecord c.key ≠ none) :
    s.claimFailure c = some .duplicateKey := by
  obtain ⟨r, hf⟩ := Option.ne_none_iff_exists'.mp hf
  rw [State.claimFailure, hr, hf]

theorem State.claimFailure_missing {s : State} {c : Claim} (hr : c.retake = true) (hf : s.findRecord c.key = none) :
    s.claimFailure c = some .noSuchDocument := by
  rw [State.claimFailure, hr, hf]

theorem State.claimFailure_mismatch {s : State} {c : Claim} {r : Record} (hr : c.retake = true)
    (hf : s.findRecord c.key = some r) (hs : r.series ≠ c.series) : s.claimFailure c = some .seriesMismatch := by
  rw [State.claimFailure, hr, hf]
  exact if_pos hs

/-- What a retake claim of a record of its series is refused for, by the record's state (R12). -/
theorem State.claimFailure_found {s : State} {c : Claim} {r : Record} (hr : c.retake = true)
    (hf : s.findRecord c.key = some r) (hs : r.series = c.series) :
    (r.state ∈ [RecordState.receiving, .waiting, .reserved, .exposing] → s.claimFailure c = some .notExposed) ∧
      (r.state.retake = true → s.claimFailure c = some .retakePending) ∧
      (r.state = .exposed → s.claimFailure c = if 3 ≤ r.superseded.length then some .retakeLimit else none) := by
  rw [State.claimFailure, hr, hf]
  simp only [if_neg (not_not_intro hs)]
  cases r.state <;> simp [RecordState.retake]

theorem State.takeClaim_error {s : State} {c : Claim} {cause : Cause} (h : s.claimFailure c = some cause) :
    s.takeClaim c = .error cause := by
  rw [State.takeClaim, h]

theorem State.takeClaim_noRoom {s : State} {c : Claim} (h : s.claimFailure c = none)
    (hfull : 4096 - s.used.length < blockNeed c.width c.height) : s.takeClaim c = .error .noRoom := by
  rw [State.takeClaim, h, State.allocate_eq_none hfull]

/-- The state after blocks are given to a record of the directory `rs`. -/
def State.gaveBlocks (s : State) (need : Nat) (rs : List Record) : State :=
  State.judgeHold { s with
    used := (lowestFree s.used need).foldl (fun u b => insertBlock b u) s.used
    records := rs }

@[simp] theorem State.gaveBlocks_records (s : State) (need : Nat) (rs : List Record) : (s.gaveBlocks need rs).records = rs := by
  simp [State.gaveBlocks]

/-- The blocks given, and the one change of the pool. -/
theorem State.gaveBlocks_gives (s : State) {need : Nat} (h : need ≤ 4096 - s.used.length) (rs : List Record) :
    (lowestFree s.used need).length = need ∧ (lowestFree s.used need).Pairwise (· < ·) ∧
      (∀ b ∈ lowestFree s.used need, b < 4096 ∧ b ∉ s.used) ∧
      (∀ b < 4096, b ∉ s.used → b ∉ lowestFree s.used need → ∀ x ∈ lowestFree s.used need, x < b) ∧
      (∀ b, b ∈ (s.gaveBlocks need rs).used ↔ b ∈ s.used ∨ b ∈ lowestFree s.used need) ∧
      (s.poolOrdered → (s.gaveBlocks need rs).poolOrdered) ∧
      s.gaveBlocks need rs = State.judgeHold { s with
        records := (s.gaveBlocks need rs).records, used := (s.gaveBlocks need rs).used } := by
  obtain ⟨hlen, hasc, hfree, hlow⟩ := lowestFree_given h
  refine ⟨hlen, hasc, hfree, hlow, ?_, fun hpool => ?_, ?_⟩
  · simpa [State.gaveBlocks] using fun b => mem_foldl_insertBlock.trans or_comm
  · simpa [State.gaveBlocks, State.poolOrdered] using
      insertBlocks_ordered (n := Config.blockCount) (fun b hb => (hfree b hb).1) hpool
  · simp [State.gaveBlocks]

theorem State.takeClaim_new {s : State} {c : Claim} (h : s.claimFailure c = none) (hr : c.retake = false)
    (hroom : blockNeed c.width c.height ≤ 4096 - s.used.length) :
    s.takeClaim c = .ok (s.gaveBlocks (blockNeed c.width c.height)
      (insertRecord (c.record (lowestFree s.used (blockNeed c.width c.height))) s.records)) := by
  rw [State.takeClaim, h, s.allocate_eq hroom]
  dsimp only
  rw [hr, if_neg Bool.false_ne_true]
  refine congrArg Except.ok ?_
  rw [State.judgeCutOff_eq_self (c := c.series) (.inr (.inl ⟨c.record (lowestFree s.used (blockNeed c.width c.height)),
    mem_insertRecord.mpr (.inl rfl), rfl, .inl rfl⟩))]
  unfold State.addRecord State.gaveBlocks
  rw [State.judgeHold_records]
  simp

theorem State.takeClaim_retake {s : State} {c : Claim} (h : s.claimFailure c = none) (hr : c.retake = true)
    (hroom : blockNeed c.width c.height ≤ 4096 - s.used.length) :
    s.takeClaim c = .ok (s.gaveBlocks (blockNeed c.width c.height) (s.records.map fun x => if x.key = c.key then
      x.retaken c (lowestFree s.used (blockNeed c.width c.height)) else x)) := by
  rw [State.takeClaim, h, s.allocate_eq hroom]
  dsimp only
  rw [hr, if_pos rfl]
  refine congrArg Except.ok ?_
  unfold State.updateRecord State.gaveBlocks
  rw [State.judgeHold_records]
  simp

/-- Settles O34. -/
theorem claimOutcomes : Obligations.ClaimOutcomes := by
  refine fun c s => ⟨fun hr => ⟨fun hf => ?_, fun hf hfull => ?_, fun hf hroom hfull => ?_, fun hf hroom hblocks hd => ?_⟩,
    fun hr => ⟨fun hf => ?_, fun r hf => ⟨fun hs => ?_, fun hs => ⟨fun hst => ?_, fun hst => ?_, fun hst => ⟨fun hlimit => ?_,
      fun hlimit hfull => ?_, fun hlimit hblocks => ?_⟩⟩⟩⟩⟩
  · exact State.takeClaim_error (State.claimFailure_duplicate hr hf)
  · exact State.takeClaim_error ((State.claimFailure_newKey hr hf).trans (if_pos hfull))
  · exact State.takeClaim_noRoom ((State.claimFailure_newKey hr hf).trans (if_neg (by omega))) hfull
  · have hneed := Nat.le_of_not_lt hblocks
    have hnone := (State.claimFailure_newKey hr hf).trans (if_neg (by omega))
    refine ⟨_, _, State.takeClaim_new hnone hr hneed, s.gaveBlocks_gives hneed _, ?_, fun x => ?_⟩
    · refine ⟨?_, ?_⟩
      · rw [State.gaveBlocks_records]
        exact insertRecord_ordered hd.1 (State.findRecord_none hf)
      · rw [State.gaveBlocks_records, length_insertRecord]
        exact hroom
    · rw [State.gaveBlocks_records]
      exact mem_insertRecord.trans or_comm
  · exact State.takeClaim_error (State.claimFailure_missing hr hf)
  · exact State.takeClaim_error (State.claimFailure_mismatch hr hf hs)
  all_goals obtain ⟨hnotExposed, hpending, hexposed⟩ := State.claimFailure_found hr hf hs
  · exact State.takeClaim_error (hnotExposed hst)
  · exact State.takeClaim_error (hpending hst)
  · exact State.takeClaim_error ((hexposed hst).trans (if_pos hlimit))
  · exact State.takeClaim_noRoom ((hexposed hst).trans (if_neg (by omega))) hfull
  · have hneed := Nat.le_of_not_lt hblocks
    refine ⟨_, _, State.takeClaim_retake ((hexposed hst).trans (if_neg (by omega))) hr hneed, s.gaveBlocks_gives hneed _, ?_⟩
    rw [State.gaveBlocks_records]
    rfl

end Sys2Proof.Machine
end

section
/-! The checks of a submission head (R107, R113 to R118). -/

namespace Sys2Proof.Machine

/-! ### The fields of the payload -/

theorem foldl_take_drop_succ {p : List Byte} {i : Nat} (h : i < p.length) (n acc : Nat) :
    ((p.drop i).take (n + 1)).foldl (fun n b => n * 256 + b.toNat) acc =
      ((p.drop (i + 1)).take n).foldl (fun n b => n * 256 + b.toNat) (acc * 256 + p[i].toNat) := by
  rw [List.drop_eq_getElem_cons h, List.take_succ_cons, List.foldl_cons]

theorem field_one {p : List Byte} {i : Nat} (h : i < p.length) : field p i 1 = p[i].toNat := by
  rw [field, numberOf, foldl_take_drop_succ h]
  simp

theorem field_two {p : List Byte} {i : Nat} (h : i + 1 < p.length) : field p i 2 = p[i].toNat * 256 + p[i + 1].toNat := by
  rw [field, numberOf, foldl_take_drop_succ (by omega), foldl_take_drop_succ h]
  simp

theorem field_five {p : List Byte} {i : Nat} (h : i + 4 < p.length) : field p i 5 = p[i].toNat * 256 ^ 4 +
    p[i + 1].toNat * 256 ^ 3 + p[i + 2].toNat * 256 ^ 2 + p[i + 3].toNat * 256 + p[i + 4].toNat := by
  rw [field, numberOf, foldl_take_drop_succ (by omega), foldl_take_drop_succ (by omega), foldl_take_drop_succ (by omega),
    foldl_take_drop_succ (by omega), foldl_take_drop_succ h]
  show ((((0 * 256 + p[i].toNat) * 256 + p[i + 1].toNat) * 256 + p[i + 2].toNat) * 256 + p[i + 3].toNat) * 256 +
    p[i + 4].toNat = _
  omega

theorem ofNat_pair_bytes (a b : Byte) : BitVec.ofNat 16 (a.toNat * 256 + b.toNat) = a ++ b := by
  apply BitVec.eq_of_toNat_eq
  rw [BitVec.toNat_append, ← Nat.shiftLeft_add_eq_or_of_lt b.isLt, Nat.shiftLeft_eq, BitVec.toNat_ofNat]
  omega

theorem headFields_eq (b : Vector Byte 19) : headFields b.toList =
    { tag := b[0] ++ b[1], operator := b[2]
      key := { date := b[3].toNat * 256 + b[4].toNat
               account := b[5].toNat * 256 ^ 4 + b[6].toNat * 256 ^ 3 + b[7].toNat * 256 ^ 2 + b[8].toNat * 256 + b[9].toNat
               item := b[10].toNat * 256 + b[11].toNat }
      series := b[12].toNat, width := b[13].toNat * 256 + b[14].toNat, height := b[15].toNat * 256 + b[16].toNat
      cls := b[17].toNat, retake := b[18].getLsbD 0 } := by
  have hlen : b.toList.length = 19 := Vector.length_toList
  unfold headFields
  rw [field_two (by omega), field_one (by omega), field_two (by omega), field_five (by omega), field_two (by omega),
    field_one (by omega), field_two (by omega), field_two (by omega), field_one (by omega), field_one (by omega)]
  simp only [Vector.getElem_toList, ofNat_pair_bytes, BitVec.ofNat_toNat, BitVec.setWidth_eq, ← Nat.testBit_zero]
  rfl

/-! ### Checks 1 to 6 -/

/-- Entry `i` is enabled for the link and the operator code (R113). -/
abbrev State.entryHits (s : State) (l : Fin 8) (o : BitVec 8) (i : Fin 16) : Prop :=
  s.admission[i].enabled = true ∧ s.admission[i].link = l ∧ s.admission[i].operator = o

theorem State.matchEntry_some {s : State} {l : Fin 8} {o : BitVec 8} {i : Fin 16} (h : s.matchEntry l o = some i) :
    s.entryHits l o i := by
  have hfound := List.find?_some h
  simpa only [Bool.and_eq_true, decide_eq_true_eq, and_assoc] using hfound

theorem State.matchEntry_eq_none {s : State} {l : Fin 8} {o : BitVec 8} (h : ∀ i, ¬ s.entryHits l o i) :
    s.matchEntry l o = none := by
  cases hm : s.matchEntry l o with
  | none => rfl
  | some i => exact absurd (State.matchEntry_some hm) (h i)

theorem State.matchEntry_eq_some {s : State} {l : Fin 8} {o : BitVec 8} {i : Fin 16} (hi : s.entryHits l o i)
    (honly : ∀ j, s.entryHits l o j → j = i) : s.matchEntry l o = some i := by
  cases hm : s.matchEntry l o with
  | none =>
    have := List.find?_eq_none.mp hm i (List.mem_finRange i)
    simp only [Bool.and_eq_true, decide_eq_true_eq, and_assoc] at this
    exact absurd hi this
  | some j => rw [honly j (State.matchEntry_some hm)]

theorem HeadFields.malformed_iff (d : HeadFields) : d.malformed = true ↔ d.width < 64 ∨ 8192 < d.width ∨ d.height < 64 ∨
    8192 < d.height ∨ 3 < d.cls ∨ d.key.account = 0 ∨ 999999999999 < d.key.account := by
  have hrange : (!d.key.accountInRange) = true ↔ d.key.account = 0 ∨ 999999999999 < d.key.account := by
    rw [Bool.not_eq_true', ← Bool.not_eq_true, Key.accountInRange_iff]
    omega
  simp only [HeadFields.malformed, Bool.or_eq_true, decide_eq_true_eq, or_assoc, hrange]

/-- The checks of a head whose entry is found and whose series number is one of the table (R116). -/
theorem State.checkHead_eq {s : State} {l : Fin 8} {d : HeadFields} {i : Fin 16} {c : Fin 32}
    (hm : s.matchEntry l d.operator = some i) (hc : d.series = c.val) : s.checkHead l d =
      if s.series[c].state = .undefined then .error .noSeries
      else if s.admission[i].mask.getLsbD c.val = false then .error .notPermitted
      else if s.series[c].state = .cutOff then .error .seriesClosed
      else if d.malformed then .error .malformed
      else
        match (s.formatAt s.series[c].format).fit d.width d.height with
        | .oversize _ _ => .error .oversize
        | .fits fit =>
          .ok { key := d.key, series := c, retake := d.retake, source := headSource i s.admission[i] d,
                width := d.width, height := d.height, fit := fit } := by
  have hlt : d.series < 32 := hc ▸ c.isLt
  obtain rfl : (⟨d.series, hlt⟩ : Fin 32) = c := Fin.ext hc
  rw [State.checkHead, hm]
  exact dif_pos hlt

/-! ### A head on an ACTIVE link -/

/-- The link after a SUBMIT-HEAD is counted (R126). -/
def Link.heard (k : Link) (hold : Bool) : Link :=
  if hold then (k.counted .headsReceived).counted .headsDuringHold else k.counted .headsReceived

theorem State.countHeadFrame_eq (s : State) (l : Fin 8) :
    s.countHeadFrame l = s.modLink l (·.heard s.holdAsserted) := by
  unfold State.countHeadFrame Link.heard
  split
  · rw [State.countLink_eq, State.countLink_eq, State.modLink_modLink]
  · rfl

theorem State.countHeadFrame_reception (s : State) (l : Fin 8) :
    (s.countHeadFrame l).links[l].reception = s.links[l].reception := by
  rw [State.countHeadFrame_eq, State.modLink_at, if_pos rfl]
  unfold Link.heard
  split <;> rfl

theorem State.endWithRefuse_reception (s : State) (l : Fin 8) (r : Reception) (cause : Cause) :
    (s.endWithRefuse l r cause).links[l].reception = none := by
  unfold State.endWithRefuse
  split <;> exact congrArg Link.reception ((State.modLink_at _ l _ l).trans (if_pos rfl))

theorem State.admitHead_refused {u : State} {l : Fin 8} {d : HeadFields} {cause : Cause}
    (h : u.checkHead l d = .error cause ∨ ∃ c, u.checkHead l d = .ok c ∧ u.takeClaim c = .error cause) :
    u.admitHead l d = u.refuse l d.tag cause := by
  rcases h with h | ⟨c, h, hclaim⟩
  · rw [State.admitHead, h]
  · rw [State.admitHead, h]
    dsimp only
    rw [hclaim]

theorem State.admitHead_admitted {u t : State} {l : Fin 8} {d : HeadFields} {c : Claim} (h : u.checkHead l d = .ok c)
    (hclaim : u.takeClaim c = .ok t) :
    u.admitHead l d = t.modLink l fun k => { k with reception := some d.reception } := by
  rw [State.admitHead, h]
  dsimp only
  rw [hclaim]

/-- The link after a REFUSE is produced for it and counted (R117, R126). -/
def Link.answeredRefuse (k : Link) (tag : BitVec 16) (cause : Cause) : Link :=
  let sent := ({ k with outbox := k.outbox ++ [.refuse tag cause] } : Link).counted .refused
  if cause = .directoryFull ∨ cause = .noRoom then sent.counted .refusedForSpace else sent

theorem State.refuse_eq {s : State} {l : Fin 8} (h : s.links[l].active = true) (tag : BitVec 16) (cause : Cause) :
    s.refuse l tag cause = s.modLink l (·.answeredRefuse tag cause) := by
  unfold State.refuse Link.answeredRefuse
  dsimp only
  rw [State.sendFrame_active h]
  split
  · rw [State.countLink_eq, State.countLink_eq, State.modLink_modLink, State.modLink_modLink]
  · rw [State.countLink_eq, State.modLink_modLink]

theorem Link.counted_counters (k : Link) (c : LinkCounter) (n : Fin 11) : (k.counted c).counters[n] =
    if n = linkCounterIndex c then countUp k.counters[n] else k.counters[n] := by
  by_cases h : n = linkCounterIndex c
  · subst h
    simp [Link.counted]
  · rw [if_neg h]
    exact Vector.getElem_set_ne (linkCounterIndex c).isLt n.isLt fun hv => h (Fin.ext hv.symm)

theorem Link.answeredRefuse_counters (k : Link) (tag : BitVec 16) (cause : Cause) (n : Fin 11) :
    (k.answeredRefuse tag cause).counters[n] =
      if n = linkCounterIndex .refused ∨
          (n = linkCounterIndex .refusedForSpace ∧ (cause = .directoryFull ∨ cause = .noRoom)) then
        countUp k.counters[n]
      else k.counters[n] := by
  have hne : linkCounterIndex .refused ≠ linkCounterIndex .refusedForSpace := by decide
  unfold Link.answeredRefuse
  dsimp only
  by_cases hspace : cause = .directoryFull ∨ cause = .noRoom
  · rw [if_pos hspace, Link.counted_counters, Link.counted_counters]
    by_cases hn : n = linkCounterIndex .refused
    · subst hn
      simp [hne]
    · simp [hn, hspace]
  · rw [if_neg hspace, Link.counted_counters]
    simp [hspace]

/-- Settles O33. -/
theorem submitHeadFrames : Obligations.SubmitHeadFrames := by
  refine ⟨headFields_eq, fun l d s => ⟨fun hno => ?_, fun i hi honly => ⟨fun hc => ?_, fun c hc => ?_⟩⟩,
    fun l f s h hgood hn => ?_, fun l d u h => ⟨fun cause hcause => ?_, fun c t hcheck hclaim => ?_⟩⟩
  · rw [State.checkHead, State.matchEntry_eq_none hno]
  · rw [State.checkHead, State.matchEntry_eq_some hi honly]
    exact dif_neg (by omega)
  · have heq := State.checkHead_eq (State.matchEntry_eq_some hi honly) hc
    refine ⟨fun hst => ?_, fun hst hmask => ?_, fun hmask => ⟨fun hst => ?_, fun hst => ⟨fun hbad => ?_, fun hgood =>
      ⟨fun x y hfit => ?_, fun x hfit => ?_⟩⟩⟩⟩
    · rw [heq, if_pos hst]
    · rw [heq, if_neg hst, if_pos hmask]
    all_goals rw [hst, if_neg (by decide), if_neg (by rw [hmask]; decide)] at heq
    · rw [heq]
      rfl
    · rw [heq, if_neg (by decide), if_pos (d.malformed_iff.mpr hbad)]
    · rw [heq, if_neg (by decide), if_neg fun hm => hgood (d.malformed_iff.mp hm), hfit]
    · rw [heq, if_neg (by decide), if_neg fun hm => hgood (d.malformed_iff.mp hm), hfit]
      rfl
  · have htake : exec (.submitHead l f) s = .next (s.takeHead l (headFields f.payload)) :=
      congrArg _ (State.takeFixed_taken h hgood hn _)
    have hcounted := s.countHeadFrame_eq l
    have hreception := s.countHeadFrame_reception l
    refine ⟨fun hr => ?_, fun r hr => ⟨?_, State.endWithRefuse_reception _ l r _⟩⟩
    · rw [htake, State.takeHead, State.endRunning, hreception, hr, hcounted]
      rfl
    · rw [htake, State.takeHead, State.endRunning, hreception, hr, hcounted]
      rfl
  · refine ⟨u.links[l].answeredRefuse d.tag cause, ?_, ?_, ?_, u.links[l].answeredRefuse_counters d.tag cause⟩
    · rw [State.admitHead_refused hcause, State.refuse_eq h]
      rfl
    all_goals
      unfold Link.answeredRefuse
      dsimp only
      split <;> rfl
  · exact State.admitHead_admitted hcheck hclaim

end Sys2Proof.Machine
end

section
/-! The requests on heads, trackers and dose monitors (R142 to R146, R158, R168, R179, R182). -/

namespace Sys2Proof.Machine

/-! ### Load Roll and Unload Roll -/

/-- The tracker's move to ACQUIRE as one next state (R170, R188). -/
theorem State.trackerAcquire_state (s : State) (h : Fin 4) : s.trackerAcquire h = { s with
    heads := s.heads.set h s.heads[h].unlocked
    port := { s.port with changes := if s.heads[h].tracker.locked then
      s.port.changes ||| 1#21 <<< (4 * h.val + 2) else s.port.changes } } := by
  rw [State.trackerAcquire_eq]
  split <;> rfl

/-- The same after another change of the head that leaves its tracker. -/
theorem State.modHead_trackerAcquire (s : State) (h : Fin 4) {f : Head → Head}
    (hf : (f s.heads[h]).tracker = s.heads[h].tracker) : (s.modHead h f).trackerAcquire h = { s with
    heads := s.heads.set h (f s.heads[h]).unlocked
    port := { s.port with changes := if s.heads[h].tracker.locked then
      s.port.changes ||| 1#21 <<< (4 * h.val + 2) else s.port.changes } } := by
  rw [State.trackerAcquire_state, State.modHead_at, if_pos rfl, hf]
  simp [State.modHead]

theorem passes_trackerAcquire (h : Fin 4) : PassesCycle (·.trackerAcquire h) := by
  intro s d e b c
  show (s.withCycle d e b c).trackerAcquire h = (s.trackerAcquire h).withCycle d e b c
  rw [State.trackerAcquire_state, State.trackerAcquire_state]
  rfl

theorem passes_modHead (h : Fin 4) (f : Head → Head) : PassesCycle (·.modHead h f) := fun _ _ _ _ _ => rfl

theorem passes_retry (e : RetryEvent) : PassesCycle (·.retry e) := fun _ _ _ _ _ => rfl

/-- What a Load Roll with its arguments in range makes of a NO-ROLL head. -/
def State.rollPut (s : State) (h : Fin 4) (n c : Nat) (coded : Bool) : State :=
  ((s.modHead h fun k => k.rollLoaded n c coded).trackerAcquire h).retry (.rollLoaded h)

theorem loadRollOwner_of_bad {a n c m : Word} (h : 3 < a.toNat ∨ n = 0 ∨ 250 < n.toNat ∨ 65535 < c.toNat ∨ 1 < m.toNat)
    (s : State) : loadRollOwner a n c m s = (s, refusal .badArgument) := by
  have hzero : n = 0 ↔ n.toNat = 0 := BitVec.toNat_eq
  unfold loadRollOwner
  split
  · rfl
  · next i hi =>
    have hlt : a.toNat < 4 := by
      unfold indexOf at hi
      split at hi
      · assumption
      · cases hi
    exact if_pos (by rw [hzero] at h; omega)

theorem loadRollOwner_of_inRange {a n c m : Word} {h : Fin 4} (ha : a.toNat = h.val)
    (hgood : ¬ (n.toNat = 0 ∨ 250 < n.toNat ∨ 65535 < c.toNat ∨ 1 < m.toNat)) (s : State) : loadRollOwner a n c m s =
      if s.heads[h].state ≠ .noRoll then (s, refusal .headState)
      else (s.rollPut h n.toNat c.toNat (decide (m = 1)), okWith []) := by
  simp only [loadRollOwner, indexOf_eq_some ha, if_neg hgood]
  rfl

theorem State.headInUse_iff (s : State) (h : Fin 4) :
    s.headInUse h = true ↔ ∃ i : Fin 12, i.val / 3 = h.val ∧ s.slots[i].state ≠ .free := by
  simp only [State.headInUse, List.any_eq_true, decide_eq_true_eq]
  constructor
  · rintro ⟨i, hi, hst⟩
    exact ⟨i, congrArg Fin.val (headOf_of_mem_slotsOf h i hi), hst⟩
  · rintro ⟨i, hi, hst⟩
    obtain rfl : headOf i = h := Fin.ext hi
    exact ⟨i, mem_slotsOf_headOf i, hst⟩

theorem unloadRollOwner_eq {a : Word} {h : Fin 4} (ha : a.toNat = h.val) (s : State) : unloadRollOwner a s =
    match s.heads[h].state with
    | .noRoll | .running | .stopping => (s, refusal .headState)
    | .ready => if s.headInUse h then (s, refusal .ficheOpen) else (s.modHead h Head.rollUnloaded, okWith [])
    | .fault => if s.headInUse h then (s, refusal .ficheOpen)
      else ((s.modHead h Head.rollUnloaded).raise (.fault h), okWith []) := by
  unfold unloadRollOwner
  rw [indexOf_eq_some ha] <;> rfl

theorem unloadRollOwner_refused {a : Word} {h : Fin 4} (ha : a.toNat = h.val) {s : State}
    (hst : s.heads[h].state ∈ [HeadState.noRoll, .running, .stopping]) :
    unloadRollOwner a s = (s, refusal .headState) := by
  rw [unloadRollOwner_eq ha]
  generalize s.heads[h].state = st at hst
  cases st <;> simp at hst <;> rfl

theorem unloadRollOwner_idle {a : Word} {h : Fin 4} (ha : a.toNat = h.val) {s : State}
    (hst : s.heads[h].state = .ready ∨ s.heads[h].state = .fault) : unloadRollOwner a s =
      if s.headInUse h then (s, refusal .ficheOpen)
      else (if s.heads[h].state = .fault then (s.modHead h Head.rollUnloaded).raise (.fault h)
        else s.modHead h Head.rollUnloaded, okWith []) := by
  rw [unloadRollOwner_eq ha]
  generalize s.heads[h].state = st at hst
  rcases hst with rfl | rfl <;> rfl

/-! ### Start, Stop and Reset -/

theorem headStartOwner_eq {a : Word} {h : Fin 4} (ha : a.toNat = h.val) (s : State) : headStartOwner a s =
    match s.heads[h].state with
    | .ready | .stopping => (s.modHead h fun k => { k with state := .running }, okWith [])
    | .running => (s, okWith [])
    | .fault | .noRoll => (s, refusal .headState) := by
  unfold headStartOwner
  rw [indexOf_eq_some ha] <;> rfl

theorem headStopOwner_eq {a : Word} {h : Fin 4} (ha : a.toNat = h.val) (s : State) : headStopOwner a s =
    match s.heads[h].state with
    | .running => (s.modHead h fun k => { k with state := if k.inFlight.isSome then .stopping else .ready }, okWith [])
    | .ready | .stopping => (s, okWith [])
    | .fault | .noRoll => (s, refusal .headState) := by
  unfold headStopOwner
  rw [indexOf_eq_some ha] <;> rfl

theorem headResetOwner_eq {a : Word} {h : Fin 4} (ha : a.toNat = h.val) (s : State) : headResetOwner a s =
    match s.heads[h].state with
    | .fault => (((s.resetHead h).raise (.fault h)).retry (.faultLeft h), okWith [])
    | .ready => (s.resetHead h, okWith [])
    | .running | .stopping | .noRoll => (s, refusal .headState) := by
  unfold headResetOwner
  rw [indexOf_eq_some ha] <;> rfl

/-- A Head Reset that is carried out (R146). -/
def State.resetDone (s : State) (h : Fin 4) : State := { s with
  heads := s.heads.set h { s.heads[h] with
    state := .ready, faultKind := none,
    tracker := { s.heads[h].tracker with locked := false, errors := 0, run := none } }
  retryEvents := if s.heads[h].state = .fault then s.retryEvents ++ [.faultLeft h] else s.retryEvents
  port := { s.port with changes := s.port.changes |||
    (if s.heads[h].tracker.locked then 1#21 <<< (4 * h.val + 2) else 0) |||
    (if s.heads[h].state = .fault then 1#21 <<< (4 * h.val) else 0) } }

theorem or_ite_zero {n : Nat} (a b : BitVec n) (p : Prop) [Decidable p] :
    (a ||| if p then b else 0) = if p then a ||| b else a := by
  split
  · rfl
  · exact BitVec.or_zero

theorem State.resetHead_eq (s : State) (h : Fin 4) : s.resetHead h = { s with
    heads := s.heads.set h { s.heads[h] with
      state := .ready, faultKind := none,
      tracker := { s.heads[h].tracker with locked := false, errors := 0, run := none } }
    port := { s.port with changes := s.port.changes |||
      (if s.heads[h].tracker.locked then 1#21 <<< (4 * h.val + 2) else 0) } } := by
  rw [or_ite_zero]
  exact State.modHead_trackerAcquire s h rfl

theorem headResetOwner_done {a : Word} {h : Fin 4} (ha : a.toNat = h.val) {s : State}
    (hst : s.heads[h].state = .ready ∨ s.heads[h].state = .fault) : headResetOwner a s = (s.resetDone h, okWith []) := by
  rw [headResetOwner_eq ha, State.resetHead_eq, State.resetDone, or_ite_zero (s.port.changes ||| _)]
  rcases hst with hst | hst
  · have hno : s.heads[h].state ≠ .fault := by rw [hst]; decide
    rw [if_neg hno, if_neg hno, hst]
  · rw [if_pos hst, if_pos hst, hst]
    rfl

theorem passes_resetDone (h : Fin 4) : PassesCycle (·.resetDone h) := fun _ _ _ _ _ => rfl

/-- Settles O41. -/
theorem headControlRequests : Obligations.HeadControlRequests := by
  refine ⟨fun s hidle => ⟨fun a n c m => ⟨fun hbad => ?_, fun h hgood ha => ⟨fun hst => ?_, fun hst => ?_⟩⟩,
    fun a => ⟨fun ha => ?_, fun h ha => ⟨fun hst => ?_, fun hst => ⟨fun huse => ?_, fun hfree => ?_⟩⟩⟩⟩,
    fun a s hidle => ⟨fun ha => ⟨?_, ?_, ?_⟩, fun h ha => ⟨fun hst => ⟨?_, ?_⟩, fun hst => ⟨?_, ?_⟩,
      fun hst => ⟨?_, fun hfly => ?_, fun hfly => ?_⟩, fun hst => ?_, fun hst => ?_⟩⟩⟩
  · exact exec_same rfl hidle fun p => loadRollOwner_of_bad hbad _
  · have hzero : n = 0 ↔ n.toNat = 0 := BitVec.toNat_eq
    rw [hzero] at hgood
    exact exec_same rfl hidle fun p => (loadRollOwner_of_inRange ha (by omega) _).trans (if_pos hst)
  · have hzero : n = 0 ↔ n.toNat = 0 := BitVec.toNat_eq
    rw [hzero] at hgood
    rw [exec_passes (f := fun t => t.rollPut h n.toNat c.toNat (decide (m = 1)))
      ((passes_retry _).comp ((passes_trackerAcquire h).comp (passes_modHead h _))) rfl hidle
      fun p => (loadRollOwner_of_inRange ha (by omega) _).trans (if_neg (not_not_intro hst)),
      State.rollPut, State.modHead_trackerAcquire s h rfl]
    have hcode : BitVec.ofNat 16 c.toNat = c.setWidth 16 := rfl
    simp only [Head.rollLoaded, hcode]
    rfl
  · exact exec_same rfl hidle fun p => by simp only [unloadRollOwner, indexOf_eq_none (show 4 ≤ a.toNat from ha)]
  · exact exec_same rfl hidle fun p => unloadRollOwner_refused ha hst
  · exact exec_same rfl hidle fun p => (unloadRollOwner_idle (s := s.onPort p) ha hst).trans (if_pos ((s.headInUse_iff h).mpr huse))
  · have hno : ¬ s.headInUse h = true := fun hu => by
      obtain ⟨i, hi, hst⟩ := (s.headInUse_iff h).mp hu
      exact hst (hfree i hi)
    rw [exec_passes (f := fun t => if s.heads[h].state = .fault then (t.modHead h Head.rollUnloaded).raise (.fault h)
        else t.modHead h Head.rollUnloaded) (by split <;> exact fun _ _ _ _ _ => rfl) rfl hidle
      fun p => (unloadRollOwner_idle (s := s.onPort p) ha hst).trans (if_neg hno)]
    by_cases hfault : s.heads[h].state = .fault
    · rw [if_pos hfault, if_pos hfault]
      rfl
    · rw [if_neg hfault, if_neg hfault]
      rfl
  · exact exec_same rfl hidle fun p => by simp only [headStartOwner, indexOf_eq_none (show 4 ≤ a.toNat from ha)]
  · exact exec_same rfl hidle fun p => by simp only [headStopOwner, indexOf_eq_none (show 4 ≤ a.toNat from ha)]
  · exact exec_same rfl hidle fun p => by simp only [headResetOwner, indexOf_eq_none (show 4 ≤ a.toNat from ha)]
  · refine exec_same rfl hidle fun p => (headStartOwner_eq ha _).trans ?_
    rcases hst with hst | hst <;> simp only [State.onPort, hst]
  · refine exec_same rfl hidle fun p => (headStopOwner_eq ha _).trans ?_
    rcases hst with hst | hst <;> simp only [State.onPort, hst]
  · refine exec_answered (u := s.modHead h fun k => { k with state := .running }) rfl hidle
      fun p => (headStartOwner_eq ha _).trans ?_
    rcases hst with hst | hst <;> simp only [State.onPort, hst] <;> rfl
  · refine exec_same rfl hidle fun p => (headStopOwner_eq ha _).trans ?_
    rcases hst with hst | hst <;> simp only [State.onPort, hst]
  · refine exec_same rfl hidle fun p => (headStartOwner_eq ha _).trans ?_
    simp only [State.onPort, hst]
  · rw [exec_answered (u := s.modHead h fun k => { k with state := if k.inFlight.isSome then .stopping else .ready }) rfl hidle
      fun p => (headStopOwner_eq ha _).trans (by simp only [State.onPort, hst]; rfl)]
    simp only [State.modHead, if_pos (Option.isSome_iff_ne_none.mpr hfly)]
  · rw [exec_answered (u := s.modHead h fun k => { k with state := if k.inFlight.isSome then .stopping else .ready }) rfl hidle
      fun p => (headStopOwner_eq ha _).trans (by simp only [State.onPort, hst]; rfl)]
    simp only [State.modHead, hfly]
    rfl
  · refine exec_same rfl hidle fun p => (headResetOwner_eq ha _).trans ?_
    simp only [State.onPort]
    generalize s.heads[h].state = st at hst
    cases st <;> simp at hst <;> rfl
  · exact exec_passes (passes_resetDone h) rfl hidle fun p => headResetOwner_done ha hst

end Sys2Proof.Machine
end

section
/-! Reports and settings of heads, trackers and dose monitors (R158, R168, R179, R182). -/

namespace Sys2Proof.Machine

theorem optionalWords_one (o : Option Nat) : optionalWords 1 (o.map fun n => [word n]) =
    match o with | some n => [1, word n] | none => [0, 0] := by
  cases o <;> rfl

theorem optionalWords_inFlight (free : Word) (o : Option InFlight) : optionalWords 5 (o.map (inFlightWords free)) =
    match o with
    | some e => [1, word (entryKindCode e.entry), word e.entry.slot.val,
        match e.entry with
        | .title _ => free
        | .cell _ n _ => word n
        | .index _ n _ => word n,
        word e.entry.cls, word (phaseCode e.phase)]
    | none => [0, 0, 0, 0, 0, 0] := by
  cases o with
  | none => rfl
  | some e =>
    obtain ⟨entry, phase⟩ := e
    cases entry <;> rfl

theorem Head.runTaken_acquiring {k : Head} {e : Entry} {r : Run} (he : k.inFlight = some ⟨e, .acquiring⟩)
    (hr : k.tracker.run = some r) : k.runTaken = some r.taken := by
  rw [Head.runTaken, he]
  dsimp only
  rw [if_pos rfl, hr]
  rfl

theorem Head.runTaken_other {k : Head} (h : ∀ e, k.inFlight ≠ some ⟨e, .acquiring⟩) : k.runTaken = none := by
  unfold Head.runTaken
  split
  · next e he =>
    refine if_neg fun hp => h e.entry ?_
    rw [he, ← hp]
  · rfl

/-- Settles O42. -/
theorem headReportsAndSettings : Obligations.HeadReportsAndSettings := by
  refine ⟨fun a s hidle => ⟨fun ha => ⟨?_, ?_, ?_⟩, fun h ha => ⟨?_,
    ⟨optionalWords 1 (s.heads[h].runTaken.map fun n => [word n]), ?_, fun e r he hr => ?_, fun hno => ?_⟩, ?_⟩⟩,
    fun s hidle => ⟨fun a o => ⟨fun hbad => ?_, fun h ha ho => ?_⟩, fun a t d => ⟨fun hbad => ?_, fun h hgood ha => ?_⟩⟩⟩
  · exact exec_same rfl hidle fun p => by simp only [headStatusOwner, indexOf_eq_none (show 4 ≤ a.toNat from ha)]
  · exact exec_same rfl hidle fun p => by simp only [trackerStatusOwner, indexOf_eq_none (show 4 ≤ a.toNat from ha)]
  · exact exec_same rfl hidle fun p => by simp only [doseStatusOwner, indexOf_eq_none (show 4 ≤ a.toNat from ha)]
  · rw [exec_answered (u := { s with freeCount := s.freeCount + 1 }) rfl hidle
      fun p => by simp only [headStatusOwner, indexOf_eq_some ha]; rfl]
    rw [headWords, optionalWords_one, optionalWords_inFlight, List.append_assoc _ [word s.heads[h].queue.length]]
    rfl
  · exact exec_same rfl hidle fun p => by simp only [trackerStatusOwner, indexOf_eq_some ha]; rfl
  · rw [Head.runTaken_acquiring he hr]
    rfl
  · rw [Head.runTaken_other hno]
    rfl
  · exact exec_same rfl hidle fun p => by simp only [doseStatusOwner, indexOf_eq_some ha]; rfl
  · refine exec_same rfl hidle fun p => ?_
    rcases hbad with ha | ho
    · simp only [setTrackerOwner, indexOf_eq_none (show 4 ≤ a.toNat from ha)]
    · simp only [setTrackerOwner, if_pos ho]
      split <;> rfl
  · exact exec_answered (u := s.modHead h fun k => { k with tracker := { k.tracker with holdLock := decide (o = 1) } }) rfl
      hidle fun p => by simp only [setTrackerOwner, indexOf_eq_some ha, if_neg (Nat.not_lt.mpr ho)]; rfl
  · have hzero (w : Word) : w = 0 ↔ w.toNat = 0 := BitVec.toNat_eq
    rw [hzero, hzero] at hbad
    refine exec_same rfl hidle fun p => ?_
    rcases hbad with ha | hbad
    · simp only [setDoseOwner, indexOf_eq_none (show 4 ≤ a.toNat from ha)]
    · simp only [setDoseOwner, if_pos hbad]
      split <;> rfl
  · have hzero (w : Word) : w = 0 ↔ w.toNat = 0 := BitVec.toNat_eq
    rw [hzero, hzero] at hgood
    exact exec_answered
      (u := s.modHead h fun k => { k with dose := { k.dose with target := t.toNat, threshold := d.toNat } }) rfl hidle
      fun p => by simp only [setDoseOwner, indexOf_eq_some ha, if_neg fun h' => hgood (.inr h')]; rfl

/-! ### The dose window -/

/-- Settles O51. -/
theorem doseWindow : Obligations.DoseWindow := by
  refine ⟨fun d m => ?_, fun d dev hpos => ⟨?_, ?_, ?_, fun h => ?_, fun h => ?_⟩⟩
  · rw [Dose.deviates, decide_eq_true_eq, Nat.mul_comm]
  all_goals
    unfold Dose.step
    dsimp only
  · split <;> rfl
  · split <;> rfl
  · split <;> rfl
  · rw [if_neg (show ¬ d.position + 1 = Config.windowDraws by unfold Config.windowDraws; omega)]
    refine ⟨rfl, rfl, ?_⟩
    simp only [Bool.or_eq_true, Bool.and_eq_true, decide_eq_true_eq]
  · rw [if_pos (show d.position + 1 = Config.windowDraws by unfold Config.windowDraws; omega)]
    refine ⟨rfl, rfl, ?_⟩
    simp only [Bool.or_eq_true, Bool.and_eq_true, decide_eq_true_eq]

end Sys2Proof.Machine
end

section
/-! The entry cycle: takes, positions, arrivals and faults (R19, R20, R63 to R67, R147 to R155, R169 to R172). -/

namespace Sys2Proof.Machine

/-! ### A change of an entry's record and of its head -/

theorem State.modEntryRecord_eq (s : State) (e : Entry) (f : Record → Record) :
    s.modEntryRecord e f = { s with records := (s.modEntryRecord e f).records } := by
  cases e with
  | cell i n c =>
    unfold State.modEntryRecord
    dsimp only
    split <;> rfl
  | title i => rfl
  | index i n part => rfl

/-- A TITLE or INDEX entry has no record. -/
theorem State.modEntryRecord_other {s : State} {e : Entry} (h : ∀ i n c, e ≠ .cell i n c) (f : Record → Record) :
    s.modEntryRecord e f = s := by
  cases e with
  | cell i n c => exact absurd rfl (h i n c)
  | title i => rfl
  | index i n part => rfl

theorem State.modEntryRecord_cell {s : State} {i : Fin 12} {n : Nat} {key : Key} (h : s.keyAt i n = some key) (c : Nat)
    (f : Record → Record) : s.modEntryRecord (.cell i n c) f = s.updateRecord key f := by
  unfold State.modEntryRecord
  dsimp only
  rw [h]

/-- What a change of an entry's record and of one head leaves. -/
theorem State.entryChange (s : State) (e : Entry) (f : Record → Record) (h : Fin 4) (F : Head → Head) :
    let t := (s.modEntryRecord e f).modHead h F
    t = { s with heads := t.heads, records := t.records } ∧ (∀ g, g ≠ h → t.heads[g] = s.heads[g]) ∧
      t.heads[h] = F s.heads[h] ∧ t.records = (s.modEntryRecord e f).records := by
  have hheads : (s.modEntryRecord e f).heads = s.heads := by rw [State.modEntryRecord_eq]
  refine ⟨?_, fun g hg => ?_, ?_, rfl⟩
  · obtain ⟨rs, hrs⟩ : ∃ rs, s.modEntryRecord e f = { s with records := rs } := ⟨_, s.modEntryRecord_eq e f⟩
    rw [hrs]
    rfl
  · rw [State.modHead_at, if_neg hg, hheads]
  · rw [State.modHead_at, if_pos rfl, hheads]

theorem Record.taken_eq (x : Record) (key : Key) : (if x.key = key then x.taken else x) =
    if x.key = key ∧ x.state = .reserved then { x with state := .exposing }
    else if x.key = key ∧ x.state = .retakeReserved then { x with state := .retakeExposing } else x := by
  obtain ⟨k, series, st, source, image, reserved, current, superseded⟩ := x
  by_cases hk : k = key <;> cases st <;> simp [hk, Record.taken]

theorem Record.returned_eq (x : Record) (key : Key) : (if x.key = key then x.returned else x) =
    if x.key = key ∧ x.state = .exposing then { x with state := .reserved }
    else if x.key = key ∧ x.state = .retakeExposing then { x with state := .retakeReserved } else x := by
  obtain ⟨k, series, st, source, image, reserved, current, superseded⟩ := x
  by_cases hk : k = key <;> cases st <;> simp [hk, Record.returned]

/-! ### Positions -/

theorem State.findRecord_updateRecord {f : Record → Record} (hf : ∀ r, (f r).key = r.key) (s : State) (k key : Key) :
    (s.updateRecord k f).findRecord key = (s.findRecord key).map fun r => if r.key = k then f r else r := by
  unfold State.findRecord State.updateRecord
  dsimp only
  rw [List.find?_map]
  congr 2
  funext r
  have hkey : (if r.key = k then f r else r).key = r.key := by split <;> simp [hf]
  simp [hkey]

/-- A change of records that leaves their keys and images leaves every position. -/
theorem State.basePosition_modEntryRecord {f : Record → Record} (hk : ∀ r, (f r).key = r.key)
    (hi : ∀ r, (f r).image = r.image) (s : State) (e d : Entry) :
    (s.modEntryRecord e f).basePosition d = s.basePosition d := by
  have hslots : (s.modEntryRecord e f).slots = s.slots := by rw [State.modEntryRecord_eq]
  have hformats : (s.modEntryRecord e f).slotFormat = s.slotFormat := by rw [State.modEntryRecord_eq]; rfl
  have himage (i : Fin 12) (n : Nat) : (s.modEntryRecord e f).imageAt i n = s.imageAt i n := by
    have hkey : (s.modEntryRecord e f).keyAt i n = s.keyAt i n := by rw [State.modEntryRecord_eq]; rfl
    have hfind (key : Key) : ((s.modEntryRecord e f).findRecord key).bind Record.image = (s.findRecord key).bind Record.image := by
      cases e with
      | title i => rfl
      | index i n part => rfl
      | cell j m c =>
        unfold State.modEntryRecord
        dsimp only
        split
        · next k _ =>
          rw [State.findRecord_updateRecord hk]
          cases s.findRecord key with
          | none => rfl
          | some r =>
            show (if r.key = k then f r else r).image = r.image
            split
            · exact hi r
            · rfl
        · rfl
    unfold State.imageAt State.recordAt
    rw [hkey]
    cases s.keyAt i n with
    | none => rfl
    | some key => exact hfind key
  unfold State.basePosition
  rw [hformats]
  cases d with
  | title i => rfl
  | index i n part => rfl
  | cell i n c =>
    dsimp only
    rw [himage]

/-! ### Takes -/

theorem State.passOwed_iff (s : State) (h : Fin 4) :
    s.passOwed h = true ↔ ∃ i : Fin 12, RetryEvent.slotFree i ∈ s.retryEvents ∧ headOf i = h := by
  simp only [State.passOwed, List.any_eq_true]
  constructor
  · rintro ⟨e, he, hm⟩
    split at hm
    · next i => exact ⟨i, he, of_decide_eq_true hm⟩
    · cases hm
  · rintro ⟨i, hi, hh⟩
    exact ⟨_, hi, decide_eq_true hh⟩

theorem State.takeEntry_eq (s : State) (h : Fin 4) (e : Entry) (rest : List Entry) : s.takeEntry h e rest =
    ((s.modEntryRecord e Record.taken).modHead h (·.took e rest)).firstPhase h e := by
  unfold State.takeEntry
  rw [State.modEntryRecord_modHead]
  rfl

/-- The state that a take's first phase starts from has the head, its sheet and its tracker as before. -/
theorem State.taken_reads (s : State) (h : Fin 4) (e : Entry) (rest : List Entry) :
    let u := (s.modEntryRecord e Record.taken).modHead h (·.took e rest)
    u.heads[h] = s.heads[h].took e rest ∧ u.slots = s.slots ∧ u.basePosition e = s.basePosition e := by
  refine ⟨(s.entryChange e _ h _).2.2.1, ?_, ?_⟩
  · show (s.modEntryRecord e Record.taken).slots = s.slots
    rw [State.modEntryRecord_eq]
  · exact s.basePosition_modEntryRecord (f := Record.taken) (fun _ => rfl) (fun _ => rfl) e e

theorem State.takeEntry_advancing {s : State} {h : Fin 4} {e : Entry} (rest : List Entry)
    (hs : s.heads[h].stageSheet ≠ some s.slots[e.slot].sheet) : s.takeEntry h e rest =
      (s.modEntryRecord e Record.taken).modHead h fun k =>
        ((k.took e rest).inPhase .advancing).advanced s.slots[e.slot].sheet := by
  obtain ⟨hhead, hslots, -⟩ := s.taken_reads h e rest
  rw [State.takeEntry_eq, State.firstPhase, hhead, hslots]
  rw [if_pos (show (s.heads[h].took e rest).stageSheet ≠ _ from hs), State.enterAdvancing_eq, State.modHead_modHead]

theorem State.takeEntry_acquiring {s : State} {h : Fin 4} {e : Entry} (rest : List Entry)
    (hs : s.heads[h].stageSheet = some s.slots[e.slot].sheet) (hl : s.heads[h].tracker.locked = false) :
    s.takeEntry h e rest = (s.modEntryRecord e Record.taken).modHead h fun k => (k.took e rest).acquiring := by
  obtain ⟨hhead, hslots, -⟩ := s.taken_reads h e rest
  rw [State.takeEntry_eq, State.firstPhase, hhead, hslots]
  rw [if_neg (show ¬ (s.heads[h].took e rest).stageSheet ≠ _ from not_not_intro hs),
    if_pos (show (s.heads[h].took e rest).tracker.locked = false from hl), State.enterAcquiring_eq, State.modHead_modHead]

theorem State.takeEntry_positioning {s : State} {h : Fin 4} {e : Entry} (rest : List Entry)
    (hs : s.heads[h].stageSheet = some s.slots[e.slot].sheet) (hl : s.heads[h].tracker.locked = true) :
    s.takeEntry h e rest = (s.modEntryRecord e Record.taken).modHead h fun k =>
      ((k.took e rest).inPhase .positioning).driven (s.position h e) := by
  obtain ⟨hhead, hslots, hbase⟩ := s.taken_reads h e rest
  rw [State.takeEntry_eq, State.firstPhase, hhead, hslots]
  rw [if_neg (show ¬ (s.heads[h].took e rest).stageSheet ≠ _ from not_not_intro hs),
    if_neg (show ¬ (s.heads[h].took e rest).tracker.locked = false by rw [Bool.not_eq_false]; exact hl),
    State.enterPositioning_eq, State.modHead_modHead]
  rw [State.position, hbase, hhead]
  rfl

theorem titleText_length (template : Text) (f : FicheId) :
    (titleText template f).length = if template = [] then 10 else template.length + 11 := by
  unfold titleText
  cases template with
  | nil => simp [digits_length]
  | cons a rest => simp [digits_length]

/-- Settles O43. -/
theorem entryTakesAndPositions : Obligations.EntryTakesAndPositions := by
  refine ⟨fun h s => ⟨fun hno => ?_, fun e rest hrun hnone howed hq => ⟨s.takeEntry h e rest, ?_, ?_⟩⟩,
    fun s i n c part => ⟨fun key => ?_, ?_, rfl, ?_, fun key r m hk hr hm => ?_, fun template fiche hlen => ⟨titleText_length _ _,
      ?_, ?_, fun hne => ?_, ?_⟩⟩⟩
  · show execEntryTake h s = _
    unfold execEntryTake
    split
    · next hgo =>
      obtain ⟨hrun, hnone, howed⟩ := hgo
      rcases hno with hno | hno | hno | hno
      · exact absurd hrun hno
      · exact absurd hnone hno
      · rw [← State.passOwed_iff, howed] at hno
        cases hno
      · rw [hno]
    · rfl
  · show execEntryTake h s = _
    unfold execEntryTake
    rw [← State.passOwed_iff, Bool.not_eq_true] at howed
    rw [if_pos ⟨hrun, hnone, howed⟩, hq]
  · have hchange (F : Head → Head) (hF : s.takeEntry h e rest = (s.modEntryRecord e Record.taken).modHead h F) :
        s.takeEntry h e rest = { s with heads := (s.takeEntry h e rest).heads, records := (s.takeEntry h e rest).records } ∧
        (∀ g, g ≠ h → (s.takeEntry h e rest).heads[g] = s.heads[g]) ∧
        ((∀ i n c, e ≠ .cell i n c) → (s.takeEntry h e rest).records = s.records) ∧
        (∀ i n c key, e = .cell i n c → s.keyAt i n = some key → (s.takeEntry h e rest).records = s.records.map fun x =>
           if x.key = key ∧ x.state = .reserved then { x with state := .exposing }
           else if x.key = key ∧ x.state = .retakeReserved then { x with state := .retakeExposing } else x) ∧
        (s.takeEntry h e rest).heads[h] = F s.heads[h] := by
      obtain ⟨hstate, hothers, hhead, hrecords⟩ := s.entryChange e Record.taken h F
      rw [hF]
      refine ⟨hstate, hothers, fun hno => ?_, fun i n c key he hkey => ?_, hhead⟩
      · rw [hrecords, State.modEntryRecord_other hno]
      · subst he
        rw [hrecords, State.modEntryRecord_cell hkey]
        exact List.map_congr_left fun x _ => x.taken_eq key
    by_cases hs : s.heads[h].stageSheet = some s.slots[e.slot].sheet
    · cases hl : s.heads[h].tracker.locked with
      | false =>
        obtain ⟨hstate, hothers, hnorec, hrec, hhead⟩ := hchange _ (State.takeEntry_acquiring rest hs hl)
        refine ⟨hstate, hothers, hnorec, hrec, fun hne => absurd hs hne, fun _ _ => hhead, fun _ hl' => by cases hl'⟩
      | true =>
        obtain ⟨hstate, hothers, hnorec, hrec, hhead⟩ := hchange _ (State.takeEntry_positioning rest hs hl)
        exact ⟨hstate, hothers, hnorec, hrec, fun hne => absurd hs hne, fun _ hl' => (by cases hl'), fun _ _ => ⟨_, _, hhead, rfl⟩⟩
    · obtain ⟨hstate, hothers, hnorec, hrec, hhead⟩ := hchange _ (State.takeEntry_advancing rest hs)
      exact ⟨hstate, hothers, hnorec, hrec, fun _ => hhead, fun h' => absurd h' hs, fun h' => absurd h' hs⟩
  · simp only [State.keyAt, Option.bind_eq_some_iff]
    rfl
  · simp only [Format.cellOrigin]
    push_cast
    rfl
  · simp only [State.basePosition, Format.cellOrigin, Entry.slot]
    push_cast
    rfl
  · have himage : s.imageAt i n = some m := by rw [State.imageAt, State.recordAt, hk]; simp [hr, hm]
    simp only [State.basePosition, himage, Format.cellOrigin, Entry.slot, Format.centreX, Format.centreY,
      Format.drawableWidth, Format.drawableHeight]
    push_cast
    simp only [add_assoc]
  · rw [titleText_length]
    split <;> omega
  · cases template with
    | nil => exact List.nil_prefix
    | cons a rest => exact ⟨_, by simp [titleText]; rfl⟩
  · cases template with
    | nil => exact absurd rfl hne
    | cons a rest => simp [titleText, spaceCode]
  · exact ⟨_, by simp only [titleText, solidusCode, List.append_assoc]; rfl⟩

end Sys2Proof.Machine
end

section
/-! Arrivals, sheet codes and faults of a head (R149, R154, R155, R169 to R172). -/

namespace Sys2Proof.Machine

/-! ### Entering FAULT before a draw -/

theorem State.modHead_of_eq {s : State} {h : Fin 4} {f : Head → Head} {k : Head} (hk : f s.heads[h] = k) :
    s.modHead h f = { s with heads := s.heads.set h k } := by
  rw [← hk]
  rfl

theorem State.set_modHead (s : State) (h : Fin 4) (k : Head) (p : Port) (f : Head → Head) :
    ({ s with heads := s.heads.set h k, port := p } : State).modHead h f =
      { s with heads := s.heads.set h (f k), port := p } := by
  simp [State.modHead]

/-- A return to a queue in descending class stands before its own class (R147). -/
theorem returnQueue_eq {q : List Entry} (h : q.Pairwise fun a b => b.cls ≤ a.cls) (e : Entry) : returnQueue q e =
    q.filter (fun x => decide (e.cls < x.cls)) ++ [e] ++ q.filter fun x => decide (x.cls ≤ e.cls) := by
  obtain ⟨htake, hdrop⟩ := takeWhile_eq_filter_of_descending h (e.cls + 1)
  have hle : (fun x : Entry => decide (x.cls < e.cls + 1)) = fun x => decide (x.cls ≤ e.cls) := by
    funext x
    exact decide_eq_decide.mpr Nat.lt_succ_iff
  rw [hle] at hdrop
  rw [List.append_assoc]
  exact congrArg₂ (fun a b => a ++ e :: b) htake hdrop

theorem FaultKind.losesSheet_eq (kind : FaultKind) (sheet : Option Nat) : (if kind.losesSheet then none else sheet) =
    if kind = .stageTimeout ∨ kind = .registrationFailed ∨ kind = .lampFailure then sheet else none := by
  cases kind <;> rfl

/-- The head after entering FAULT with no entry in flight (R154). -/
def Head.fallen (k : Head) (kind : FaultKind) : Head := { (k.faulted kind).counted .faults with inFlight := none }

theorem Head.fallen_eq (k : Head) (kind : FaultKind) : k.fallen kind = { k.counted .faults with
    state := .fault, faultKind := some kind
    stageSheet := if kind = .stageTimeout ∨ kind = .registrationFailed ∨ kind = .lampFailure then k.stageSheet else none
    transportLimit := none, stageLimit := none, awaited := none, codeReads := none, inFlight := none
    tracker := { k.tracker with run := none } } := by
  rw [← FaultKind.losesSheet_eq]
  rfl

theorem State.enterFault_idle {s : State} {h : Fin 4} (hnone : s.heads[h].inFlight = none) (kind : FaultKind) :
    s.enterFault h kind = (s.modHead h (·.fallen kind)).raise (.fault h) := by
  have hbase : s.enterFault h kind = ((s.modHead h (·.faulted kind)).countHead h .faults).raise (.fault h) := by
    unfold State.enterFault
    rw [hnone]
    rfl
  rw [hbase, State.countHead, State.modHead_modHead]
  refine congrArg (fun t : State => t.raise (.fault h)) ?_
  refine (State.modHead_of_eq ?_).trans (State.modHead_of_eq rfl).symm
  show ({ (s.heads[h].faulted kind).counted .faults with inFlight := s.heads[h].inFlight } : Head) = _
  rw [hnone]
  rfl

/-- An entry caught before DRAWING is returned (R154, R156). -/
theorem State.enterFault_returns {s : State} {h : Fin 4} {e : Entry} {p : Phase} (he : s.heads[h].inFlight = some ⟨e, p⟩)
    (hp : p ≠ .drawing) (kind : FaultKind) : s.enterFault h kind =
      ((s.modEntryRecord e Record.returned).modHead h fun k => { k.fallen kind with queue := returnQueue k.queue e }).raise
        (.fault h) := by
  have hbase : s.enterFault h kind =
      (((s.modHead h (·.faulted kind)).countHead h .faults).raise (.fault h)).returnEntry h e := by
    unfold State.enterFault
    rw [he]
    exact if_neg hp
  rw [hbase, State.returnEntry, State.faulted_modHead, State.raise_modEntryRecord, State.modEntryRecord_modHead]
  rfl

/-- An indication raised after a change of heads and records. -/
theorem State.raised_entryChange {s u : State} (hu : u = { s with heads := u.heads, records := u.records }) (i : Indication) :
    u.raise i = { s with heads := (u.raise i).heads, records := (u.raise i).records, port := (u.raise i).port } ∧
      (u.raise i).port = { s.port with changes := s.port.changes ||| 1#21 <<< indicationBit i } := by
  obtain ⟨hs, rs, rfl⟩ : ∃ hs rs, u = { s with heads := hs, records := rs } := ⟨_, _, hu⟩
  exact ⟨rfl, rfl⟩

/-- Settles O45. -/
theorem headFaults : Obligations.HeadFaults := by
  refine fun h s => ⟨fun hn => ?_, fun hn => ?_, fun hn => ?_, fun hn => ?_, fun hst => ?_, fun hst => ?_, fun kind hno =>
    ⟨s.enterFault h kind, rfl, ?_⟩⟩
  · exact if_neg (by rw [hn]; decide)
  · exact if_pos (Option.isSome_iff_ne_none.mpr hn)
  · exact if_neg (by rw [hn]; decide)
  · exact if_pos (Option.isSome_iff_ne_none.mpr hn)
  · show execJam h s = _
    unfold execJam
    rcases hst with hst | hst <;> rw [hst]
  · show execJam h s = _
    unfold execJam
    generalize s.heads[h].state = st at hst
    cases st <;> simp at hst <;> rfl
  · cases hfly : s.heads[h].inFlight with
    | none =>
      rw [State.enterFault_idle hfly]
      refine ⟨rfl, rfl, fun g hg => ?_, ?_, fun _ => ⟨?_, rfl⟩, fun e p he => by cases he⟩
      · exact (s.modHead_at h (·.fallen kind) g).trans (if_neg hg)
      · rw [← Head.fallen_eq]
        show ({ ((s.modHead h (·.fallen kind)).heads[h]) with queue := s.heads[h].queue } : Head) = _
        rw [State.modHead_at, if_pos rfl]
        rfl
      · show ((s.modHead h (·.fallen kind)).heads[h]).queue = _
        rw [State.modHead_at, if_pos rfl]
        rfl
    | some f =>
      obtain ⟨e, p⟩ := f
      have hp : p ≠ .drawing := by
        rintro rfl
        exact hno e hfly
      rw [State.enterFault_returns hfly hp]
      obtain ⟨hstate, hothers, hhead, hrecords⟩ := s.entryChange e Record.returned h fun k =>
        { k.fallen kind with queue := returnQueue k.queue e }
      generalize State.modHead _ h (fun k => { k.fallen kind with queue := returnQueue k.queue e }) = u at *
      obtain ⟨hraise, hport⟩ := State.raised_entryChange hstate (.fault h)
      refine ⟨hraise, hport, hothers, ?_, fun hnone => (by cases hnone), fun e' p' he => ?_⟩
      · rw [← Head.fallen_eq]
        show ({ u.heads[h] with queue := s.heads[h].queue } : Head) = _
        rw [hhead]
        rfl
      · cases he
        refine ⟨fun hq => ?_, fun hcell => ?_, fun i n c key he hkey => ?_⟩
        · rw [← returnQueue_eq hq]
          exact congrArg Head.queue hhead
        · exact hrecords.trans (congrArg State.records (State.modEntryRecord_other hcell _))
        · subst he
          refine hrecords.trans ((congrArg State.records (State.modEntryRecord_cell hkey c _)).trans ?_)
          exact List.map_congr_left fun x _ => x.returned_eq key

/-! ### Arrivals and sheet codes -/

theorem codeOutcome_append {reads : List (Option (BitVec 16))} (hlen : reads.length < 4) (v : Option (BitVec 16)) :
    (v ≠ none → reads.getLast? = some v → codeOutcome (reads ++ [v]) = some v) ∧
      (¬ (v ≠ none ∧ reads.getLast? = some v) →
        codeOutcome (reads ++ [v]) = if reads.length = 3 then some none else none) := by
  have hfour : (4 ≤ reads.length + 1) = (reads.length = 3) := propext (by omega)
  unfold codeOutcome
  rw [List.reverse_append, List.reverse_singleton, List.singleton_append, List.length_append, List.length_singleton,
    ← List.head?_reverse]
  simp only [hfour]
  cases v with
  | none => simp
  | some a =>
    cases reads.reverse with
    | nil => simp
    | cons b rest =>
      cases b with
      | none => simp
      | some b =>
        by_cases hab : a = b
        · simp [hab]
        · simp [hab, Ne.symm hab]

theorem Head.sheetCode_eq_iff (k : Head) (sheet : Nat) (code : BitVec 16) :
    code = k.sheetCode sheet ↔ code.toNat = (k.firstCode.toNat + sheet) % 65536 := by
  rw [← BitVec.toNat_inj, Head.sheetCode, BitVec.toNat_add, BitVec.toNat_ofNat, Nat.add_mod_mod]

theorem State.sheetReached_eq (s : State) (h : Fin 4) (sheet : Nat) : s.sheetReached h sheet =
    s.modHead h fun k => ({ k with stageSheet := some sheet, codeReads := none } : Head).acquiring := by
  rw [State.sheetReached, State.enterAcquiring_eq, State.modHead_modHead]

theorem execTransportArrival_disregarded {h : Fin 4} {motion : Nat} {s : State}
    (hno : (∀ e, s.heads[h].inFlight ≠ some ⟨e, .advancing⟩) ∨ s.heads[h].transportLimit = none ∨
      s.heads[h].awaited ≠ some motion) : execTransportArrival h motion s = .next s := by
  unfold execTransportArrival
  split
  · rfl
  · next e he =>
    refine if_neg fun ⟨hp, hl, ha⟩ => ?_
    rcases hno with hno | hno | hno
    · exact hno e.entry (by rw [he, ← hp])
    · rw [hno] at hl
      cases hl
    · exact hno ha

theorem execTransportArrival_awaited {h : Fin 4} {motion : Nat} {s : State} {e : Entry}
    (he : s.heads[h].inFlight = some ⟨e, .advancing⟩) (hl : s.heads[h].transportLimit ≠ none)
    (ha : s.heads[h].awaited = some motion) : execTransportArrival h motion s =
      let t := (s.modHead h fun k => { k with transportLimit := none, awaited := none }).trackerAcquire h
      if s.heads[h].coded then .next (t.modHead h fun k => { k with codeReads := some [] })
      else .next (t.sheetReached h s.slots[e.slot].sheet) := by
  unfold execTransportArrival
  rw [he]
  exact if_pos ⟨rfl, Option.isSome_iff_ne_none.mpr hl, ha⟩

theorem execSheetCodeRead_disregarded {h : Fin 4} {v : Option (BitVec 16)} {s : State}
    (hno : (∀ e, s.heads[h].inFlight ≠ some ⟨e, .advancing⟩) ∨ s.heads[h].codeReads = none) :
    execSheetCodeRead h v s = .next s := by
  unfold execSheetCodeRead
  split
  · next e reads he hr =>
    refine if_neg fun hp => ?_
    rcases hno with hno | hno
    · exact hno e.entry (by rw [he, ← hp])
    · rw [hno] at hr
      cases hr
  · rfl

/-- The outcomes of a read that is awaited (R171, R172). -/
theorem execSheetCodeRead_awaited {h : Fin 4} {v : Option (BitVec 16)} {s : State} {e : Entry}
    {reads : List (Option (BitVec 16))} (he : s.heads[h].inFlight = some ⟨e, .advancing⟩)
    (hr : s.heads[h].codeReads = some reads) :
    (codeOutcome (reads ++ [v]) = none →
      execSheetCodeRead h v s = .next (s.modHead h fun k => { k with codeReads := some (reads ++ [v]) })) ∧
    (codeOutcome (reads ++ [v]) = some none → execSheetCodeRead h v s = .next (s.enterFault h .sheetUnreadable)) ∧
    ∀ code, codeOutcome (reads ++ [v]) = some (some code) → execSheetCodeRead h v s =
      if code = s.heads[h].sheetCode s.slots[e.slot].sheet then .next (s.sheetReached h s.slots[e.slot].sheet)
      else .next (s.enterFault h .sheetMismatch) := by
  unfold execSheetCodeRead
  rw [he, hr]
  dsimp only
  rw [if_pos rfl]
  refine ⟨fun ho => ?_, fun ho => ?_, fun code ho => ?_⟩ <;> rw [ho]

/-- Settles O44. -/
theorem sheetArrivals : Obligations.SheetArrivals := by
  refine ⟨fun reads hlen v => codeOutcome_append hlen v, fun h s => ⟨fun motion => execTransportArrival_disregarded,
    fun v => execSheetCodeRead_disregarded, fun e he => ⟨fun motion hl ha => ⟨fun hc => ?_, fun hc => ?_⟩, fun reads v hr => ?_⟩⟩⟩
  · show execTransportArrival h motion s = _
    rw [execTransportArrival_awaited he hl ha]
    dsimp only
    rw [if_neg (show ¬ s.heads[h].coded = true by rw [hc]; decide), State.sheetReached_eq, State.modHead_trackerAcquire s h rfl, State.set_modHead]
    simp only [Head.acquiring, Head.inPhase, Head.driven, Head.unlocked, Tracker.acquired, he]
    rfl
  · show execTransportArrival h motion s = _
    rw [execTransportArrival_awaited he hl ha]
    dsimp only
    rw [if_pos hc, State.modHead_trackerAcquire s h rfl, State.set_modHead]
    rfl
  · obtain ⟨hmore, hnone, hcode⟩ := execSheetCodeRead_awaited (v := v) he hr
    refine ⟨fun ho => hmore ho, fun ho => hnone ho, fun code ho hne => ?_, fun code ho heq hl => ?_⟩
    · refine (hcode code ho).trans (if_neg ?_)
      rwa [Head.sheetCode_eq_iff]
    · refine (hcode code ho).trans ((if_pos ((Head.sheetCode_eq_iff _ _ _).mpr heq)).trans ?_)
      rw [State.sheetReached_eq]
      refine congrArg Host.Outcome.next (State.modHead_of_eq ?_)
      simp only [Head.acquiring, Head.inPhase, Head.driven, he, hl]
      rfl

end Sys2Proof.Machine
end

section
/-! Readings of the stage (R151, R160 to R167). -/

namespace Sys2Proof.Machine

/-! ### Completions -/

theorem execStageCompletion_disregarded {h : Fin 4} {motion : Nat} {r : Reading} {s : State}
    (hno : s.heads[h].inFlight = none ∨
      (∃ e, s.heads[h].inFlight = some ⟨e, .advancing⟩ ∨ s.heads[h].inFlight = some ⟨e, .drawing⟩) ∨
      s.heads[h].stageLimit = none ∨ s.heads[h].awaited ≠ some motion) : execStageCompletion h motion r s = .next s := by
  unfold execStageCompletion
  split
  · rfl
  · next e he =>
    split
    · next hgo =>
      obtain ⟨hl, ha⟩ := hgo
      rw [he] at hno
      rcases hno with hno | ⟨d, hd | hd⟩ | hno | hno
      · cases hno
      · obtain rfl := Option.some.inj hd
        rfl
      · obtain rfl := Option.some.inj hd
        rfl
      · rw [hno] at hl
        cases hl
      · exact absurd ha hno
    · rfl

theorem execStageCompletion_acquiring {h : Fin 4} {motion : Nat} {r : Reading} {s : State} {e : Entry} {run : Run}
    (he : s.heads[h].inFlight = some ⟨e, .acquiring⟩) (hr : s.heads[h].tracker.run = some run)
    (hl : s.heads[h].stageLimit ≠ none) (ha : s.heads[h].awaited = some motion) : execStageCompletion h motion r s =
      .next ((s.modHead h Head.staged).acquisitionReading h e run r) := by
  unfold execStageCompletion
  rw [he]
  dsimp only
  rw [if_pos ⟨Option.isSome_iff_ne_none.mpr hl, ha⟩, hr]
  rfl

theorem execStageCompletion_positioning {h : Fin 4} {motion : Nat} {r : Reading} {s : State} {e : Entry}
    (he : s.heads[h].inFlight = some ⟨e, .positioning⟩) (hl : s.heads[h].stageLimit ≠ none)
    (ha : s.heads[h].awaited = some motion) : execStageCompletion h motion r s =
      .next ((s.modHead h Head.staged).positioningReading h e r) := by
  unfold execStageCompletion
  rw [he]
  dsimp only
  rw [if_pos ⟨Option.isSome_iff_ne_none.mpr hl, ha⟩]
  rfl

/-! ### Acquisition -/

theorem readingsAgree_iff (p r : Reading) : readingsAgree p r = true ↔ ∃ ax ay cx cy, p = .offset ax ay ∧
    r = .offset cx cy ∧ ax.natAbs ≤ 400 ∧ ay.natAbs ≤ 400 ∧ cx.natAbs ≤ 400 ∧ cy.natAbs ≤ 400 ∧ (ax - cx).natAbs ≤ 10 ∧
      (ay - cy).natAbs ≤ 10 := by
  cases p with
  | missing => simp [readingsAgree]
  | offset ax ay =>
    cases r with
    | missing => simp [readingsAgree]
    | offset cx cy =>
      simp only [readingsAgree, withinCapture, Bool.and_eq_true, decide_eq_true_eq, and_assoc]
      constructor
      · exact fun h => ⟨ax, ay, cx, cy, rfl, rfl, h⟩
      · rintro ⟨_, _, _, _, hp, hr, h⟩
        cases hp
        cases hr
        exact h

/-- The last two readings of a run agree (R162). -/
def Run.agrees (run : Run) (r : Reading) : Prop := ∃ ax ay cx cy, run.previous = some (.offset ax ay) ∧ r = .offset cx cy ∧
  ax.natAbs ≤ 400 ∧ ay.natAbs ≤ 400 ∧ cx.natAbs ≤ 400 ∧ cy.natAbs ≤ 400 ∧ (ax - cx).natAbs ≤ 10 ∧ (ay - cy).natAbs ≤ 10

theorem Run.agrees_iff (run : Run) (r : Reading) :
    (run.previous.map fun p => readingsAgree p r).getD false = true ↔ run.agrees r := by
  unfold Run.agrees
  cases run.previous with
  | none => simp
  | some p =>
    rw [Option.map_some, Option.getD_some, readingsAgree_iff]
    simp

theorem State.position_modHead (s : State) (h : Fin 4) (f : Head → Head) (e : Entry) : (s.modHead h f).position h e =
    ((s.basePosition e).1 + (f s.heads[h]).tracker.dx, (s.basePosition e).2 + (f s.heads[h]).tracker.dy) := by
  rw [State.position, State.modHead_at, if_pos rfl]
  rfl

theorem State.acquisitionReading_locks {s : State} {h : Fin 4} {e : Entry} {run : Run} {cx cy : Int}
    (hagree : run.agrees (.offset cx cy)) : s.acquisitionReading h e run (.offset cx cy) =
      (s.modHead h fun k => ((k.held (.offset cx cy)).inPhase .positioning).driven
        ((s.basePosition e).1 + cx, (s.basePosition e).2 + cy)).raise (.locked h) := by
  unfold State.acquisitionReading
  rw [if_pos ((run.agrees_iff _).mpr hagree), State.enterPositioning_eq, State.raise_modHead, State.modHead_modHead]
  have hposition : ((s.modHead h fun k => { k with tracker := k.tracker.hold (.offset cx cy) }).raise (.locked h)).position h e =
      ((s.basePosition e).1 + cx, (s.basePosition e).2 + cy) :=
    s.position_modHead h (·.held (.offset cx cy)) e
  rw [hposition]
  rfl

/-- Settles O47. -/
theorem acquisitionReadings : Obligations.AcquisitionReadings := by
  refine ⟨fun h s motion r hno => execStageCompletion_disregarded hno, fun h s e run motion r he hr hl ha =>
    ⟨fun cx cy hr' hagree => ?_, fun hno hmore => ?_, fun hno hlast => ?_⟩⟩
  all_goals
    show execStageCompletion h motion r s = _
    rw [execStageCompletion_acquiring he hr hl ha]
  · subst hr'
    rw [State.acquisitionReading_locks hagree, State.modHead_modHead]
    refine congrArg (fun t : State => Host.Outcome.next (t.raise (.locked h))) (State.modHead_of_eq ?_)
    simp only [Head.staged, Head.held, Tracker.hold, Head.inPhase, Head.driven, he]
    rfl
  · unfold State.acquisitionReading
    rw [if_neg (fun h => hno ((run.agrees_iff r).mp h)), if_pos (show run.taken + 1 < Config.runReadings from hmore),
      State.driveStage, State.modHead_modHead, State.modHead_modHead]
    rfl
  · unfold State.acquisitionReading
    rw [if_neg (fun h => hno ((run.agrees_iff r).mp h)),
      if_neg (show ¬ run.taken + 1 < Config.runReadings from Nat.not_lt.mpr hlast)]
    rfl

end Sys2Proof.Machine
end

section
/-! Readings of a LOCKED tracker, and what the writer is given (R64 to R68, R80, R151, R164 to R167). -/

namespace Sys2Proof.Machine

/-! ### Good readings -/

theorem Tracker.good_iff (t : Tracker) (r : Reading) : t.good r = true ↔ ∃ x y, r = .offset x y ∧ x.natAbs ≤ 400 ∧
    y.natAbs ≤ 400 ∧ (x - t.dx).natAbs ≤ 40 ∧ (y - t.dy).natAbs ≤ 40 := by
  cases r with
  | missing => simp [Tracker.good]
  | offset x y =>
    simp only [Tracker.good, withinCapture, Bool.and_eq_true, decide_eq_true_eq, and_assoc]
    constructor
    · exact fun h => ⟨x, y, rfl, h⟩
    · rintro ⟨_, _, hr, h⟩
      cases hr
      exact h

theorem Tracker.hold_offset {t : Tracker} (hl : t.locked = true) (hr : t.run = none) (x y : Int) :
    t.hold (.offset x y) = { t with dx := x, dy := y, errors := 0 } := by
  cases t
  subst hl
  subst hr
  rfl

/-! ### What is drawn -/

/-- A draw depends on the heads through the tracker of its own head alone. -/
theorem State.drawOf_heads (s : State) {v w : Vector Head 4} {h : Fin 4} (ht : v[h].tracker = w[h].tracker) (e : Entry) :
    ({ s with heads := v } : State).drawOf h e = ({ s with heads := w } : State).drawOf h e := by
  have hposition : ({ s with heads := v } : State).position h e = ({ s with heads := w } : State).position h e := by
    unfold State.position
    dsimp only
    rw [ht]
    rfl
  unfold State.drawOf
  dsimp only
  rw [hposition]
  cases e <;> rfl

theorem readBody_length (m : List Host.Cell) (blocks : List Nat) (n : Nat) : (readBody m blocks n).length = n := by
  simp [readBody]

theorem readBody_getElem {m : List Host.Cell} {blocks : List Nat} {n b block : Nat} (hb : b < (readBody m blocks n).length)
    (h : blocks[b / 65536]? = some block) : (readBody m blocks n)[b] = readByte m (block * 65536 + b % 65536) := by
  have ha := (bodyAddress_eq_some_iff blocks b _).mpr ⟨block, h, rfl⟩
  simp only [readBody, List.getElem_map, List.getElem_range, ha]

theorem pixelExposed_iff (w h : Nat) (body : List Byte) (i j : Nat) : pixelExposed w h body i j = true ↔
    i < w ∧ j < h ∧ (body.getD (j * ((w + 7) / 8) + i / 8) 0).getMsbD (i % 8) = true := by
  have hbit (b : Byte) : b.getMsbD (i % 8) = b.getLsbD (7 - i % 8) := by
    have hi : i % 8 < 8 := Nat.mod_lt _ (by decide)
    simp [BitVec.getMsbD, hi]
  rw [hbit]
  simp only [pixelExposed, Bool.and_eq_true, decide_eq_true_eq, and_assoc]
  rfl

/-- The extent of a pixel ends inside the drawn size. -/
theorem pixelExtent_le {k n : Nat} (scale : Nat) (h : k < n) : (k + 1) * scale / 4096 ≤ ceilDiv (n * scale) 4096 := by
  have hmul : (k + 1) * scale ≤ n * scale := Nat.mul_le_mul_right scale h
  unfold ceilDiv
  omega

/-! ### The phase of DRAWING -/

/-- A head goes to DRAWING with a tracker: the draw that it gives the writer. -/
theorem State.enterDrawing_modHead {s : State} {h : Fin 4} {e : Entry} (he : s.heads[h].inFlight = some ⟨e, .positioning⟩)
    {f : Head → Head} {t : Tracker} (hf : f s.heads[h].staged = { s.heads[h].staged with tracker := t }) :
    ((s.modHead h Head.staged).modHead h f).enterDrawing h e = { s with heads := s.heads.set h { s.heads[h] with
      tracker := t, inFlight := some ⟨e, .drawing⟩, stageLimit := none, awaited := none
      draw := State.drawOf { s with heads := s.heads.set h { s.heads[h] with tracker := t } } h e } } := by
  rw [State.enterDrawing_eq, State.modHead_modHead, State.modHead_modHead]
  refine State.modHead_of_eq ?_
  have hdraw : ((s.modHead h Head.staged).modHead h f).drawOf h e =
      State.drawOf { s with heads := s.heads.set h { s.heads[h] with tracker := t } } h e := by
    rw [State.modHead_modHead]
    refine s.drawOf_heads ?_ e
    simp only [Fin.getElem_fin, Vector.getElem_set_self]
    exact congrArg Head.tracker hf
  rw [hf, hdraw]
  simp only [Head.inPhase, Head.staged, he]
  rfl

theorem State.entryChange_state (s : State) (e : Entry) (f : Record → Record) (h : Fin 4) (F : Head → Head) (i : Indication) :
    (((s.modEntryRecord e f).modHead h F).raise i).heads[h].state = (F s.heads[h]).state :=
  congrArg Head.state (s.entryChange e f h F).2.2.1

/-- The state after a loss of lock (R166): the entry is returned and ended, the head's changes gathered into one. -/
def State.lockLost (s : State) (h : Fin 4) (e : Entry) : State :=
  let u := ((s.modEntryRecord e Record.returned).modHead h (Head.lockLost e)).raise (.locked h)
  if s.heads[h].state = .stopping then u.raise (.stopped h) else u

theorem State.lockLost_eq {s : State} {h : Fin 4} (e : Entry) (hl : s.heads[h].tracker.locked = true) :
    ((((s.modHead h Head.staged).trackerAcquire h).countHead h .registrationLosses).returnEntry h e).endEntry h =
      s.lockLost h e := by
  have hlocked : (s.modHead h Head.staged).heads[h].tracker.locked = true := by
    rw [State.modHead_at, if_pos rfl]
    exact hl
  rw [State.trackerAcquire_eq, if_pos hlocked]
  simp only [State.countHead, State.returnEntry, State.endEntry_eq, State.raise_modHead, State.raise_modEntryRecord,
    State.modEntryRecord_modHead, State.modHead_modHead]
  rw [State.entryChange_state]
  rfl

theorem State.lockLost_changes (s : State) (h : Fin 4) (e : Entry) :
    s.lockLost h e = { s with
      heads := (s.lockLost h e).heads, records := (s.lockLost h e).records, port := (s.lockLost h e).port } ∧
    (∀ g, g ≠ h → (s.lockLost h e).heads[g] = s.heads[g]) ∧ (s.lockLost h e).heads[h] = Head.lockLost e s.heads[h] ∧
    (s.lockLost h e).records = (s.modEntryRecord e Record.returned).records ∧
    (s.lockLost h e).port = { s.port with changes := s.port.changes ||| 1#21 <<< (4 * h.val + 2) |||
      (if s.heads[h].state = .stopping then 1#21 <<< (4 * h.val + 3) else 0) } := by
  obtain ⟨hstate, hothers, hhead, hrecords⟩ := s.entryChange e Record.returned h (Head.lockLost e)
  unfold State.lockLost
  dsimp only
  rw [or_ite_zero]
  generalize State.modHead _ h (Head.lockLost e) = u at *
  obtain ⟨hs, rs, rfl⟩ : ∃ hs rs, u = { s with heads := hs, records := rs } := ⟨_, _, hstate⟩
  by_cases hst : s.heads[h].state = .stopping
  · simp only [if_pos hst]
    exact ⟨rfl, hothers, hhead, hrecords, rfl⟩
  · simp only [if_neg hst]
    exact ⟨rfl, hothers, hhead, hrecords, rfl⟩

theorem State.positioningReading_eq {s : State} {h : Fin 4} (e : Entry) (r : Reading) :
    (s.modHead h Head.staged).positioningReading h e r =
      if s.heads[h].tracker.good r then
        ((s.modHead h Head.staged).modHead h fun k => { k with tracker := k.tracker.hold r }).enterDrawing h e
      else if s.heads[h].tracker.errors + 1 < 3 ∨ s.heads[h].tracker.holdLock then
        ((s.modHead h Head.staged).modHead h fun k =>
          { k with tracker := { k.tracker with errors := min (k.tracker.errors + 1) 3 } }).enterDrawing h e
      else ((((s.modHead h Head.staged).trackerAcquire h).countHead h .registrationLosses).returnEntry h e).endEntry h := by
  have htracker : (s.modHead h Head.staged).heads[h].tracker = s.heads[h].tracker := by
    rw [State.modHead_at, if_pos rfl]
    rfl
  unfold State.positioningReading
  rw [htracker]

/-- Settles O48. -/
theorem positioningReadings : Obligations.PositioningReadings := by
  refine ⟨fun h s e motion r he hl hrun hlimit ha => ⟨fun x y hr hgood => ?_, fun hno hfew => ?_, fun hno hmany hhold => ?_⟩,
    fun s h i n c part => ⟨rfl, ?_, fun key r m hk hr hm => ⟨readBody s.mem m.blocks (ceilDiv m.width 8 * m.height), ?_,
      readBody_length _ _ _, fun b block hb hblock => readBody_getElem hb hblock⟩⟩,
    fun x y w h scale body i j => ⟨?_, fun hi => ?_, fun hj => ?_⟩,
    fun x y wide top high j m text lines => ⟨rfl, fun hj => ?_, fun row hj => ?_⟩⟩
  · subst hr
    show execStageCompletion h motion _ s = _
    rw [execStageCompletion_positioning he hlimit ha, State.positioningReading_eq, if_pos ((Tracker.good_iff _ _).mpr hgood)]
    refine congrArg Host.Outcome.next (State.enterDrawing_modHead he ?_)
    rw [← Tracker.hold_offset hl hrun]
    rfl
  · show execStageCompletion h motion _ s = _
    rw [execStageCompletion_positioning he hlimit ha, State.positioningReading_eq,
      if_neg fun hg => hno ((Tracker.good_iff _ _).mp hg), if_pos (hfew.imp_left Nat.succ_lt_succ)]
    exact congrArg Host.Outcome.next (State.enterDrawing_modHead he rfl)
  · obtain ⟨hstate, hothers, hhead, hrecords, hport⟩ := s.lockLost_changes h e
    refine ⟨s.lockLost h e, ?_, hstate, hothers, ?_, fun hq => ?_, ?_, fun hcell => ?_, hport, fun i n c key he hkey => ?_⟩
    · show execStageCompletion h motion _ s = _
      rw [execStageCompletion_positioning he hlimit ha, State.positioningReading_eq,
        if_neg fun hg => hno ((Tracker.good_iff _ _).mp hg), if_neg (by rw [hhold]; simp; omega), State.lockLost_eq e hl]
    · rw [hhead]
      simp only [Head.lockLost, Head.ended, Head.unlocked, Tracker.acquired, Head.counted, Head.staged, hrun]
      rfl
    · rw [hhead, ← returnQueue_eq hq]
      rfl
    · rw [hhead]
      rfl
    · rw [hrecords, State.modEntryRecord_other hcell]
    · subst he
      rw [hrecords, State.modEntryRecord_cell hkey]
      exact List.map_congr_left fun x _ => x.returned_eq key
  · simp only [State.drawOf, Format.drawableHeight, Format.drawableWidth, Nat.one_mul]
    rfl
  · have himage : s.imageAt i n = some m := by rw [State.imageAt, State.recordAt, hk]; simp [hr, hm]
    simp only [State.drawOf, himage]
    rfl
  · unfold Draw.pixelArea
    simp only [pixelExposed_iff]
    rfl
  · have := pixelExtent_le scale hi
    dsimp only
    omega
  · have := pixelExtent_le scale hj
    dsimp only
    omega
  · simp only [Draw.characterBox, hj]
    rfl
  · simp only [Draw.characterBox, hj]
    rfl

end Sys2Proof.Machine
end

section
/-! Photocell reports: the end of a draw (R152, R153, R174 to R180), and TITLE and INDEX draws (R69, R81, R82). -/

namespace Sys2Proof.Machine

theorem State.modHead_congr {s : State} {h : Fin 4} {f g : Head → Head} (hfg : f s.heads[h] = g s.heads[h]) :
    s.modHead h f = s.modHead h g := (State.modHead_of_eq hfg).trans rfl

/-! ### Operations that leave a head's draw and the change bits alone -/

/-- A change of a head that neither reads its queue nor writes it. -/
def QueueBlind (f : Head → Head) : Prop := ∀ k q, f { k with queue := q } = { f k with queue := q }

/-- The operation changes no part of the head but its queue, and reads neither those parts nor the change bits. -/
structure PassesDraw (h : Fin 4) (C : State → State) : Prop where
  head : ∀ (s : State) (f : Head → Head), QueueBlind f → C (s.modHead h f) = (C s).modHead h f
  raised : ∀ (s : State) (i : Indication), C (s.raise i) = (C s).raise i

theorem PassesDraw.comp {h : Fin 4} {C D : State → State} (hD : PassesDraw h D) (hC : PassesDraw h C) :
    PassesDraw h fun s => D (C s) where
  head s f hf := (congrArg D (hC.head s f hf)).trans (hD.head _ f hf)
  raised s i := (congrArg D (hC.raised s i)).trans (hD.raised _ i)

/-- What such an operation leaves of the head. -/
theorem PassesDraw.leaves {h : Fin 4} {C : State → State} (hC : PassesDraw h C) (s : State) :
    (C s).heads[h] = { s.heads[h] with queue := (C s).heads[h].queue } := by
  have hself : s.modHead h (fun k => { s.heads[h] with queue := k.queue }) = s := by
    rw [State.modHead_of_eq (k := s.heads[h]) rfl]
    simp
  have hcommute := hC.head s (fun k => { s.heads[h] with queue := k.queue }) fun _ _ => rfl
  rw [hself] at hcommute
  have hat := congrArg (fun t : State => t.heads[h]) hcommute
  exact hat.trans (((C s).modHead_at h _ h).trans (if_pos rfl))

theorem State.raise_raise (s : State) (i j : Indication) : (s.raise i).raise j = (s.raise j).raise i := by
  unfold State.raise State.modPort
  dsimp only
  rw [BitVec.or_assoc, BitVec.or_comm (1#21 <<< indicationBit i), ← BitVec.or_assoc]

theorem passesDraw_modSlot (h : Fin 4) (i : Fin 12) (f : Slot → Slot) : PassesDraw h (·.modSlot i f) :=
  ⟨fun _ _ _ => rfl, fun _ _ => rfl⟩

theorem passesDraw_retry (h : Fin 4) (e : RetryEvent) : PassesDraw h (·.retry e) := ⟨fun _ _ _ => rfl, fun _ _ => rfl⟩

theorem passesDraw_raise (h : Fin 4) (j : Indication) : PassesDraw h (·.raise j) :=
  ⟨fun _ _ _ => rfl, fun s i => s.raise_raise i j⟩

theorem passesDraw_notices (h : Fin 4) (f : List Notice → List Notice) :
    PassesDraw h (·.modPort fun p => { p with notices := f p.notices }) := ⟨fun _ _ _ => rfl, fun _ _ => rfl⟩

theorem PassesDraw.ite {h : Fin 4} {C D : State → State} {p : State → Prop} [DecidablePred p]
    (hhead : ∀ s f, p (State.modHead s h f) ↔ p s) (hraised : ∀ s i, p (State.raise s i) ↔ p s) (hC : PassesDraw h C)
    (hD : PassesDraw h D) : PassesDraw h fun s => if p s then C s else D s where
  head s f hf := by
    simp only [hhead]
    split
    · exact hC.head s f hf
    · exact hD.head s f hf
  raised s i := by
    simp only [hraised]
    split
    · exact hC.raised s i
    · exact hD.raised s i

theorem passesDraw_putNotice (h : Fin 4) (n : Notice) : PassesDraw h (·.putNotice n) :=
  .ite (p := fun s => s.port.notices.length < Config.noticeCapacity) (fun _ _ => .rfl) (fun _ _ => .rfl)
    (.ite (p := fun s => s.port.notices = []) (fun _ _ => .rfl) (fun _ _ => .rfl)
      ((passesDraw_raise h .notice).comp (passesDraw_notices h fun _ => [n])) (passesDraw_notices h (· ++ [n])))
    (passesDraw_raise h .noticeOverflow)

theorem passesDraw_leaveTable (h : Fin 4) (i : Fin 12) : PassesDraw h (·.leaveTable i) := by
  have hput (n : Notice) := ((passesDraw_retry h (.slotFree i)).comp (passesDraw_modSlot h i fun _ => Slot.reset)).comp
    (passesDraw_putNotice h n)
  exact ⟨fun s f hf => (hput (s.closedNotice i)).head s f hf, fun s j => (hput (s.closedNotice i)).raised s j⟩

theorem passesDraw_completeIndex (h : Fin 4) (i : Fin 12) (n : Nat) : PassesDraw h (·.completeIndex i n) := by
  have hcell := passesDraw_modSlot h i fun t => { t with cells := t.cells.modify n fun c => { c with state := .indexDone } }
  have hleave := (passesDraw_leaveTable h i).comp hcell
  exact .ite (p := fun s => (s.modCell i n fun c => { c with state := .indexDone }).slots[i].cells.all
    (fun c => decide (c.state ≠ .indexPending)) = true) (fun _ _ => .rfl) (fun _ _ => .rfl) hleave hcell

/-! ### The judgment of a draw -/

/-- The DEGRADED flag changes at a setting and at a clearing of it alone, and never twice in a step (R177, R178). -/
theorem Dose.degraded_changes (d : Dose) (dev : Bool) :
    (d.degraded ≠ d.degradedMid dev ∨ d.degradedMid dev ≠ (d.step dev).degraded) ↔ (d.step dev).degraded ≠ d.degraded := by
  have hstep : (d.step dev).degraded = d.degradedMid dev ∨ (d.step dev).degraded =
      (d.degradedMid dev && decide (d.threshold ≤ if dev then d.deviations + 1 else d.deviations)) := by
    unfold Dose.step Dose.degradedMid
    dsimp only
    split
    · exact .inr rfl
    · exact .inl rfl
  unfold Dose.degradedMid at *
  rcases hstep with h | h <;> rw [h] <;> cases d.degraded <;> cases dev <;>
    cases decide (d.threshold ≤ d.deviations + 1) <;> cases decide (d.threshold ≤ d.deviations) <;> simp

/-- A head whose draw is judged (R175, R177). -/
def Head.judged (d : Dose) (dev : Bool) (k : Head) : Head :=
  { (if dev then k.counted .doseDeviations else k) with dose := d }

theorem Head.judged_queueBlind (d : Dose) (dev : Bool) : QueueBlind (Head.judged d dev) := by
  intro k q
  unfold Head.judged
  cases dev <;> rfl

theorem State.judgeDose_eq (s : State) (h : Fin 4) (m : Nat) : s.judgeDose h m =
    let d := s.heads[h].dose
    let t := s.modHead h (Head.judged (d.step (d.deviates m)) (d.deviates m))
    if (d.step (d.deviates m)).degraded = d.degraded then t else t.raise (.degraded h) := by
  unfold State.judgeDose
  simp only [Dose.degraded_changes]
  have hhead : (if s.heads[h].dose.deviates m then
      (s.modHead h fun k => { k with dose := k.dose.step (s.heads[h].dose.deviates m) }).countHead h .doseDeviations
      else s.modHead h fun k => { k with dose := k.dose.step (s.heads[h].dose.deviates m) }) =
      s.modHead h (Head.judged (s.heads[h].dose.step (s.heads[h].dose.deviates m)) (s.heads[h].dose.deviates m)) := by
    unfold State.countHead Head.judged
    cases s.heads[h].dose.deviates m with
    | false =>
      rw [if_neg Bool.false_ne_true]
      exact State.modHead_congr rfl
    | true =>
      rw [if_pos rfl, State.modHead_modHead]
      exact State.modHead_congr rfl
  rw [hhead]
  split <;> simp_all

/-! ### The end of a draw -/

/-- The bits that the end of a draw raises (R145, R188). -/
def Head.drawRaises (k : Head) (h : Fin 4) (d : Dose) : BitVec 21 :=
  (if d.degraded = k.dose.degraded then 0 else 1#21 <<< (4 * h.val + 1)) |||
    (if k.state = .stopping then 1#21 <<< (4 * h.val + 3) else 0)

/-- The head after the end of a draw: judged, counted, without an entry in flight. -/
def Head.drawEnded (d : Dose) (dev : Bool) (c : HeadCounter) (k : Head) : Head :=
  { (if dev then k.counted .doseDeviations else k).counted c with
    dose := d, inFlight := none, state := if k.state = .stopping then .ready else k.state }

theorem Head.ended_judged (d : Dose) (dev : Bool) (c : HeadCounter) (k : Head) :
    ((k.judged d dev).counted c).ended = k.drawEnded d dev c := by
  unfold Head.judged Head.drawEnded
  cases dev <;> rfl

theorem zero_or_bits {n : Nat} (b : BitVec n) : (0 : BitVec n) ||| b = b := BitVec.zero_or

theorem State.raise_endEntry (s : State) (h : Fin 4) (i : Indication) : (s.raise i).endEntry h = (s.endEntry h).raise i := by
  rw [State.endEntry_eq, State.endEntry_eq, State.raise_modHead, show (s.raise i).heads = s.heads from rfl]
  split
  · exact State.raise_raise _ _ _
  · rfl

/-- The end of an entry whose head was judged and counted. -/
theorem State.endEntry_judged {v : State} {h : Fin 4} {k : Head} (hstate : v.heads[h].state = k.state) (d : Dose) (dev : Bool)
    (c : HeadCounter) : ((v.modHead h (Head.judged d dev)).countHead h c).endEntry h = { v with
      heads := v.heads.set h (v.heads[h].drawEnded d dev c)
      port := { v.port with changes := v.port.changes |||
        (if k.state = .stopping then 1#21 <<< (4 * h.val + 3) else 0) } } := by
  have hcounted : (v.modHead h (Head.judged d dev)).countHead h c = v.modHead h fun k => (k.judged d dev).counted c :=
    State.modHead_modHead v h _ _
  have hsame : (v.modHead h fun k => (k.judged d dev).counted c).heads[h].state = k.state := by
    rw [State.modHead_at, if_pos rfl, ← hstate]
    unfold Head.judged
    cases dev <;> rfl
  rw [hcounted, State.endEntry_eq, hsame, State.modHead_modHead, or_ite_zero,
    State.modHead_of_eq (Head.ended_judged d dev c v.heads[h])]
  split <;> rfl

theorem State.judgeDose_dose (s : State) (h : Fin 4) (m : Nat) :
    (s.judgeDose h m).heads[h].dose = s.heads[h].dose.step (s.heads[h].dose.deviates m) := by
  have hmod (d : Dose) (dev : Bool) : (s.modHead h (Head.judged d dev)).heads[h].dose = d := by
    rw [State.modHead_at, if_pos rfl]
    rfl
  rw [State.judgeDose_eq]
  dsimp only
  split
  · exact hmod _ _
  · exact hmod _ _

/-- The whole state after the end of a draw whose completion, but for its count, is the operation `C`. -/
theorem State.drawEnds_eq {h : Fin 4} {C : State → State} (hC : PassesDraw h C) {s : State} {e : Entry} {m : Nat}
    {c : HeadCounter} (hcomplete : ∀ u : State, u.complete h e (s.heads[h].dose.deviates m) = (C u).countHead h c) :
    s.drawEnds h e m =
      let d := s.heads[h].dose.step (s.heads[h].dose.deviates m)
      { C s with
        heads := (C s).heads.set h ((C s).heads[h].drawEnded d (s.heads[h].dose.deviates m) c)
        port := { (C s).port with changes := (C s).port.changes ||| s.heads[h].drawRaises h d }
        retryEvents := (C s).retryEvents ++
          if s.heads[h].dose.degraded = true ∧ d.degraded = false then [.degradedCleared h] else [] } := by
  have hleaves : (C s).heads[h].state = s.heads[h].state := by rw [hC.leaves s]
  have hend : ((s.judgeDose h m).complete h e (s.heads[h].dose.deviates m)).endEntry h = { C s with
      heads := (C s).heads.set h
        ((C s).heads[h].drawEnded (s.heads[h].dose.step (s.heads[h].dose.deviates m)) (s.heads[h].dose.deviates m) c)
      port := { (C s).port with
        changes := (C s).port.changes ||| s.heads[h].drawRaises h (s.heads[h].dose.step (s.heads[h].dose.deviates m)) } } := by
    rw [hcomplete, State.judgeDose_eq, Head.drawRaises]
    dsimp only
    split
    · rw [hC.head _ _ (Head.judged_queueBlind _ _), State.endEntry_judged hleaves, zero_or_bits]
    · rw [hC.raised, hC.head _ _ (Head.judged_queueBlind _ _)]
      show (State.raise (((C s).modHead h (Head.judged _ _)).countHead h c) (.degraded h)).endEntry h = _
      rw [State.raise_endEntry, State.endEntry_judged hleaves, BitVec.or_comm (1#21 <<< _), ← BitVec.or_assoc]
      rfl
  unfold State.drawEnds
  dsimp only
  rw [hend, State.judgeDose_dose]
  cases s.heads[h].dose.degraded <;> cases (s.heads[h].dose.step (s.heads[h].dose.deviates m)).degraded <;>
    simp [State.retry]

/-! ### Photocell reports -/

theorem execPhotocellReport_disregarded {h : Fin 4} {s : State} (hno : ∀ e, s.heads[h].inFlight ≠ some ⟨e, .drawing⟩)
    (m : BitVec 16) : execPhotocellReport h m s = .next s := by
  unfold execPhotocellReport
  split
  · rfl
  · next e he =>
    refine if_neg fun hp => hno e.entry ?_
    rw [he, ← hp]

theorem execPhotocellReport_drawing {h : Fin 4} {s : State} {e : Entry} (he : s.heads[h].inFlight = some ⟨e, .drawing⟩)
    (m : BitVec 16) : execPhotocellReport h m s =
      let t := s.modHead h fun k => { k with dose := { k.dose with last := m.toNat } }
      if m = 0 then .next (t.enterFault h .lampFailure) else .next (t.drawEnds h e m.toNat) := by
  unfold execPhotocellReport
  rw [he]
  exact if_pos rfl

/-- A report above 0 of the entry in DRAWING, whose completion, but for its count, is the operation `C`. -/
theorem execPhotocellReport_ends {h : Fin 4} {C : State → State} (hC : PassesDraw h C) {s : State} {e : Entry}
    (he : s.heads[h].inFlight = some ⟨e, .drawing⟩) {m : BitVec 16} (hm : m ≠ 0) {c : HeadCounter}
    (hcomplete : ∀ u : State, u.complete h e (s.heads[h].dose.deviates m.toNat) = (C u).countHead h c) :
    execPhotocellReport h m s =
      let dev := s.heads[h].dose.deviates m.toNat
      let d := ({ s.heads[h].dose with last := m.toNat } : Dose).step dev
      .next { C s with
        heads := (C s).heads.set h ((C s).heads[h].drawEnded d dev c)
        port := { (C s).port with changes := (C s).port.changes ||| s.heads[h].drawRaises h d }
        retryEvents := (C s).retryEvents ++
          if s.heads[h].dose.degraded = true ∧ d.degraded = false then [.degradedCleared h] else [] } := by
  have hblind : QueueBlind fun k => { k with dose := { k.dose with last := m.toNat } } := fun _ _ => rfl
  have hhead : (s.modHead h fun k => { k with dose := { k.dose with last := m.toNat } }).heads[h] =
      { s.heads[h] with dose := { s.heads[h].dose with last := m.toNat } } := (s.modHead_at h _ h).trans (if_pos rfl)
  have hends := State.drawEnds_eq hC (s := s.modHead h fun k => { k with dose := { k.dose with last := m.toNat } }) (e := e)
    (m := m.toNat) (c := c) (by rw [hhead]; exact hcomplete)
  have hended (k : Head) (x d : Dose) (dev : Bool) :
      ({ k with dose := x } : Head).drawEnded d dev c = k.drawEnded d dev c := by
    cases dev <;> rfl
  rw [execPhotocellReport_drawing he]
  dsimp only
  rw [if_neg hm, hends, hhead, hC.head s _ hblind]
  refine congrArg Host.Outcome.next ?_
  dsimp only
  rw [State.modHead_at, if_pos rfl, hended]
  simp only [State.modHead, Fin.getElem_fin, Vector.set_set]
  rfl

/-! ### TITLE and INDEX draws -/

theorem State.putNotice_modSlot (s : State) (i : Fin 12) (f : Slot → Slot) (n : Notice) :
    (s.modSlot i f).putNotice n = (s.putNotice n).modSlot i f := by
  unfold State.putNotice
  rw [show (s.modSlot i f).port = s.port from rfl]
  split
  · split <;> rfl
  · rfl

theorem indexDone_all_iff (cells : List Cell) (n : Nat) :
    (cells.modify n fun x => { x with state := .indexDone }).all (fun c => decide (c.state ≠ .indexPending)) = true ↔
      ∀ j x, cells[j]? = some x → j ≠ n → x.state ≠ .indexPending := by
  simp only [List.all_eq_true, decide_eq_true_eq]
  constructor
  · intro h j x hx hj
    refine h x (List.mem_of_getElem? (i := j) ?_)
    simp [hx, Ne.symm hj]
  · intro h c hc
    obtain ⟨j, hj⟩ := List.mem_iff_getElem?.mp hc
    rw [List.getElem?_modify] at hj
    obtain ⟨x, hx, rfl⟩ := Option.map_eq_some_iff.mp hj
    by_cases hn : n = j
    · simp [hn]
    · rw [if_neg hn]
      exact h j x hx (Ne.symm hn)

/-- The notice of a fiche whose cell `n` is the last INDEX-DONE one. -/
def State.indexDoneNotice (s : State) (i : Fin 12) (n : Nat) : Notice where
  fiche := s.slots[i].fiche
  head := headOf i
  sheet := s.slots[i].sheet
  redraw := s.slots[i].redraw
  counts := stateCounts (s.slots[i].cells.modify n fun c => { c with state := .indexDone })

theorem State.closedNotice_indexDone (s : State) (i : Fin 12) (n : Nat) :
    (s.modCell i n fun c => { c with state := .indexDone }).closedNotice i = s.indexDoneNotice i n := by
  have hslot : (s.modCell i n fun c => { c with state := .indexDone }).slots[i] =
      { s.slots[i] with cells := s.slots[i].cells.modify n fun c => { c with state := .indexDone } } :=
    (State.modSlot_at ..).trans (if_pos rfl)
  unfold State.closedNotice
  rw [hslot]
  rfl

/-- A notice changes the port alone. -/
theorem State.putNotice_put (s : State) (n : Notice) : ∃ p, s.putNotice n = { s with port := p } := by
  unfold State.putNotice
  split
  · split <;> exact ⟨_, rfl⟩
  · exact ⟨_, rfl⟩

/-- The last index cell on film: the fiche leaves the table (R82). -/
theorem State.completeIndex_last {s : State} {i : Fin 12} {n : Nat}
    (hlast : ∀ j x, s.slots[i].cells[j]? = some x → j ≠ n → x.state ≠ .indexPending) :
    s.completeIndex i n =
      ((s.putNotice (s.indexDoneNotice i n)).modSlot i fun _ => Slot.reset).retry (.slotFree i) := by
  have hslot : (s.modCell i n fun c => { c with state := .indexDone }).slots[i] =
      { s.slots[i] with cells := s.slots[i].cells.modify n fun c => { c with state := .indexDone } } :=
    (State.modSlot_at ..).trans (if_pos rfl)
  unfold State.completeIndex
  dsimp only
  rw [if_pos (by rw [hslot]; exact (indexDone_all_iff _ n).mpr hlast), State.leaveTable, State.closedNotice_indexDone,
    State.modCell, State.putNotice_modSlot, State.modSlot_modSlot]

theorem State.completeIndex_more {s : State} {i : Fin 12} {n : Nat}
    (hmore : ¬ ∀ j x, s.slots[i].cells[j]? = some x → j ≠ n → x.state ≠ .indexPending) :
    s.completeIndex i n = s.modCell i n fun c => { c with state := .indexDone } := by
  have hslot : (s.modCell i n fun c => { c with state := .indexDone }).slots[i] =
      { s.slots[i] with cells := s.slots[i].cells.modify n fun c => { c with state := .indexDone } } :=
    (State.modSlot_at ..).trans (if_pos rfl)
  unfold State.completeIndex
  dsimp only
  rw [if_neg fun hall => hmore ((indexDone_all_iff _ n).mp (by rwa [hslot] at hall))]

/-- Settles O49. -/
theorem titleAndIndexDraws : Obligations.TitleAndIndexDraws := by
  refine ⟨fun h m s => ⟨fun hno => execPhotocellReport_disregarded hno m, fun e he hm => ?_⟩, fun h m s hm =>
    ⟨fun i he => ?_, fun i n part he => ⟨fun hmore => ?_, fun hlast => ?_⟩⟩⟩
  · subst hm
    exact (execPhotocellReport_drawing he 0).trans (if_pos rfl)
  · exact execPhotocellReport_ends (passesDraw_modSlot h i fun t => { t with title := true }) he hm fun _ => rfl
  all_goals
    have hends := execPhotocellReport_ends (passesDraw_completeIndex h i n) he hm (c := .indexExposures) fun _ => rfl
  · dsimp only at hends
    rw [State.completeIndex_more hmore] at hends
    exact hends
  · dsimp only at hends
    obtain ⟨p, hp⟩ := s.putNotice_put (s.indexDoneNotice i n)
    rw [State.completeIndex_last hlast, hp] at hends
    rw [show State.reset.slots[i] = Slot.reset by simp [State.reset]]
    change execPhotocellReport h m s = .next { s.putNotice (s.indexDoneNotice i n) with
      slots := s.slots.set i Slot.reset
      heads := s.heads.set h (s.heads[h].drawEnded _ _ .indexExposures)
      port := { (s.putNotice (s.indexDoneNotice i n)).port with
        changes := (s.putNotice (s.indexDoneNotice i n)).port.changes ||| s.heads[h].drawRaises h _ }
      retryEvents := s.retryEvents ++ [.slotFree i] ++ _ }
    rw [hp]
    exact hends

end Sys2Proof.Machine
end

section
/-! Photocell reports of CELL draws (R22 to R24, R132, R153) and placement notices (R125). -/

namespace Sys2Proof.Machine

/-! ### Operations that leave a head's draw alone, continued -/

/-- An operation that depends on a part no change of a head or of the change bits reaches. -/
theorem PassesDraw.reads {α : Type} {h : Fin 4} {D : α → State → State} {p : State → α}
    (hhead : ∀ s f, p (State.modHead s h f) = p s) (hraised : ∀ s i, p (State.raise s i) = p s)
    (hD : ∀ x, PassesDraw h (D x)) : PassesDraw h fun s => D (p s) s where
  head s f hf := (congrArg (fun x => D x (s.modHead h f)) (hhead s f)).trans ((hD (p s)).head s f hf)
  raised s i := (congrArg (fun x => D x (s.raise i)) (hraised s i)).trans ((hD (p s)).raised s i)

theorem passesDraw_id (h : Fin 4) : PassesDraw h id := ⟨fun _ _ _ => rfl, fun _ _ => rfl⟩

theorem passesDraw_updateRecord (h : Fin 4) (k : Key) (f : Record → Record) : PassesDraw h (·.updateRecord k f) :=
  ⟨fun _ _ _ => rfl, fun _ _ => rfl⟩

theorem passesDraw_countLink (h : Fin 4) (l : Fin 8) (c : LinkCounter) : PassesDraw h (·.countLink l c) :=
  ⟨fun _ _ _ => rfl, fun _ _ => rfl⟩

theorem passesDraw_sendFrame (h : Fin 4) (l : Fin 8) (f : OutFrame) : PassesDraw h (·.sendFrame l f) :=
  ⟨fun _ _ _ => rfl, fun _ _ => rfl⟩

/-- The hold's transition: HOLD's change bit over new links. -/
theorem passesDraw_holdTurn (h : Fin 4) (asserted : Bool) (f : Vector Link 8 → Nat → Vector Link 8) : PassesDraw h fun s =>
    ({ s with holdAsserted := asserted, links := f s.links s.holdQuantum } : State).raise .hold :=
  (passesDraw_raise h .hold).comp (C := fun s => { s with holdAsserted := asserted, links := f s.links s.holdQuantum })
    ⟨fun _ _ _ => rfl, fun _ _ => rfl⟩

theorem passesDraw_assertHold (h : Fin 4) : PassesDraw h State.assertHold := by
  rw [show State.assertHold = _ from funext State.assertHold_eq]
  exact passesDraw_holdTurn h true fun links q => Vector.ofFn fun l => links[l].holdSent q

theorem passesDraw_clearHold (h : Fin 4) : PassesDraw h State.clearHold := by
  rw [show State.clearHold = _ from funext State.clearHold_eq]
  exact passesDraw_holdTurn h false fun links _ => Vector.ofFn fun l => links[l].holdCleared

theorem passesDraw_judgeHold (h : Fin 4) : PassesDraw h State.judgeHold :=
  .ite (p := fun s => (!s.holdAsserted && decide (Config.holdHighMark ≤ s.used.length)) = true) (fun _ _ => .rfl)
    (fun _ _ => .rfl) (passesDraw_assertHold h)
    (.ite (p := fun s => (s.holdAsserted && decide (s.used.length ≤ Config.holdLowMark)) = true) (fun _ _ => .rfl)
      (fun _ _ => .rfl) (passesDraw_clearHold h) (passesDraw_id h))

theorem passesDraw_release (h : Fin 4) (blocks : List Nat) : PassesDraw h (·.release blocks) :=
  (passesDraw_judgeHold h).comp (C := fun s => { s with used := s.used.filter fun b => !blocks.contains b })
    ⟨fun _ _ _ => rfl, fun _ _ => rfl⟩

theorem passesDraw_placementNotice (h : Fin 4) (n : PlacementNotice) : PassesDraw h (·.placementNotice n) :=
  .reads (p := fun s => s.admission[n.source.entry]) (fun _ _ => rfl) (fun _ _ => rfl) (D := fun e s =>
    if e.enabled = false ∨ e.generation ≠ n.source.generation then (s.countLink e.link .orphanNotices).raise .orphan
    else if s.links[e.link].active = false then s.countLink e.link .noticesLost
    else (s.sendFrame e.link (.placed n.placed)).countLink e.link .placedSent) fun e =>
    .ite (p := fun _ => e.enabled = false ∨ e.generation ≠ n.source.generation) (fun _ _ => .rfl) (fun _ _ => .rfl)
      ((passesDraw_raise h .orphan).comp (passesDraw_countLink h e.link .orphanNotices))
      (.ite (p := fun s => s.links[e.link].active = false) (fun _ _ => .rfl) (fun _ _ => .rfl)
        (passesDraw_countLink h e.link .noticesLost)
        ((passesDraw_countLink h e.link .placedSent).comp (passesDraw_sendFrame h e.link (.placed n.placed))))

theorem passesDraw_supersedeCell (h : Fin 4) (p : Place) : PassesDraw h (·.supersedeCell p) :=
  .reads (p := fun s => s.liveSlotOfPlace p) (fun _ _ => rfl) (fun _ _ => rfl) (D := fun live s => match live with
    | some i => s.modCell i p.cell fun c => { c with state := .superseded }
    | none => s) fun live => by
    cases live with
    | none => exact passesDraw_id h
    | some i => exact passesDraw_modSlot h i _

theorem QueueBlind.queue {f : Head → Head} (hf : QueueBlind f) (k : Head) :
    (f k).queue = k.queue := by
  have h := congrArg Head.queue (hf k k.queue)
  exact h

theorem passesDraw_queue (h j : Fin 4) (g : List Entry → List Entry) :
    PassesDraw h (·.modHead j fun k => { k with queue := g k.queue }) := by
  refine ⟨fun s f hf => ?_, fun _ _ => rfl⟩
  by_cases hj : j = h
  · subst hj
    rw [State.modHead_modHead, State.modHead_modHead]
    refine State.modHead_congr ?_
    have hq := congrArg (fun q => { f s.heads[j] with queue := g q }) (hf.queue s.heads[j])
    exact hq.trans (hf s.heads[j] (g s.heads[j].queue)).symm
  · have hne : (h : ℕ) ≠ j := fun he => hj (Fin.ext he.symm)
    unfold State.modHead
    simp only [Fin.getElem_fin, Vector.getElem_set_ne _ _ hne, Vector.getElem_set_ne _ _ hne.symm]
    rw [Vector.set_comm _ _ hne]

theorem passesDraw_indexingTest (h : Fin 4) (i : Fin 12) : PassesDraw h (·.indexingTest i) := by
  rw [show (fun s : State => s.indexingTest i) = _ from funext fun s => s.indexingTest_eq i]
  refine .ite (fun _ _ => .rfl) (fun _ _ => .rfl) (.reads (p := fun s => s.slotFormat i) (D := fun fmt s =>
    (s.modSlot i fun t => { t with index := some (buildIndex t.cells), state := .indexing }).modHead (headOf i)
      fun k => { k with queue := (indexQueueEntries fmt i).foldl joinQueue k.queue }) (fun _ _ => rfl) (fun _ _ => rfl)
    fun fmt => (passesDraw_queue h (headOf i) fun q => (indexQueueEntries fmt i).foldl joinQueue q).comp (passesDraw_modSlot h i _)) (passesDraw_id h)

/-! ### The end of a record's exposure -/

/-- The placement notice of an exposure on the reserved place `v` of a slot of format `fmt` (R24). -/
def Record.exposureNotice (r : Record) (v : Reserved) (fmt : Format) (k : Key) (dose retake : Bool) : PlacementNotice where
  source := r.source
  key := k
  fiche := v.place.fiche
  grid := fmt.gridRef v.place.cell
  dose := dose
  retake := retake

theorem State.finishRecord_exposing {s : State} {k : Key} {r : Record} {v : Reserved} (hr : s.findRecord k = some r)
    (hv : r.reserved = some v) (hst : r.state = .exposing) (dose : Bool) : s.finishRecord k dose =
      ((s.updateRecord k (·.firstExposed v.place dose)).release (blocksOf r.image)).placementNotice
        (r.exposureNotice v (s.slotFormat v.slot) k dose false) := by
  unfold State.finishRecord
  rw [hr]
  dsimp only
  rw [hv]
  dsimp only
  rw [hst]
  rfl

/-- The old current location's cell is superseded, where there is one. -/
def State.supersedeOld (s : State) (old : Option Location) : State := old.elim s fun l => s.supersedeCell l.place

theorem State.finishRecord_retakeExposing {s : State} {k : Key} {r : Record} {v : Reserved} (hr : s.findRecord k = some r)
    (hv : r.reserved = some v) (hst : r.state = .retakeExposing) (dose : Bool) : s.finishRecord k dose =
      (((s.supersedeOld r.current).updateRecord k (·.retakeExposed v.place dose)).release (blocksOf r.image)).placementNotice
        (r.exposureNotice v (s.slotFormat v.slot) k dose true) := by
  unfold State.finishRecord State.supersedeOld
  rw [hr]
  dsimp only
  rw [hv]
  dsimp only
  rw [hst]
  cases r.current <;> rfl

theorem State.finishRecord_skipped {s : State} {k : Key} (h : ∀ r v, s.findRecord k = some r → r.reserved = some v →
    r.state ≠ .exposing ∧ r.state ≠ .retakeExposing) (dose : Bool) : s.finishRecord k dose = s := by
  unfold State.finishRecord
  split
  · rfl
  · next r hr =>
    split
    · rfl
    · next v hv =>
      obtain ⟨hfirst, hretake⟩ := h r v hr hv
      dsimp only
      split
      · next hst => exact absurd hst hfirst
      · next hst => exact absurd hst hretake
      · rfl

theorem passesDraw_supersedeOld (h : Fin 4) (old : Option Location) : PassesDraw h (·.supersedeOld old) := by
  cases old with
  | none => exact passesDraw_id h
  | some l => exact passesDraw_supersedeCell h l.place

/-- What the end of an exposure does once the record, its place and its grid reference are read. -/
theorem passesDraw_finish (h : Fin 4) (old : Option Location) (k : Key) (f : Record → Record) (blocks : List Nat)
    (n : PlacementNotice) : PassesDraw h fun s =>
      (((s.supersedeOld old).updateRecord k f).release blocks).placementNotice n :=
  (passesDraw_placementNotice h n).comp ((passesDraw_release h blocks).comp
    ((passesDraw_updateRecord h k f).comp (passesDraw_supersedeOld h old)))

/-- The end of an exposure reads the record and the slot's format alone. -/
theorem State.finishRecord_local (h : Fin 4) (s : State) (k : Key) (dose : Bool) : ∃ C, PassesDraw h C ∧
    ∀ t : State, t.findRecord k = s.findRecord k → t.slotFormat = s.slotFormat → t.finishRecord k dose = C t := by
  by_cases hskip : ∀ r v, s.findRecord k = some r → r.reserved = some v → r.state ≠ .exposing ∧ r.state ≠ .retakeExposing
  · exact ⟨id, passesDraw_id h, fun t ht _ => State.finishRecord_skipped (by rwa [ht]) dose⟩
  · push Not at hskip
    obtain ⟨r, v, hr, hv, hst⟩ := hskip
    by_cases hfirst : r.state = .exposing
    · refine ⟨_, passesDraw_finish h none k (·.firstExposed v.place dose) (blocksOf r.image)
        (r.exposureNotice v (s.slotFormat v.slot) k dose false), fun t ht hfmt => ?_⟩
      rw [State.finishRecord_exposing (ht.trans hr) hv hfirst, hfmt]
      rfl
    · refine ⟨_, passesDraw_finish h r.current k (·.retakeExposed v.place dose) (blocksOf r.image)
        (r.exposureNotice v (s.slotFormat v.slot) k dose true), fun t ht hfmt => ?_⟩
      rw [State.finishRecord_retakeExposing (ht.trans hr) hv (hst hfirst), hfmt]

theorem passesDraw_finishRecord (h : Fin 4) (k : Key) (dose : Bool) : PassesDraw h (·.finishRecord k dose) := by
  constructor <;> intro s
  · intro f hf
    obtain ⟨C, hC, hlocal⟩ := s.finishRecord_local h k dose
    show (s.modHead h f).finishRecord k dose = (s.finishRecord k dose).modHead h f
    rw [hlocal s rfl rfl, hlocal (s.modHead h f) rfl rfl, hC.head s f hf]
  · intro i
    obtain ⟨C, hC, hlocal⟩ := s.finishRecord_local h k dose
    show (s.raise i).finishRecord k dose = (s.finishRecord k dose).raise i
    rw [hlocal s rfl rfl, hlocal (s.raise i) rfl rfl, hC.raised s i]

theorem passesDraw_completeCell (h : Fin 4) (i : Fin 12) (n : Nat) (dose : Bool) :
    PassesDraw h (·.completeCell i n dose) := by
  have hcell := passesDraw_modSlot h i fun t =>
    { t with cells := t.cells.modify n fun c => { c with state := .exposed, dose := dose } }
  refine .reads (p := fun s => s.keyAt i n) (fun _ _ => rfl) (fun _ _ => rfl) (D := fun key s => match key with
    | some k => ((s.modCell i n fun c => { c with state := .exposed, dose := dose }).finishRecord k dose).indexingTest i
    | none => (s.modCell i n fun c => { c with state := .exposed, dose := dose }).indexingTest i) fun key => ?_
  cases key with
  | none => exact (passesDraw_indexingTest h i).comp hcell
  | some k => exact (passesDraw_indexingTest h i).comp ((passesDraw_finishRecord h k dose).comp hcell)

/-! ### Placement notices and the settled obligation -/

theorem State.placementNotice_orphan {s : State} {n : PlacementNotice}
    (h : s.admission[n.source.entry].enabled = false ∨ s.admission[n.source.entry].generation ≠ n.source.generation) :
    s.placementNotice n = (s.countLink s.admission[n.source.entry].link .orphanNotices).raise .orphan := if_pos h

theorem State.placementNotice_enabled {s : State} {n : PlacementNotice} (he : s.admission[n.source.entry].enabled = true)
    (hg : s.admission[n.source.entry].generation = n.source.generation) : s.placementNotice n =
      let l := s.admission[n.source.entry].link
      if s.links[l].active = false then s.countLink l .noticesLost
      else (s.sendFrame l (.placed n.placed)).countLink l .placedSent := by
  refine if_neg ?_
  rw [he, hg]
  exact fun h => h.elim nofun fun h => h rfl

theorem State.modCell_slot (s : State) (i : Fin 12) (n : Nat) (f : Cell → Cell) (j : Fin 12) :
    ∃ cells, (s.modCell i n f).slots[j] = { s.slots[j] with cells := cells } := by
  unfold State.modCell
  rw [State.modSlot_at]
  split
  · next hj =>
    subst hj
    exact ⟨_, rfl⟩
  · exact ⟨_, rfl⟩

theorem State.liveSlotOfPlace_modCell (s : State) (i : Fin 12) (n : Nat) (f : Cell → Cell) (p : Place) :
    (s.modCell i n f).liveSlotOfPlace p = s.liveSlotOfPlace p := by
  have hslot (j : Fin 12) : (s.modCell i n f).slots[j].state = s.slots[j].state ∧
      (s.modCell i n f).slots[j].sheet = s.slots[j].sheet ∧ (s.modCell i n f).slots[j].fiche = s.slots[j].fiche := by
    obtain ⟨cells, h⟩ := s.modCell_slot i n f j
    rw [h]
    exact ⟨rfl, rfl, rfl⟩
  unfold State.liveSlotOfPlace State.slotOfPlace
  simp only [hslot]

theorem State.slotFormat_modCell (s : State) (i : Fin 12) (n : Nat) (f : Cell → Cell) (j : Fin 12) :
    (s.modCell i n f).slotFormat j = s.slotFormat j := by
  obtain ⟨cells, h⟩ := s.modCell_slot i n f j
  have hformat := congrArg (fun t : Slot => s.formatAt t.format) h
  exact hformat

/-- The state once the leading cell is EXPOSED (R153). -/
def State.cellExposed (s : State) (i : Fin 12) (n : Nat) (dose : Bool) : State :=
  s.modCell i n fun c => { c with state := .exposed, dose := dose }

theorem State.slotFormat_cellExposed (s : State) (i : Fin 12) (n : Nat) (dose : Bool) (j : Fin 12) :
    (s.cellExposed i n dose).slotFormat j = s.slotFormat j := s.slotFormat_modCell i n _ j

theorem State.liveSlotOfPlace_cellExposed (s : State) (i : Fin 12) (n : Nat) (dose : Bool) (p : Place) :
    (s.cellExposed i n dose).liveSlotOfPlace p = s.liveSlotOfPlace p := s.liveSlotOfPlace_modCell i n _ p

theorem State.completeCell_exposing {s : State} {i : Fin 12} {n : Nat} {k : Key} {r : Record} {v : Reserved}
    (hk : s.keyAt i n = some k) (hr : s.findRecord k = some r) (hv : r.reserved = some v) (hst : r.state = .exposing)
    (dose : Bool) : s.completeCell i n dose =
      ((((s.cellExposed i n dose).updateRecord k (·.firstExposed v.place dose)).release (blocksOf r.image)).placementNotice
        (r.exposureNotice v (s.slotFormat v.slot) k dose false)).indexingTest i := by
  unfold State.completeCell
  rw [hk]
  show ((s.cellExposed i n dose).finishRecord k dose).indexingTest i = _
  rw [State.finishRecord_exposing (s := s.cellExposed i n dose) hr hv hst, s.slotFormat_cellExposed]

theorem State.completeCell_retakeExposing {s : State} {i : Fin 12} {n : Nat} {k : Key} {r : Record} {v : Reserved}
    (hk : s.keyAt i n = some k) (hr : s.findRecord k = some r) (hv : r.reserved = some v) (hst : r.state = .retakeExposing)
    (dose : Bool) : s.completeCell i n dose =
      (((((s.cellExposed i n dose).supersedeOld r.current).updateRecord k (·.retakeExposed v.place dose)).release
        (blocksOf r.image)).placementNotice (r.exposureNotice v (s.slotFormat v.slot) k dose true)).indexingTest i := by
  unfold State.completeCell
  rw [hk]
  show ((s.cellExposed i n dose).finishRecord k dose).indexingTest i = _
  rw [State.finishRecord_retakeExposing (s := s.cellExposed i n dose) hr hv hst, s.slotFormat_cellExposed]

theorem State.supersedeCell_none {s : State} {p : Place} (h : s.liveSlotOfPlace p = none) : s.supersedeCell p = s := by
  unfold State.supersedeCell
  rw [h]

theorem State.supersedeCell_some {s : State} {p : Place} {j : Fin 12} (h : s.liveSlotOfPlace p = some j) :
    s.supersedeCell p = s.modCell j p.cell fun c => { c with state := .superseded } := by
  unfold State.supersedeCell
  rw [h]

/-- Settles O50. -/
theorem cellDrawsAndNotices : Obligations.CellDrawsAndNotices := by
  constructor
  · intro h m s i n c key r v he hm hkey _ hr hv k dev stepped film exposed notice done
    have hends := execPhotocellReport_ends (passesDraw_completeCell h i n dev) he hm (c := .cellExposures) fun _ => rfl
    have hleft := (passesDraw_completeCell h i n dev).leaves s
    have hdone (slots : Vector Slot 12) (retake : Bool) (hC : s.completeCell i n dev =
        (((exposed slots retake).judgeHold).placementNotice (notice retake)).indexingTest i) :
        exec (.photocellReport h m) s = done slots retake := by
      have hretry : (s.completeCell i n dev).retryEvents = s.retryEvents := by simp
      have hstate : (s.completeCell i n dev).heads[h].state = k.state := by
        have hat := congrArg Head.state hleft
        exact hat
      refine hends.trans ?_
      dsimp only
      rw [hretry, Head.drawRaises, ← BitVec.or_assoc, Head.drawEnded, hstate]
      simp only [done, ← hC]
      rfl
    refine ⟨fun hst => hdone _ _ ?_, fun hst => ⟨fun hcur => hdone _ _ ?_, fun old hcur => ⟨fun hnone => hdone _ _ ?_,
      fun j hlive => hdone _ _ ?_⟩⟩⟩
    · exact State.completeCell_exposing hkey hr hv hst dev
    all_goals rw [State.completeCell_retakeExposing hkey hr hv hst dev, hcur]
    · rfl
    · rw [show (s.cellExposed i n dev).supersedeOld (some old) = (s.cellExposed i n dev).supersedeCell old.place from rfl,
        State.supersedeCell_none ((s.liveSlotOfPlace_cellExposed ..).trans (State.liveSlotOfPlace_eq_none hnone))]
      rfl
    · rw [show (s.cellExposed i n dev).supersedeOld (some old) = (s.cellExposed i n dev).supersedeCell old.place from rfl,
        State.supersedeCell_some ((s.liveSlotOfPlace_cellExposed ..).trans (State.liveSlotOfPlace_eq_some hlive))]
      rfl
  · intro s n e l
    refine ⟨fun h => State.placementNotice_orphan h, fun hen hg => ?_⟩
    rw [State.placementNotice_enabled hen hg]
    refine ⟨fun ha => if_pos ha, fun ha => ?_⟩
    dsimp only
    rw [if_neg (by rw [ha]; nofun), State.sendFrame_active ha, State.countLink_eq, State.modLink_modLink]
    rfl

end Sys2Proof.Machine
end

section
/-! Draws interrupted by a fault (R156), and the spoil of a CELL entry (R102, R103). -/

namespace Sys2Proof.Machine

/-! ### The head of an interrupted draw -/

theorem State.enterFault_drawing {s : State} {h : Fin 4} {e : Entry} (he : s.heads[h].inFlight = some ⟨e, .drawing⟩)
    (kind : FaultKind) : s.enterFault h kind =
      (((s.modHead h (·.faulted kind)).countHead h .faults).raise (.fault h)).interruptEntry h e := by
  unfold State.enterFault
  rw [he]
  exact if_pos rfl

/-- The state once the fallen head has no entry in flight. -/
def State.headFallen (s : State) (h : Fin 4) (kind : FaultKind) : State :=
  { s with heads := s.heads.set h (s.heads[h].fallen kind), port := { s.port with changes := s.port.changes ||| 1#21 <<< (4 * h.val) } }

theorem State.headFallen_eq (s : State) (h : Fin 4) (kind : FaultKind) :
    (((s.modHead h (·.faulted kind)).countHead h .faults).raise (.fault h)).modHead h (fun k => { k with inFlight := none }) =
      s.headFallen h kind := by
  rw [State.faulted_modHead]
  rfl

/-! ### TITLE and INDEX entries -/

theorem Entry.cls_of_not_cell {e : Entry} (h : ∀ i n c, e ≠ .cell i n c) : e.cls = 4 := by
  cases e with
  | cell i n c => exact absurd rfl (h i n c)
  | title i => rfl
  | index i n part => rfl

/-- An entry of class 4 returns to the front. -/
theorem returnQueue_front {q : List Entry} {e : Entry} (he : e.cls = 4) (hq : ∀ x ∈ q, x.cls ≤ 4) : returnQueue q e = e :: q := by
  have hnone : ∀ x ∈ q, decide (e.cls < x.cls) = false := fun x hx => by
    rw [he]
    exact decide_eq_false (Nat.not_lt.mpr (hq x hx))
  unfold returnQueue
  cases q with
  | nil => rfl
  | cons x xs =>
    have hx := hnone x List.mem_cons_self
    rw [List.takeWhile_cons_of_neg (by simp [hx]), List.dropWhile_cons_of_neg (by simp [hx])]
    rfl

theorem State.enterFault_redraw {s : State} {h : Fin 4} {e : Entry} (he : s.heads[h].inFlight = some ⟨e, .drawing⟩)
    (hother : ∀ i n c, e ≠ .cell i n c) (hq : ∀ x ∈ s.heads[h].queue, x.cls ≤ 4) (kind : FaultKind) :
    s.enterFault h kind = { s with
      heads := s.heads.set h { s.heads[h].fallen kind with queue := e :: s.heads[h].queue }
      slots := s.slots.set e.slot { s.slots[e.slot] with redraw := true }
      port := { s.port with changes := s.port.changes ||| 1#21 <<< (4 * h.val) } } := by
  have hinterrupt (t : State) : t.interruptEntry h e =
      (t.returnEntry h e).modSlot e.slot fun u => { u with redraw := true } := by
    cases e with
    | cell i n c => exact absurd rfl (hother i n c)
    | title i => rfl
    | index i n part => rfl
  rw [State.enterFault_drawing he, hinterrupt, State.returnEntry, State.modEntryRecord_other hother, State.faulted_modHead,
    ← returnQueue_front (Entry.cls_of_not_cell hother) hq]
  rfl

/-! ### CELL entries -/

theorem modify_eq_set {α : Type} {l : List α} {n : Nat} {a : α} (h : l[n]? = some a) (f : α → α) :
    l.modify n f = l.set n (f a) := by
  rw [List.modify_eq_set_getElem?, h]
  rfl

/-- A cell that is spoiled (R102). -/
def Cell.spoil (c : Cell) : Cell := { c with state := .spoiled, dose := false }

theorem State.modCells_spoil {s : State} {i : Fin 12} {n w : Nat} {key : Key} {st : CellState} {d : Bool}
    (hcell : s.slots[i].cells[n]? = some ⟨st, some key, w, d⟩)
    (hsecond : w = 2 → ∃ st' d', s.slots[i].cells[n + 1]? = some ⟨st', some key, 0, d'⟩) :
    s.modCells i n w Cell.spoil Cell.spoil =
      let lead := s.slots[i].cells.set n ⟨.spoiled, some key, w, false⟩
      { s with slots := s.slots.set i { s.slots[i] with
          cells := if w = 2 then lead.set (n + 1) ⟨.spoiled, some key, 0, false⟩ else lead } } := by
  have hlead : s.slots[i].cells.modify n Cell.spoil = s.slots[i].cells.set n ⟨.spoiled, some key, w, false⟩ :=
    modify_eq_set hcell _
  unfold State.modCells State.modCell
  by_cases hw : w = 2
  · obtain ⟨st', d', hnext⟩ := hsecond hw
    have hboth : (s.slots[i].cells.modify n Cell.spoil).modify (n + 1) Cell.spoil =
        (s.slots[i].cells.set n ⟨.spoiled, some key, w, false⟩).set (n + 1) ⟨.spoiled, some key, 0, false⟩ := by
      rw [hlead]
      exact modify_eq_set ((List.getElem?_set_ne (by omega)).trans hnext) _
    rw [if_pos hw, State.modSlot_modSlot, State.modSlot, hboth]
    dsimp only
    rw [if_pos hw]
  · rw [if_neg hw, State.modSlot, hlead]
    dsimp only
    rw [if_neg hw]

/-- A record that asks for a new cell (R102). -/
def Record.unplaced (r : Record) : Record := { r with reserved := none }

theorem Record.granted_unplaced {r : Record} (h : r.state = .exposing ∨ r.state = .retakeExposing) (v : Reserved) :
    r.unplaced.granted v = { r with
      reserved := some v, state := if r.state = .exposing then .reserved else .retakeReserved } := by
  unfold Record.unplaced Record.granted
  rcases h with h | h <;> simp [h]

theorem Record.spoiledWaiting_unplaced {r : Record} (h : r.state = .exposing ∨ r.state = .retakeExposing) :
    r.unplaced.spoiledWaiting = { r with
      reserved := none, state := if r.state = .exposing then .waiting else .retakeWaiting } := by
  unfold Record.unplaced Record.spoiledWaiting
  rcases h with h | h <;> simp [h]

/-- Two changes of the same record in a directory where it is alone under its key. -/
theorem State.updateRecord_twice {s u : State} {key : Key} {r : Record} {f g k : Record → Record} (hd : s.directoryOrdered)
    (hr : s.findRecord key = some r) (hkey : ∀ x, (f x).key = x.key)
    (hu : u.records = s.records.map fun x => if x.key = key then f x else x) (hk : g (f r) = k r) :
    u.updateRecord key g = { u with records := s.records.map fun x => if x.key = key then k x else x } := by
  unfold State.updateRecord
  rw [hu, List.map_map]
  refine congrArg (fun rs => ({ u with records := rs } : State)) (List.map_congr_left fun x hx => ?_)
  by_cases h : x.key = key
  · obtain rfl := State.record_unique hd hr hx h
    simp [h, hkey, hk]
  · simp [h]

/-- The state in which a spoiled record asks for a cell: its cells SPOILED, the indexing test made (R102). -/
def State.spoiledAsking (s : State) (i : Fin 12) (n w : Nat) (key : Key) : State :=
  ((s.modCells i n w Cell.spoil Cell.spoil).indexingTest i).updateRecord key Record.unplaced

theorem State.spoiledAsking_records (s : State) (i : Fin 12) (n w : Nat) (key : Key) : (s.spoiledAsking i n w key).records =
    s.records.map fun x => if x.key = key then x.unplaced else x := by
  simp [State.spoiledAsking, State.updateRecord]

theorem State.spoil_eq {s : State} {i : Fin 12} {n w : Nat} {key : Key} {st : CellState} {d : Bool} {r : Record} {p : Placement}
    (hcell : s.slots[i].cells[n]? = some ⟨st, some key, w, d⟩) (hr : s.findRecord key = some r)
    (hp : (s.spoiledAsking i n w key).rePlacement i r.request = p) : s.spoil i n = match State.settle r p with
      | (u, true) => u
      | (u, false) =>
        let v := (u.updateRecord key Record.spoiledWaiting).joinWaiting r.series key
        if r.state = .exposing then v.judgeCutOff r.series else v := by
  obtain ⟨-, rfl⟩ := State.findRecord_some hr
  have hwidth : ((s.cellAt i n).map Cell.width).getD 1 = w := by
    unfold State.cellAt
    rw [hcell]
    rfl
  have hrecord : s.recordAt i n = some r := by
    unfold State.recordAt State.keyAt State.cellAt
    rw [hcell]
    exact hr
  unfold State.spoil
  rw [hwidth, hrecord, ← hp]
  rfl

theorem State.rePlacement_records {s : State} {i : Fin 12} {q : CellRequest} {p : Placement} (hp : s.rePlacement i q = p) :
    p.state.records = s.records ∧ p.state.waiting = s.waiting := by
  rw [← hp]
  constructor <;> simp

section
variable {s u : State} {i : Fin 12} {n w : Nat} {key : Key} {st : CellState} {d o : Bool} {r : Record} {v : Reserved}

theorem State.spoil_granted (hcell : s.slots[i].cells[n]? = some ⟨st, some key, w, d⟩) (hd : s.directoryOrdered)
    (hr : s.findRecord key = some r) (hst : r.state = .exposing ∨ r.state = .retakeExposing)
    (hp : (s.spoiledAsking i n w key).rePlacement i r.request = ⟨u, some v, o⟩) : s.spoil i n =
      let t : State := { u with records := s.records.map fun x => if x.key = key then { x with
        reserved := some v, state := if r.state = .exposing then .reserved else .retakeReserved } else x }
      if o = true then t.judgeCutOff r.series else t := by
  have hrecords := (State.rePlacement_records hp).1.trans (s.spoiledAsking_records i n w key)
  have hopened : (o = true ∨ r.state = .waiting) ↔ o = true := by
    rcases hst with h | h <;> simp [h]
  obtain ⟨-, rfl⟩ := State.findRecord_some hr
  rw [State.spoil_eq hcell hr hp, State.settle]
  dsimp only
  simp only [hopened]
  rw [State.updateRecord_twice (f := Record.unplaced) (k := fun x => { x with
    reserved := some v, state := if r.state = .exposing then .reserved else .retakeReserved }) hd hr (fun _ => rfl) hrecords
    (Record.granted_unplaced hst v)]
  cases o <;> rfl

theorem State.spoil_waits (hcell : s.slots[i].cells[n]? = some ⟨st, some key, w, d⟩) (hd : s.directoryOrdered)
    (hr : s.findRecord key = some r) (hst : r.state = .exposing ∨ r.state = .retakeExposing)
    (hp : (s.spoiledAsking i n w key).rePlacement i r.request = ⟨u, none, o⟩) : s.spoil i n =
      let t : State := { u with
        records := s.records.map fun x => if x.key = key then { x with
          reserved := none, state := if r.state = .exposing then .waiting else .retakeWaiting } else x
        waiting := s.waiting.set r.series (s.waiting[r.series] ++ [key]) }
      if r.state = .exposing then t.judgeCutOff r.series else t := by
  obtain ⟨hrecords, hwaiting⟩ := State.rePlacement_records hp
  have hwaits : u.waiting = s.waiting := hwaiting.trans (by simp [State.spoiledAsking, State.updateRecord])
  rw [State.spoil_eq hcell hr hp, State.settle]
  dsimp only
  rw [State.updateRecord_twice (f := Record.unplaced) (k := fun x => { x with
    reserved := none, state := if r.state = .exposing then .waiting else .retakeWaiting }) hd hr (fun _ => rfl)
    (hrecords.trans (s.spoiledAsking_records i n w key)) (Record.spoiledWaiting_unplaced hst), ← hwaits]
  rfl

end

/-- Settles O46. -/
theorem interruptedDraws : Obligations.InterruptedDraws := by
  intro h s kind e he fallen port
  have hfallen : fallen = s.heads[h].fallen kind := (Head.fallen_eq _ kind).symm
  constructor
  · intro hother _ hq
    rw [hfallen]
    exact State.enterFault_redraw he hother hq kind
  intro i n c key w st d r m he' hcell hsecond hd hr hst hm lead spoiled tested asking counted request
  subst he'
  have hspoiled : (s.headFallen h kind).modCells i n w Cell.spoil Cell.spoil = spoiled := by
    rw [State.modCells_spoil (s := s.headFallen h kind) hcell hsecond]
    simp only [spoiled, hfallen]
    rfl
  have hasking : (s.headFallen h kind).spoiledAsking i n w key = asking := by
    unfold State.spoiledAsking
    rw [hspoiled]
    have hrecords : tested.records = s.records := (spoiled.indexingTest_frame i).2.2.2.2.2.2.2.1
    show ({ tested with records := tested.records.map _ } : State) = { tested with records := s.records.map _ }
    rw [hrecords]
    rfl
  have hrequest : r.request = request := by
    obtain ⟨-, rfl⟩ := State.findRecord_some hr
    simp only [Record.request, hm, request]
    rfl
  have hfault : s.enterFault h kind = counted ((s.headFallen h kind).spoil i n) := by
    rw [State.enterFault_drawing he]
    show State.countHead (State.spoil (State.modHead _ h _) i n) h .spoiledExposures = _
    rw [State.headFallen_eq]
    rfl
  rw [← hasking, ← hrequest]
  refine ⟨fun u v o hp => ?_, fun u o hp => ?_⟩
  · rw [hfault, State.spoil_granted (s := s.headFallen h kind) hcell hd hr hst hp]
    rfl
  · rw [hfault, State.spoil_waits (s := s.headFallen h kind) hcell hd hr hst hp]
    rfl

end Sys2Proof.Machine
end

section
/-! What each command leaves unchanged: tables, rolls, settings and staging bytes belong to their own commands. -/

namespace Sys2Proof.Machine

/-! ### The parts that have owners -/

/-- A part of the state that some commands alone change. -/
inductive Part where
  | memory | formats | admission | quantum | series | rolls | holdLock | dose | enables
  deriving DecidableEq

/-- The part that a command owns. -/
def ownedPart : Instr → Option Part
  | .body .. => some .memory
  | .setFormat .. => some .formats
  | .setAdmission .. => some .admission
  | .setHold .. => some .quantum
  | .setSeries .. | .clearSeries .. | .cutOffSeries .. | .reopenSeries .. => some .series
  | .loadRoll .. | .unloadRoll .. => some .rolls
  | .setTracker .. => some .holdLock
  | .setDose .. => some .dose
  | .setEventEnables .. | .portClear => some .enables
  | _ => none

/-- Whether a command owns a part. -/
def ownsPart (c : Instr) (p : Part) : Bool := decide (ownedPart c = some p)

/-- A change of a head that leaves what is not owned: its roll, but for sheets taken, its hold-lock option, its dose
settings. -/
structure Head.Leaves (o : Part → Bool) (k k' : Head) : Prop where
  rolls : o .rolls = false → k'.sheets = k.sheets ∧ k'.firstCode = k.firstCode ∧ k'.coded = k.coded ∧
    k.nextSheet ≤ k'.nextSheet
  holdLock : o .holdLock = false → k'.tracker.holdLock = k.tracker.holdLock
  dose : o .dose = false → k'.dose.target = k.dose.target ∧ k'.dose.threshold = k.dose.threshold

/-- A change of a series' entry that takes sequence numbers alone. -/
structure Series.Leaves (v v' : Series) : Prop where
  entry : { v' with next := v.next, exhausted := v.exhausted } = v
  next : v.next ≤ v'.next

/-- From `s` to `t` every part that is not owned is left. -/
structure State.Leaves (o : Part → Bool) (s t : State) : Prop where
  pending : t.pending = s.pending
  memory : o .memory = false → t.mem = s.mem
  formats : o .formats = false → t.formats = s.formats
  admission : o .admission = false → t.admission = s.admission
  quantum : o .quantum = false → t.holdQuantum = s.holdQuantum
  series : o .series = false → ∀ i : Fin 32, s.series[i].Leaves t.series[i]
  heads : ∀ h : Fin 4, s.heads[h].Leaves o t.heads[h]
  enables : o .enables = false → t.port.enables = s.port.enables ∧ t.port.doneEnable = s.port.doneEnable

section
variable {o : Part → Bool} {s t u : State}

theorem Head.Leaves.refl (k : Head) : k.Leaves o k := ⟨fun _ => ⟨rfl, rfl, rfl, le_rfl⟩, fun _ => rfl, fun _ => ⟨rfl, rfl⟩⟩

theorem Head.Leaves.trans {k k' k'' : Head} (h : k.Leaves o k') (h' : k'.Leaves o k'') : k.Leaves o k'' where
  rolls ho := by
    obtain ⟨hs, hf, hc, hn⟩ := h.rolls ho
    obtain ⟨hs', hf', hc', hn'⟩ := h'.rolls ho
    exact ⟨hs'.trans hs, hf'.trans hf, hc'.trans hc, hn.trans hn'⟩
  holdLock ho := (h'.holdLock ho).trans (h.holdLock ho)
  dose ho := ⟨(h'.dose ho).1.trans (h.dose ho).1, (h'.dose ho).2.trans (h.dose ho).2⟩

theorem Series.Leaves.refl (v : Series) : v.Leaves v := ⟨rfl, le_rfl⟩

theorem Series.Leaves.trans {v v' v'' : Series} (h : v.Leaves v') (h' : v'.Leaves v'') : v.Leaves v'' where
  entry := by
    have hv := h.entry
    rw [← h'.entry] at hv
    exact hv
  next := h.next.trans h'.next

theorem Series.advanced_leaves (v : Series) : v.Leaves v.advanced := by
  unfold Series.advanced
  split
  · exact ⟨rfl, le_rfl⟩
  · exact ⟨rfl, Nat.le_succ _⟩

namespace State.Leaves

theorem refl (s : State) : s.Leaves o s :=
  ⟨rfl, fun _ => rfl, fun _ => rfl, fun _ => rfl, fun _ => rfl, fun _ _ => .refl _, fun _ => .refl _, fun _ => ⟨rfl, rfl⟩⟩

/-- A change of the parts that have no owner. -/
theorem same (h : s.Leaves o t) (hu : u.pending = t.pending ∧ u.mem = t.mem ∧ u.formats = t.formats ∧
    u.admission = t.admission ∧ u.holdQuantum = t.holdQuantum ∧ u.series = t.series ∧ u.heads = t.heads ∧
    u.port.enables = t.port.enables ∧ u.port.doneEnable = t.port.doneEnable) : s.Leaves o u := by
  obtain ⟨pending, mem, formats, admission, quantum, series, heads, enables, doneEnable⟩ := hu
  exact ⟨pending.trans h.pending, fun ho => mem.trans (h.memory ho), fun ho => formats.trans (h.formats ho),
    fun ho => admission.trans (h.admission ho), fun ho => quantum.trans (h.quantum ho), fun ho i => by rw [series]; exact h.series ho i,
    fun g => by rw [heads]; exact h.heads g,
    fun ho => ⟨enables.trans (h.enables ho).1, doneEnable.trans (h.enables ho).2⟩⟩

theorem raise (h : s.Leaves o t) (i : Indication) : s.Leaves o (t.raise i) := h.same (by simp)

theorem retry (h : s.Leaves o t) (e : RetryEvent) : s.Leaves o (t.retry e) := h.same (by simp)

theorem modSlot (h : s.Leaves o t) (i : Fin 12) (f : Slot → Slot) : s.Leaves o (t.modSlot i f) := h.same (by simp)

theorem modHead (h : s.Leaves o t) (g : Fin 4) {f : Head → Head} (hf : ∀ k : Head, k.Leaves o (f k)) :
    s.Leaves o (t.modHead g f) where
  pending := h.pending
  memory := h.memory
  formats := h.formats
  admission := h.admission
  quantum := h.quantum
  series := h.series
  heads j := by
    rw [State.modHead_at]
    split
    · next hj => exact hj ▸ (h.heads j).trans (hf _)
    · exact h.heads j
  enables := h.enables

theorem modSeries (h : s.Leaves o t) (c : Fin 32) {f : Series → Series} (hf : o .series = false → ∀ v : Series, v.Leaves (f v)) :
    s.Leaves o (t.modSeries c f) where
  pending := h.pending
  memory := h.memory
  formats := h.formats
  admission := h.admission
  quantum := h.quantum
  series ho i := by
    rw [State.modSeries_at]
    split
    · next hi => exact hi ▸ (h.series ho i).trans (hf ho _)
    · exact h.series ho i
  heads := h.heads
  enables := h.enables

/-- A fold leaves what each of its steps leaves. -/
theorem foldl {α : Type} {f : State → α → State} (h : s.Leaves o t) (hf : ∀ u a, s.Leaves o u → s.Leaves o (f u a))
    (as : List α) : s.Leaves o (as.foldl f t) := frame_foldl (s.Leaves o) f hf as t h

/-! ### Slots, openings and placements -/

/-- A change of a head that touches neither its roll nor its settings. -/
theorem modHead_rest (h : s.Leaves o t) (g : Fin 4) {f : Head → Head}
    (hf : ∀ k, (f k).sheets = k.sheets ∧ (f k).firstCode = k.firstCode ∧ (f k).coded = k.coded ∧
      (f k).nextSheet = k.nextSheet ∧ (f k).tracker.holdLock = k.tracker.holdLock ∧ (f k).dose.target = k.dose.target ∧
      (f k).dose.threshold = k.dose.threshold) : s.Leaves o (t.modHead g f) :=
  h.modHead g fun k => by
    obtain ⟨sheets, code, coded, next, lock, target, threshold⟩ := hf k
    exact ⟨fun _ => ⟨sheets, code, coded, next.ge⟩, fun _ => lock, fun _ => ⟨target, threshold⟩⟩

theorem countHead (h : s.Leaves o t) (g : Fin 4) (c : HeadCounter) : s.Leaves o (t.countHead g c) :=
  h.modHead_rest g fun _ => ⟨rfl, rfl, rfl, rfl, rfl, rfl, rfl⟩

theorem enqueue (h : s.Leaves o t) (g : Fin 4) (e : Entry) : s.Leaves o (t.enqueue g e) :=
  h.modHead_rest g fun _ => ⟨rfl, rfl, rfl, rfl, rfl, rfl, rfl⟩

theorem indexingTest (h : s.Leaves o t) (i : Fin 12) : s.Leaves o (t.indexingTest i) := by
  rw [State.indexingTest_eq]
  split
  · exact (h.same (by simp)).modHead_rest _ fun _ => ⟨rfl, rfl, rfl, rfl, rfl, rfl, rfl⟩
  · exact h

theorem closeFiche (h : s.Leaves o t) (i : Fin 12) : s.Leaves o (t.closeFiche i) := by
  unfold State.closeFiche
  split
  · exact (h.same (by simp)).indexingTest i
  · exact h

theorem judgeCutOff (h : s.Leaves o t) (c : Fin 32) : s.Leaves o (t.judgeCutOff c) := by
  unfold State.judgeCutOff
  split
  · split
    · exact h.closeFiche _
    · exact h
  · exact h

theorem openFiche (h : s.Leaves o t) (c : Fin 32) (g : Fin 4) (i : Fin 12) : s.Leaves o (t.openFiche c g i) := by
  rw [State.openFiche_eq]
  have hslot := h.same (u := t.modSlot i fun _ => t.openedSlot c g) (by simp)
  exact (hslot.modHead g (f := (·.titled i)) fun k =>
    ⟨fun _ => ⟨rfl, rfl, rfl, Nat.le_succ _⟩, fun _ => rfl, fun _ => ⟨rfl, rfl⟩⟩).modSeries c fun _ => Series.advanced_leaves

theorem grantCell (h : s.Leaves o t) (q : CellRequest) (i : Fin 12) (n : Nat) (opened : Bool) :
    s.Leaves o (t.grantCell q i n opened).state := by
  have hcell := (h.same (u := t.modCells i n q.width (fun _ => ⟨.held, some q.key, q.width, false⟩)
    (fun _ => ⟨.trailing, some q.key, 0, false⟩)) (by simp)).enqueue (headOf i) (.cell i n q.cls)
  unfold State.grantCell State.fullTest
  dsimp only
  split
  · exact hcell.closeFiche i
  · exact hcell

theorem openAndGrant (h : s.Leaves o t) (q : CellRequest) : s.Leaves o (t.openAndGrant q).state := by
  unfold State.openAndGrant
  split
  · split
    · split
      · split
        · exact (h.openFiche ..).grantCell ..
        · exact h.openFiche ..
      · exact h
    · exact h
  · exact h

theorem normalPlacement (h : s.Leaves o t) (q : CellRequest) : s.Leaves o (t.normalPlacement q).state := by
  unfold State.normalPlacement
  split
  · exact h.openAndGrant q
  · split
    · exact h.grantCell ..
    · exact (h.closeFiche _).openAndGrant q

theorem rePlacement (h : s.Leaves o t) (i : Fin 12) (q : CellRequest) : s.Leaves o (t.rePlacement i q).state := by
  unfold State.rePlacement
  split
  · split
    · exact h.grantCell ..
    · exact h.normalPlacement q
  · exact h.normalPlacement q

theorem settle {p : Placement} (h : s.Leaves o p.state) (r : Record) : s.Leaves o (State.settle r p).1 := by
  unfold State.settle
  split
  · split
    · exact (h.same (by simp)).judgeCutOff _
    · exact h.same (by simp)
  · exact h

theorem offer (h : s.Leaves o t) (r : Record) : s.Leaves o (t.offer r).1 := (h.normalPlacement _).settle r

theorem offered {r : Record} {b : Bool} (h : s.Leaves o t) (hu : t.offer r = (u, b)) : s.Leaves o u := by
  have hoffer := h.offer r
  rwa [hu] at hoffer

theorem serveFrom (c : Fin 32) (n : Nat) (h : s.Leaves o t) : s.Leaves o (State.serveFrom c n t) := by
  induction n generalizing t with
  | zero => exact h
  | succ n ih =>
    unfold State.serveFrom
    split
    · exact h
    · split
      · exact h
      · split
        · next hu => exact ih ((h.offered hu).same (by simp))
        · next hu => exact h.offered hu

theorem serveList (h : s.Leaves o t) (c : Fin 32) : s.Leaves o (t.serveList c) := h.serveFrom c _

theorem servePass (h : s.Leaves o t) : s.Leaves o t.servePass := h.foldl (fun _ c hu => hu.serveList c) _

/-! ### Records and the intake -/

theorem acceptBody (h : s.Leaves o t) (k : Key) : s.Leaves o (t.acceptBody k) := by
  unfold State.acceptBody
  split
  · exact h
  · dsimp only
    have haccepted := h.same (u := t.updateRecord k fun r => { r with state := r.state.accepted }) (by simp)
    split
    · split
      · next hu => exact haccepted.offered hu
      · next hu => exact (haccepted.offered hu).same (by simp)
    · exact (haccepted.same (by simp)).serveList _

theorem endReception (h : s.Leaves o t) (k : Key) : s.Leaves o (t.endReception k) := by
  unfold State.endReception
  split
  · exact h
  · split
    · exact (h.same (by simp)).judgeCutOff _
    · exact h.same (by simp)
    · exact h

theorem takeClaim {c : Claim} (h : s.Leaves o t) (hu : t.takeClaim c = .ok u) : s.Leaves o u := by
  unfold State.takeClaim at hu
  split at hu
  · cases hu
  · split at hu
    · cases hu
    · next v hv =>
      obtain ⟨-, -, rfl⟩ := State.allocate_some hv
      split at hu <;> cases hu
      · exact h.same (by simp)
      · exact (h.same (by simp)).judgeCutOff _

theorem refuse (h : s.Leaves o t) (l : Fin 8) (tag : BitVec 16) (cause : Cause) : s.Leaves o (t.refuse l tag cause) :=
  h.same (by simp)

theorem endWithRefuse (h : s.Leaves o t) (l : Fin 8) (r : Reception) (cause : Cause) :
    s.Leaves o (t.endWithRefuse l r cause) := by
  unfold State.endWithRefuse
  split
  · exact h.same (by simp)
  · exact ((h.refuse l r.tag cause).endReception r.key).same (by simp)

theorem endRunning (h : s.Leaves o t) (l : Fin 8) (cause : Cause) : s.Leaves o (t.endRunning l cause) := by
  unfold State.endRunning
  split
  · exact h.endWithRefuse ..
  · exact h

theorem takeHead (h : s.Leaves o t) (l : Fin 8) (d : HeadFields) : s.Leaves o (t.takeHead l d) := by
  have hended := (h.same (u := t.countHeadFrame l) (by simp)).endRunning l .abandoned
  unfold State.takeHead State.admitHead
  split
  · exact hended.refuse ..
  · split
    · exact hended.refuse ..
    · next hu => exact (hended.takeClaim hu).same (by simp)

theorem takeEnd (h : s.Leaves o t) (l : Fin 8) (check : BitVec 32) : s.Leaves o (t.takeEnd l check) := by
  unfold State.takeEnd
  split
  · exact h.same (by simp)
  · split
    · exact h.endWithRefuse ..
    · split
      · exact h.endWithRefuse ..
      · split
        · exact h.endWithRefuse ..
        · exact (h.same (by simp)).acceptBody _

theorem takeBody (ho : o .memory = true) (h : s.Leaves o t) (l : Fin 8) (bytes : List Byte) :
    s.Leaves o (t.takeBody l bytes) := by
  unfold State.takeBody
  split
  · exact h.same (by simp)
  · split
    · exact h
    · split
      · exact ⟨h.pending, fun hf => absurd (ho.symm.trans hf) nofun, h.formats, h.admission, h.quantum, h.series, h.heads, h.enables⟩
      · exact h.endWithRefuse ..

/-- A frame of a fixed length, taken or discarded. -/
theorem takeFixed (h : s.Leaves o t) {take : State → State} (htake : s.Leaves o (take t)) (l : Fin 8) (kind : Byte) (n : Nat)
    (f : Frame) : s.Leaves o (t.takeFixed l kind n f take) := by
  unfold State.takeFixed
  split
  · split
    · split
      · exact htake
      · exact h.same (by simp)
    · exact h.same (by simp)
  · exact h

theorem carrierAppears (h : s.Leaves o t) (l : Fin 8) : s.Leaves o (t.carrierAppears l) := h.same (by simp)

theorem endWithCarrier (h : s.Leaves o t) (l : Fin 8) (r : Reception) : s.Leaves o (t.endWithCarrier l r) := by
  unfold State.endWithCarrier
  dsimp only
  split
  · exact h.same (by simp)
  · exact ((h.same (u := t.countLink l .carrierLostReceptions) (by simp)).endReception r.key).same (by simp)

end State.Leaves

end

end Sys2Proof.Machine
end

section
/-! What the heads' events and the host requests leave unchanged, and the commands that own each table (the obligation on
owners). -/

namespace Sys2Proof.Machine

section
variable {o : Part → Bool} {s t u : State}

theorem Dose.step_settings (d : Dose) (dev : Bool) : (d.step dev).target = d.target ∧ (d.step dev).threshold = d.threshold := by
  unfold Dose.step
  dsimp only
  split <;> exact ⟨rfl, rfl⟩

namespace State.Leaves

/-! ### The phases of an entry -/

theorem enterAdvancing (h : s.Leaves o t) (g : Fin 4) (sheet : Nat) : s.Leaves o (t.enterAdvancing g sheet) := by
  rw [State.enterAdvancing_eq]
  exact h.modHead_rest g fun _ => ⟨rfl, rfl, rfl, rfl, rfl, rfl, rfl⟩

theorem driveStage (h : s.Leaves o t) (g : Fin 4) (p : Int × Int) : s.Leaves o (t.driveStage g p) :=
  h.modHead_rest g fun _ => ⟨rfl, rfl, rfl, rfl, rfl, rfl, rfl⟩

theorem enterAcquiring (h : s.Leaves o t) (g : Fin 4) : s.Leaves o (t.enterAcquiring g) := by
  rw [State.enterAcquiring_eq]
  exact h.modHead_rest g fun _ => ⟨rfl, rfl, rfl, rfl, rfl, rfl, rfl⟩

theorem enterPositioning (h : s.Leaves o t) (g : Fin 4) (e : Entry) : s.Leaves o (t.enterPositioning g e) := by
  rw [State.enterPositioning_eq]
  exact h.modHead_rest g fun _ => ⟨rfl, rfl, rfl, rfl, rfl, rfl, rfl⟩

theorem enterDrawing (h : s.Leaves o t) (g : Fin 4) (e : Entry) : s.Leaves o (t.enterDrawing g e) := by
  rw [State.enterDrawing_eq]
  exact h.modHead_rest g fun _ => ⟨rfl, rfl, rfl, rfl, rfl, rfl, rfl⟩

theorem takeEntry (h : s.Leaves o t) (g : Fin 4) (e : Entry) (rest : List Entry) : s.Leaves o (t.takeEntry g e rest) := by
  have htook := (h.modHead_rest g (f := (·.took e rest)) fun _ => ⟨rfl, rfl, rfl, rfl, rfl, rfl, rfl⟩).same
    (u := (t.modHead g (·.took e rest)).modEntryRecord e Record.taken) (by simp)
  show s.Leaves o (State.firstPhase _ g e)
  unfold State.firstPhase
  split
  · exact htook.enterAdvancing g _
  · split
    · exact htook.enterAcquiring g
    · exact htook.enterPositioning g e

theorem returnEntry (h : s.Leaves o t) (g : Fin 4) (e : Entry) : s.Leaves o (t.returnEntry g e) :=
  (h.modHead_rest g (f := fun k => { k with queue := returnQueue k.queue e, inFlight := none })
    fun _ => ⟨rfl, rfl, rfl, rfl, rfl, rfl, rfl⟩).same (by simp [State.returnEntry])

theorem endEntry (h : s.Leaves o t) (g : Fin 4) : s.Leaves o (t.endEntry g) := by
  have hended := h.modHead_rest g (f := Head.ended) fun _ => ⟨rfl, rfl, rfl, rfl, rfl, rfl, rfl⟩
  rw [State.endEntry_eq]
  split
  · exact hended.same (by simp)
  · exact hended

/-- A tracker that goes to ACQUIRE keeps its hold-lock option (R159). -/
theorem trackerAcquire (h : s.Leaves o t) (g : Fin 4) : s.Leaves o (t.trackerAcquire g) := by
  have hunlocked := h.modHead_rest g (f := Head.unlocked) fun _ => ⟨rfl, rfl, rfl, rfl, rfl, rfl, rfl⟩
  rw [State.trackerAcquire_eq]
  split
  · exact hunlocked.same (by simp)
  · exact hunlocked

/-! ### Spoils and faults -/

theorem spoil (h : s.Leaves o t) (i : Fin 12) (n : Nat) : s.Leaves o (t.spoil i n) := by
  have htested := (h.same (u := t.modCells i n (((t.cellAt i n).map Cell.width).getD 1) Cell.spoil Cell.spoil)
    (by simp)).indexingTest i
  unfold State.spoil
  dsimp only
  split
  · exact htested
  · next r _ =>
    have hasking := htested.same (u := ((t.modCells i n (((t.cellAt i n).map Cell.width).getD 1) Cell.spoil
      Cell.spoil).indexingTest i).updateRecord r.key Record.unplaced) (by simp)
    have hsettle := (hasking.rePlacement i r.request).settle r
    split
    · next v hu =>
      obtain rfl : _ = v := congrArg Prod.fst hu
      exact hsettle
    · next v hu =>
      have hv : s.Leaves o v := by
        obtain rfl : _ = v := congrArg Prod.fst hu
        exact hsettle
      have hwaits := hv.same (u := (v.updateRecord r.key Record.spoiledWaiting).joinWaiting r.series r.key) (by simp)
      split
      · exact hwaits.judgeCutOff _
      · exact hwaits

theorem enterFault (h : s.Leaves o t) (g : Fin 4) (kind : FaultKind) : s.Leaves o (t.enterFault g kind) := by
  have hfaulted : s.Leaves o (((t.modHead g (·.faulted kind)).countHead g .faults).raise (.fault g)) :=
    ((h.modHead_rest g (f := (·.faulted kind)) fun _ => ⟨rfl, rfl, rfl, rfl, rfl, rfl, rfl⟩).countHead g .faults).raise _
  unfold State.enterFault
  dsimp only
  split
  · exact hfaulted
  · split
    · unfold State.interruptEntry
      split
      · exact ((hfaulted.modHead_rest g (f := fun k => { k with inFlight := none })
          fun _ => ⟨rfl, rfl, rfl, rfl, rfl, rfl, rfl⟩).spoil _ _).countHead g _
      · exact State.Leaves.modSlot (hfaulted.returnEntry g _) _ _
      · exact State.Leaves.modSlot (hfaulted.returnEntry g _) _ _
    · exact hfaulted.returnEntry g _

/-! ### Readings, arrivals and draws -/

/-- A tracker that takes a reading keeps its hold-lock option (R162, R164). -/
theorem hold (h : s.Leaves o t) (g : Fin 4) (r : Reading) : s.Leaves o (t.modHead g fun k => { k with tracker := k.tracker.hold r }) :=
  h.modHead_rest g fun _ => by cases r <;> exact ⟨rfl, rfl, rfl, rfl, rfl, rfl, rfl⟩

theorem acquisitionReading (h : s.Leaves o t) (g : Fin 4) (e : Entry) (run : Run) (r : Reading) :
    s.Leaves o (t.acquisitionReading g e run r) := by
  unfold State.acquisitionReading
  split
  · exact ((h.hold g r).raise (.locked g)).enterPositioning g e
  · split
    · refine State.Leaves.driveStage (State.Leaves.modHead_rest h g ?_) g _
      exact fun _ => ⟨rfl, rfl, rfl, rfl, rfl, rfl, rfl⟩
    · exact h.enterFault g _

theorem positioningReading (h : s.Leaves o t) (g : Fin 4) (e : Entry) (r : Reading) :
    s.Leaves o (t.positioningReading g e r) := by
  unfold State.positioningReading
  dsimp only
  split
  · exact (h.hold g r).enterDrawing g e
  · split
    · refine State.Leaves.enterDrawing (State.Leaves.modHead_rest h g ?_) g e
      exact fun _ => ⟨rfl, rfl, rfl, rfl, rfl, rfl, rfl⟩
    · exact (((h.trackerAcquire g).countHead g _).returnEntry g e).endEntry g

theorem sheetReached (h : s.Leaves o t) (g : Fin 4) (sheet : Nat) : s.Leaves o (t.sheetReached g sheet) := by
  refine State.Leaves.enterAcquiring (State.Leaves.modHead_rest h g ?_) g
  exact fun _ => ⟨rfl, rfl, rfl, rfl, rfl, rfl, rfl⟩

theorem judgeDose (h : s.Leaves o t) (g : Fin 4) (m : Nat) : s.Leaves o (t.judgeDose g m) := by
  have hstep (dev : Bool) := h.modHead_rest g (f := fun k => { k with dose := k.dose.step dev }) fun k => by
    obtain ⟨htarget, hthreshold⟩ := k.dose.step_settings dev
    exact ⟨rfl, rfl, rfl, rfl, rfl, htarget, hthreshold⟩
  unfold State.judgeDose
  dsimp only
  split <;> split
  · exact ((hstep _).countHead g _).raise _
  · exact (hstep _).raise _
  · exact (hstep _).countHead g _
  · exact hstep _

theorem complete (h : s.Leaves o t) (g : Fin 4) (e : Entry) (dose : Bool) : s.Leaves o (t.complete g e dose) := by
  cases e with
  | title i => exact (h.same (by simp)).countHead g _
  | index i n p => exact (h.same (u := t.completeIndex i n) (by simp)).countHead g _
  | cell i n c =>
    have hcell := h.same (u := t.modCell i n fun c => { c with state := .exposed, dose := dose }) (by simp)
    refine State.Leaves.countHead ?_ g _
    unfold State.completeCell
    dsimp only
    split
    · exact (hcell.same (by simp)).indexingTest i
    · exact hcell.indexingTest i

theorem drawEnds (h : s.Leaves o t) (g : Fin 4) (e : Entry) (m : Nat) : s.Leaves o (t.drawEnds g e m) := by
  have hend := ((h.judgeDose g m).complete g e (t.heads[g].dose.deviates m)).endEntry g
  unfold State.drawEnds
  dsimp only
  split
  · exact hend.same (by simp)
  · exact hend

/-! ### Withdrawals -/

theorem freeReserved (h : s.Leaves o t) (v : Reserved) : s.Leaves o (t.freeReserved v) :=
  (h.modHead_rest v.place.head (f := fun k => { k with queue := dropCellEntry k.queue v.slot v.place.cell })
    fun _ => ⟨rfl, rfl, rfl, rfl, rfl, rfl, rfl⟩).same (by simp [State.freeReserved])

theorem withdrawOwner (h : s.Leaves o t) (k : Key) : s.Leaves o (withdrawOwner k t).1 := by
  unfold Sys2Proof.Machine.withdrawOwner
  split
  · exact h
  · split
    · exact h
    · next r _ =>
      split
      · exact h
      · exact h
      · exact h
      · exact State.Leaves.judgeCutOff (h.same (by simp)) _
      · exact State.Leaves.judgeCutOff (h.same (by simp)) _
      · unfold State.withdrawReserved
        split
        · next v _ => exact State.Leaves.indexingTest ((h.freeReserved v).same (by simp)) _
        · exact h.same (by simp)
      · exact h.same (by simp)
      · exact h.same (by simp)
      · unfold State.withdrawRetakeReserved
        split
        · next v _ => exact State.Leaves.indexingTest ((h.freeReserved v).same (by simp)) _
        · exact h.same (by simp)

end State.Leaves

end

end Sys2Proof.Machine
end

section
/-! Tables, settings, rolls and staging bytes change by their own commands alone. -/

namespace Sys2Proof.Machine

/-! ### The host requests -/

section
variable {s t : State}

theorem loadRollOwner_leaves (a b c d : Word) {o : Part → Bool} (ho : o .rolls = true) (h : s.Leaves o t) :
    s.Leaves o (loadRollOwner a b c d t).1 := by
  unfold loadRollOwner
  split
  · exact h
  · next g _ =>
    split
    · exact h
    · split
      · exact h
      · have hloaded := h.modHead g (f := fun k => k.rollLoaded b.toNat c.toNat (decide (d = 1))) fun k =>
          ⟨fun hf => absurd (ho.symm.trans hf) nofun, fun _ => rfl, fun _ => ⟨rfl, rfl⟩⟩
        exact (hloaded.trackerAcquire g).retry _

theorem unloadRollOwner_leaves (a : Word) {o : Part → Bool} (ho : o .rolls = true) (h : s.Leaves o t) :
    s.Leaves o (unloadRollOwner a t).1 := by
  have hunloaded (g : Fin 4) : s.Leaves o (t.modHead g Head.rollUnloaded) :=
    h.modHead g fun k => ⟨fun hf => absurd (ho.symm.trans hf) nofun, fun _ => rfl, fun _ => ⟨rfl, rfl⟩⟩
  unfold unloadRollOwner
  split
  · exact h
  · split
    · exact h
    · exact h
    · exact h
    · split
      · exact h
      · exact hunloaded _
    · split
      · exact h
      · exact (hunloaded _).raise _

theorem headResetOwner_leaves (a : Word) {o : Part → Bool} (h : s.Leaves o t) : s.Leaves o (headResetOwner a t).1 := by
  have hreset (g : Fin 4) : s.Leaves o (t.resetHead g) := by
    refine State.Leaves.trackerAcquire (State.Leaves.modHead_rest h g ?_) g
    exact fun _ => ⟨rfl, rfl, rfl, rfl, rfl, rfl, rfl⟩
  unfold headResetOwner
  split
  · exact h
  · split
    · exact ((hreset _).raise _).retry _
    · exact hreset _
    all_goals exact h

theorem setDoseOwner_leaves (a b c : Word) {o : Part → Bool} (ho : o .dose = true) (h : s.Leaves o t) :
    s.Leaves o (setDoseOwner a b c t).1 := by
  unfold setDoseOwner
  split
  · exact h
  · split
    · exact h
    · exact h.modHead _ (f := fun k => { k with dose := { k.dose with target := b.toNat, threshold := c.toNat } }) fun k =>
        ⟨fun _ => ⟨rfl, rfl, rfl, le_rfl⟩, fun _ => rfl, fun hf => absurd (ho.symm.trans hf) nofun⟩

theorem setTrackerOwner_leaves (a b : Word) {o : Part → Bool} (ho : o .holdLock = true) (h : s.Leaves o t) :
    s.Leaves o (setTrackerOwner a b t).1 := by
  unfold setTrackerOwner
  split
  · exact h
  · split
    · exact h
    · exact h.modHead _ (f := fun k => { k with tracker := { k.tracker with holdLock := decide (b = 1) } }) fun k =>
        ⟨fun _ => ⟨rfl, rfl, rfl, le_rfl⟩, fun hf => absurd (ho.symm.trans hf) nofun, fun _ => ⟨rfl, rfl⟩⟩

/-- An owned change of the Series Table. -/
theorem modSeries_owned {o : Part → Bool} (ho : o .series = true) (h : s.Leaves o t) (c : Fin 32) (f : Series → Series) :
    s.Leaves o (t.modSeries c f) := h.modSeries c fun hf => absurd (ho.symm.trans hf) nofun

theorem owner_leaves {i : Instr} {q : HostRequest} (hq : requestOf i = some q) (h : s.Leaves (ownsPart i) t) :
    s.Leaves (ownsPart i) (q.owner t).1 := by
  cases i <;> simp only [requestOf, Option.some.injEq, reduceCtorEq] at hq <;> subst hq
  case withdraw => exact h.withdrawOwner _
  case loadRoll => exact loadRollOwner_leaves _ _ _ _ rfl h
  case unloadRoll => exact unloadRollOwner_leaves _ rfl h
  case headReset => exact headResetOwner_leaves _ h
  case setDose => exact setDoseOwner_leaves _ _ _ rfl h
  case setTracker => exact setTrackerOwner_leaves _ _ rfl h
  case setSeries =>
    simp only [setSeriesOwner]
    split
    · next c d _ _ =>
      have hseries := modSeries_owned rfl h c (·.rewritten d)
      split_ifs
      · exact h
      · exact h
      · exact h
      · exact hseries.retry _
      · exact hseries
    · exact h
  case clearSeries =>
    simp only [clearSeriesOwner]
    split
    · exact h
    · next c _ =>
      split_ifs
      · exact h
      · exact h
      · exact modSeries_owned rfl h c fun _ => Series.reset
  case cutOffSeries =>
    simp only [cutOffOwner]
    split
    · exact h
    · split
      · exact h
      · exact h
      · exact State.Leaves.judgeCutOff (modSeries_owned rfl h _ _) _
  case reopenSeries =>
    simp only [reopenOwner]
    split
    · exact h
    · split
      · exact h
      · split
        · exact h
        · exact h
        · split
          · exact h
          · exact (modSeries_owned rfl h _ _).retry _
  case setFormat =>
    simp only [setFormatOwner]
    split
    · exact h
    · split_ifs
      · exact h
      · exact h
      · exact h
      · exact ⟨h.pending, h.memory, nofun, h.admission, h.quantum, h.series, h.heads, h.enables⟩
  case setAdmission =>
    simp only [setAdmissionOwner]
    split
    · split_ifs
      · exact h
      · exact h
      · exact ⟨h.pending, h.memory, h.formats, nofun, h.quantum, h.series, h.heads, h.enables⟩
    · exact h
  case setHold =>
    simp only [setHoldOwner]
    split
    · exact h
    · exact ⟨h.pending, h.memory, h.formats, h.admission, nofun, h.series, h.heads, h.enables⟩
  case setEventEnables =>
    simp only [setEventEnablesOwner]
    split
    · exact h
    · exact ⟨h.pending, h.memory, h.formats, h.admission, h.quantum, h.series, h.heads, nofun⟩
  case headStart =>
    simp only [headStartOwner]
    split
    · exact h
    · next g _ =>
      have hstarted := h.modHead_rest g (f := fun k => { k with state := .running }) fun _ => ⟨rfl, rfl, rfl, rfl, rfl, rfl, rfl⟩
      split
      · exact hstarted
      · exact hstarted
      all_goals exact h
  case headStop =>
    simp only [headStopOwner]
    split
    · exact h
    · next g _ =>
      split
      · exact h.modHead_rest g (f := fun k => { k with state := if k.inFlight.isSome then .stopping else .ready })
          fun _ => ⟨rfl, rfl, rfl, rfl, rfl, rfl, rfl⟩
      all_goals exact h
  case closeFiche =>
    simp only [closeFicheOwner]
    split
    · exact h
    · split
      · exact h
      all_goals exact h.closeFiche _
  case readStatistics =>
    simp only [readStatisticsOwner]
    split
    · split
      · exact h.same (by simp)
      · exact h
    · split
      · split
        · next g _ =>
          exact h.modHead_rest g (f := fun k => { k with counters := Vector.replicate 7 0 })
            fun _ => ⟨rfl, rfl, rfl, rfl, rfl, rfl, rfl⟩
        · exact h
      · exact h
  case readNotice =>
    simp only [readNoticeOwner]
    split
    · exact h
    · split_ifs <;> exact h.same (by simp)
  case acknowledgeEvents => simp only [acknowledgeEventsOwner]; split <;> [exact h; exact h.same (by simp)]
  case void =>
    simp only [voidOwner]
    split
    · exact h
    · split
      · exact h
      · split
        all_goals try exact h
        split
        · exact h
        · split
          · exact h
          · exact h.same (by simp)
  case rekey =>
    simp only [rekeyOwner]
    split
    · exact h
    · split
      · exact h
      · split
        all_goals try exact h
        all_goals
          split_ifs
          · exact h
          · exact h
          · exact h.same (by simp)
  case retireFiche =>
    simp only [retireOwner]
    split
    · exact h
    · split_ifs
      · exact h
      · exact h
      · exact h.same (by simp)
  case find => simp only [findOwner]; split_ifs <;> [exact h; (split <;> exact h)]
  case findNext => simp only [findNextOwner]; split_ifs <;> [exact h; (split <;> exact h)]
  case readFormat => simp only [readFormatOwner]; split <;> [exact h; (split <;> exact h)]
  case tryFit =>
    simp only [tryFitOwner]
    split
    · exact h
    · split
      · exact h
      · split
        · exact h
        · split <;> exact h
  case readSeries => simp only [readSeriesOwner]; split <;> [exact h; exact h.same (by simp)]
  case ficheStatus =>
    simp only [ficheStatusOwner]
    split
    · exact h
    · split_ifs <;> exact h
  case readAdmission => simp only [readAdmissionOwner]; split <;> exact h
  case linkStatus => simp only [linkStatusOwner]; split <;> exact h
  case stagingStatus => exact h
  case headStatus => simp only [headStatusOwner]; split <;> [exact h; exact h.same (by simp)]
  case trackerStatus => simp only [trackerStatusOwner]; split <;> exact h
  case doseStatus => simp only [doseStatusOwner]; split <;> exact h
  case readEvents => exact h

/-! ### Every command -/

theorem State.Leaves.modPort {o : Part → Bool} (h : s.Leaves o t) {f : Port → Port}
    (hf : ∀ p, (f p).enables = p.enables ∧ (f p).doneEnable = p.doneEnable) : s.Leaves o (t.modPort f) where
  pending := h.pending
  memory := h.memory
  formats := h.formats
  admission := h.admission
  quantum := h.quantum
  series := h.series
  heads := h.heads
  enables ho := ⟨(hf _).1.trans (h.enables ho).1, (hf _).2.trans (h.enables ho).2⟩

theorem State.Leaves.startRequest {o : Part → Bool} (h : s.Leaves o t) : s.Leaves o t.startRequest :=
  h.modPort fun _ => ⟨rfl, rfl⟩

theorem State.Leaves.finishRequest {o : Part → Bool} (h : s.Leaves o t) (b : Nat) (r : Response) :
    s.Leaves o (t.finishRequest b r) := by
  refine h.modPort fun p => ?_
  split
  · exact ⟨rfl, rfl⟩
  · split <;> exact ⟨rfl, rfl⟩

theorem request_leaves {o : Part → Bool} (h : s.Leaves o t) {code : Nat} {body : List Word} {owner : State → State × Response}
    (ho : ∀ u : State, s.Leaves o u → s.Leaves o (owner u).1) : s.Leaves o (t.request code body owner) := by
  have hwritten : s.Leaves o (t.writeRequest (requestMessage code body)) := h.modPort fun _ => ⟨rfl, rfl⟩
  unfold State.request
  split
  · exact (ho _ hwritten.startRequest).finishRequest _ _
  · split
    · exact (ho _ h).finishRequest _ _
    · exact hwritten.raise _

theorem exec_leaves {c : Instr} (hc : ∀ b, c ≠ .powerOn b) (h : exec c s = .next t) : s.Leaves (ownsPart c) t := by
  have hs : s.Leaves (ownsPart c) s := .refl s
  cases hq : requestOf c with
  | some q =>
    rw [exec_request hq] at h
    cases h
    exact request_leaves hs fun _ hu => owner_leaves hq hu
  | none =>
    cases c <;> simp only [requestOf, reduceCtorEq] at hq <;> simp only [exec] at h
    case powerOn b => exact absurd rfl (hc b)
    case go buffer =>
      unfold execGo at h
      dsimp only at h
      have hbuffer := hs.modPort (f := fun p => { p with requestBuffer := buffer }) fun _ => ⟨rfl, rfl⟩
      split at h
      · cases h; exact hbuffer.raise _
      · split at h <;> cases h
        · exact hbuffer.startRequest
        · exact hbuffer.startRequest.finishRequest _ _
    case portClear =>
      cases h
      exact ⟨rfl, fun _ => rfl, fun _ => rfl, fun _ => rfl, fun _ => rfl, fun _ _ => .refl _, fun _ => .refl _, nofun⟩
    case linkActive l => cases h; exact hs.carrierAppears l
    case linkDown l =>
      unfold execLinkDown at h
      split at h
      · split at h <;> cases h
        · exact hs.same (by simp)
        · exact (hs.same (u := s.carrierLost l) (by simp)).endWithCarrier l _
      · cases h; exact hs
    case submitHead l f => cases h; exact hs.takeFixed (hs.takeHead l _) l _ _ f
    case body l k f =>
      unfold execBody at h
      split at h
      · split at h
        · split at h <;> cases h
          · exact State.Leaves.takeBody rfl hs l _
          · exact hs.same (by simp)
        · cases h; exact hs.same (by simp)
      · cases h; exact hs
    case submitEnd l f => cases h; exact hs.takeFixed (hs.takeEnd l _) l _ _ f
    case probe l f => cases h; exact hs.takeFixed (hs.same (by simp)) l _ _ f
    case receptionTimerExpiry l =>
      unfold execReceptionTimerExpiry at h
      split at h <;> cases h
      · exact hs.endRunning l _
      · exact hs
    case holdTimerExpiry l =>
      unfold execHoldTimerExpiry at h
      split at h
      · split at h <;> cases h <;> exact hs.same (by simp)
      · cases h; exact hs
    case serveWaitingLists =>
      unfold execServeWaitingLists at h
      split at h
      · obtain rfl := Host.Outcome.next.inj h
        exact hs
      · next e rest _ =>
        obtain rfl := Host.Outcome.next.inj h
        exact (hs.same (u := { s with retryEvents := rest }) ⟨rfl, rfl, rfl, rfl, rfl, rfl, rfl, rfl, rfl⟩).servePass
    case entryTake g =>
      unfold execEntryTake at h
      split at h
      · split at h <;> cases h
        · exact hs
        · exact hs.takeEntry g _ _
      · cases h; exact hs
    case transportArrival g m =>
      unfold execTransportArrival at h
      split at h
      · cases h; exact hs
      · split at h
        · have harrived := (hs.modHead_rest g (f := fun k => { k with transportLimit := none, awaited := none })
            fun _ => ⟨rfl, rfl, rfl, rfl, rfl, rfl, rfl⟩).trackerAcquire g
          dsimp only at h
          split at h <;> cases h
          · exact harrived.modHead_rest g (f := fun k => { k with codeReads := some [] })
              fun _ => ⟨rfl, rfl, rfl, rfl, rfl, rfl, rfl⟩
          · exact harrived.sheetReached g _
        · cases h; exact hs
    case sheetCodeRead g v =>
      unfold execSheetCodeRead at h
      split at h
      · next reads _ _ =>
        split at h
        · split at h
          · cases h
            exact hs.modHead_rest g (f := fun k => { k with codeReads := some (reads ++ [v]) })
              fun _ => ⟨rfl, rfl, rfl, rfl, rfl, rfl, rfl⟩
          · cases h; exact hs.enterFault g _
          · split at h <;> cases h
            · exact hs.sheetReached g _
            · exact hs.enterFault g _
        · cases h; exact hs
      · cases h; exact hs
    case transportTimeout g =>
      unfold execTransportTimeout at h
      split at h <;> cases h
      · exact hs.enterFault g _
      · exact hs
    case stageTimeout g =>
      unfold execStageTimeout at h
      split at h <;> cases h
      · exact hs.enterFault g _
      · exact hs
    case stageCompletion g m r =>
      unfold execStageCompletion at h
      split at h
      · cases h; exact hs
      · split at h
        · have hstaged := hs.modHead_rest g (f := Head.staged) fun _ => ⟨rfl, rfl, rfl, rfl, rfl, rfl, rfl⟩
          dsimp only at h
          split at h <;> cases h
          · exact hstaged.acquisitionReading g _ _ r
          · exact hstaged.positioningReading g _ r
          · exact hs
          · exact hs
        · cases h; exact hs
    case photocellReport g m =>
      have hlast := hs.modHead_rest g (f := fun k => { k with dose := { k.dose with last := m.toNat } })
        fun _ => ⟨rfl, rfl, rfl, rfl, rfl, rfl, rfl⟩
      unfold execPhotocellReport at h
      split at h
      · cases h; exact hs
      · split at h
        · dsimp only at h
          split at h <;> cases h
          · exact hlast.enterFault g _
          · exact hlast.drawEnds g _ _
        · cases h; exact hs
    case jam g =>
      unfold execJam at h
      split at h <;> cases h
      · exact hs.enterFault g _
      · exact hs.enterFault g _
      · exact hs.enterFault g _
      · exact hs
      · exact hs

/-! ### The owners of the parts -/

theorem ownsPart_memory {c : Instr} (h : ∀ l k f, c ≠ .body l k f) : ownsPart c .memory = false := by
  cases c
  case body l k f => exact absurd rfl (h l k f)
  all_goals rfl

theorem ownsPart_formats {c : Instr} (h : ∀ i r n px py ox oy b g, c ≠ .setFormat i r n px py ox oy b g) :
    ownsPart c .formats = false := by
  cases c
  case setFormat i r n px py ox oy b g => exact absurd rfl (h i r n px py ox oy b g)
  all_goals rfl

theorem ownsPart_admission {c : Instr} (h : ∀ i e l p g m, c ≠ .setAdmission i e l p g m) :
    ownsPart c .admission = false := by
  cases c
  case setAdmission i e l p g m => exact absurd rfl (h i e l p g m)
  all_goals rfl

theorem ownsPart_quantum {c : Instr} (h : ∀ q, c ≠ .setHold q) : ownsPart c .quantum = false := by
  cases c
  case setHold q => exact absurd rfl (h q)
  all_goals rfl

theorem ownsPart_series {c : Instr} (hset : ∀ a f m n x d, c ≠ .setSeries a f m n x d) (hclear : ∀ a, c ≠ .clearSeries a)
    (hcut : ∀ a, c ≠ .cutOffSeries a) (hreopen : ∀ a d, c ≠ .reopenSeries a d) : ownsPart c .series = false := by
  cases c
  case setSeries a f m n x d => exact absurd rfl (hset a f m n x d)
  case clearSeries a => exact absurd rfl (hclear a)
  case cutOffSeries a => exact absurd rfl (hcut a)
  case reopenSeries a d => exact absurd rfl (hreopen a d)
  all_goals rfl

theorem ownsPart_rolls {c : Instr} (hload : ∀ a n x m, c ≠ .loadRoll a n x m) (hunload : ∀ a, c ≠ .unloadRoll a) :
    ownsPart c .rolls = false := by
  cases c
  case loadRoll a n x m => exact absurd rfl (hload a n x m)
  case unloadRoll a => exact absurd rfl (hunload a)
  all_goals rfl

theorem ownsPart_holdLock {c : Instr} (h : ∀ a v, c ≠ .setTracker a v) : ownsPart c .holdLock = false := by
  cases c
  case setTracker a v => exact absurd rfl (h a v)
  all_goals rfl

theorem ownsPart_dose {c : Instr} (h : ∀ a x y, c ≠ .setDose a x y) : ownsPart c .dose = false := by
  cases c
  case setDose a x y => exact absurd rfl (h a x y)
  all_goals rfl

theorem ownsPart_enables {c : Instr} (hset : ∀ w, c ≠ .setEventEnables w) (hclear : c ≠ .portClear) :
    ownsPart c .enables = false := by
  cases c
  case setEventEnables w => exact absurd rfl (hset w)
  case portClear => exact absurd rfl hclear
  all_goals rfl

/-- Settles O60. -/
theorem ownersAlone : Obligations.OwnersAlone := by
  intro c s t h
  by_cases hpower : ∃ b, c = .powerOn b
  · obtain ⟨b, rfl⟩ := hpower
    cases h
    refine ⟨frame_foldl (fun u : State => u.pending = s.pending) _ (fun u l hu => ?_) _ _ rfl, fun hno => absurd rfl (hno b)⟩
    split
    · simpa using hu
    · exact hu
  · have hleaves := exec_leaves (fun b hb => hpower ⟨b, hb⟩) h
    refine ⟨hleaves.pending, fun _ => ⟨fun hno a => ?_, fun hno => hleaves.formats (ownsPart_formats hno),
      fun hno => hleaves.admission (ownsPart_admission hno), fun hno => hleaves.quantum (ownsPart_quantum hno),
      fun hset hclear hcut hreopen i => ?_, fun hload hunload g => (hleaves.heads g).rolls (ownsPart_rolls hload hunload),
      fun hno g => (hleaves.heads g).holdLock (ownsPart_holdLock hno), fun hno g => (hleaves.heads g).dose (ownsPart_dose hno),
      fun hset hclear => hleaves.enables (ownsPart_enables hset hclear)⟩⟩
    · rw [hleaves.memory (ownsPart_memory hno)]
    · have hseries := hleaves.series (ownsPart_series hset hclear hcut hreopen) i
      exact ⟨hseries.entry, hseries.next⟩

end

end Sys2Proof.Machine
end

section
/-! Layouts of messages, numbers, keys, templates and frames sent (section 11.6, R193). -/

namespace Sys2Proof.Machine

/-! ### Words of a response and of a request -/

theorem overwrite_getElem {n : Nat} (buffer : Vector Word n) (words : List Word) (j : Nat) (hj : j < n) :
    (overwrite buffer words)[j] = words.getD j buffer[j] := Vector.getElem_ofFn hj

theorem word_extract (x start len : Nat) : (word x).extractLsb' start len = BitVec.ofNat len (x % 4294967296 / 2 ^ start) := by
  refine BitVec.eq_of_toNat_eq ?_
  rw [BitVec.extractLsb'_toNat, word_toNat, Nat.shiftRight_eq_div_pow, BitVec.toNat_ofNat]

/-- The three fields of a message header (section 11.6). -/
theorem headerWord_fields {low mid high : Nat} (hlow : low < 65536) (hmid : mid < 256) :
    (word (low + mid * 65536 + high * 16777216)).extractLsb' 0 16 = BitVec.ofNat 16 low ∧
      (word (low + mid * 65536 + high * 16777216)).extractLsb' 16 8 = BitVec.ofNat 8 mid ∧
      (word (low + mid * 65536 + high * 16777216)).extractLsb' 24 8 = BitVec.ofNat 8 high := by
  simp only [word_extract]
  refine ⟨BitVec.eq_of_toNat_eq ?_, BitVec.eq_of_toNat_eq ?_, BitVec.eq_of_toNat_eq ?_⟩ <;>
    simp only [BitVec.toNat_ofNat] <;> omega

theorem statusCode_lt (st : Status) : statusCode st < 65536 := by cases st <;> decide

/-! ### Numbers in bytes -/

theorem numberOf_append (p : List Byte) (b : Byte) : numberOf (p ++ [b]) = numberOf p * 256 + b.toNat := by
  simp [numberOf]

theorem numberOf_bytesOf (w n : Nat) : numberOf (bytesOf w n) = n % 256 ^ w := by
  induction w generalizing n with
  | zero => simp [bytesOf, numberOf, Nat.mod_one]
  | succ w ih =>
    have hdigit : (BitVec.ofNat 8 n).toNat = n % 256 := BitVec.toNat_ofNat n 8
    rw [bytesOf, numberOf_append, ih, hdigit, Nat.pow_succ, Nat.mul_comm (256 ^ w), Nat.mod_mul]
    omega

theorem bytesOf_getElem? {w j : Nat} (n : Nat) (hj : j < w) :
    (bytesOf w n)[j]? = some (BitVec.ofNat 8 (n / 256 ^ (w - 1 - j))) := by
  induction w generalizing n with
  | zero => exact absurd hj (Nat.not_lt_zero _)
  | succ w ih =>
    rw [bytesOf]
    rcases Nat.lt_or_eq_of_le (Nat.le_of_lt_succ hj) with hlt | rfl
    · rw [List.getElem?_append_left (by rwa [length_bytesOf]), ih _ hlt, Nat.div_div_eq_div_mul, ← Nat.pow_succ',
        show (w - 1 - j).succ = w + 1 - 1 - j by omega]
    · rw [List.getElem?_append_right (by rw [length_bytesOf]), length_bytesOf]
      simp

theorem bytesOf_one (n : Nat) : bytesOf 1 n = [BitVec.ofNat 8 n] := rfl

/-! ### Keys -/

theorem keyWords_read {k : Key} (hdate : k.date < 65536) (haccount : k.account ≤ 999999999999) (hitem : k.item < 65536) :
    keyOf (word (k.date * 65536 + k.item)) (word (k.account / 4294967296)) (word k.account) = k ∧
      (word (k.date * 65536 + k.item)).toNat = k.date * 65536 + k.item ∧
      (word (k.account / 4294967296)).toNat = k.account / 4294967296 ∧ (word k.account).toNat = k.account % 4294967296 := by
  obtain ⟨date, account, item⟩ := k
  dsimp only at *
  simp only [keyOf, word_toNat, Key.mk.injEq]
  refine ⟨⟨?_, ?_, ?_⟩, ?_, ?_, trivial⟩ <;> omega

theorem length_keyBytes (k : Key) : (keyBytes k).length = 9 := by simp [keyBytes, length_bytesOf]

theorem keyBytes_read {k : Key} (hdate : k.date < 65536) (haccount : k.account ≤ 999999999999) (hitem : k.item < 65536) :
    numberOf ((keyBytes k).take 2) = k.date ∧ numberOf (((keyBytes k).drop 2).take 5) = k.account ∧
      numberOf ((keyBytes k).drop 7) = k.item := by
  have hfirst : (keyBytes k).take 2 = bytesOf 2 k.date := by
    rw [keyBytes, List.append_assoc]
    exact List.take_left' (length_bytesOf _ _)
  have hmiddle : ((keyBytes k).drop 2).take 5 = bytesOf 5 k.account := by
    rw [keyBytes, List.append_assoc, List.drop_left' (length_bytesOf _ _)]
    exact List.take_left' (length_bytesOf _ _)
  have hlast : (keyBytes k).drop 7 = bytesOf 2 k.item :=
    List.drop_left' (by rw [List.length_append, length_bytesOf, length_bytesOf])
  rw [hfirst, hmiddle, hlast, numberOf_bytesOf, numberOf_bytesOf, numberOf_bytesOf]
  omega

/-! ### Templates -/

theorem wordText_textWord (a b c d : Byte) : wordText (textWord a b c d) = [a, b, c, d] := by
  have hat (i : Nat) : (textWord a b c d).getLsbD i = if i < 8 then d.getLsbD i else if i - 8 < 8 then c.getLsbD (i - 8)
      else if i - 8 - 8 < 8 then b.getLsbD (i - 8 - 8) else a.getLsbD (i - 8 - 8 - 8) := by
    rw [textWord, BitVec.getLsbD_append, BitVec.getLsbD_append, BitVec.getLsbD_append]
  have hbyte {n : Nat} {x : Byte} (hx : ∀ i < 8, (textWord a b c d).getLsbD (n + i) = x.getLsbD i) :
      (textWord a b c d).extractLsb' n 8 = x := by
    refine BitVec.eq_of_getLsbD_eq fun i hi => ?_
    rw [BitVec.getLsbD_extractLsb', hx i hi, decide_eq_true hi, Bool.true_and]
  rw [wordText, hbyte (x := a), hbyte (x := b), hbyte (x := c), hbyte (x := d)]
  all_goals
    intro i hi
    rw [hat]
    grind

theorem packText_read {n : Nat} {t : Text} (h : t.length = 4 * n) : (packText t).flatMap wordText = t := by
  induction n generalizing t with
  | zero =>
    rw [List.length_eq_zero_iff.mp h]
    rfl
  | succ n ih =>
    match t, h with
    | a :: b :: c :: d :: rest, h =>
      have hrest : rest.length = 4 * n := by simp only [List.length_cons] at h; omega
      rw [packText, List.flatMap_cons, wordText_textWord, ih hrest]
      rfl

/-! ### Frames sent -/

theorem placed_payload (p : Placed) : outPayload (.placed p) = bytesOf 2 p.tag.toNat ++ keyBytes p.key ++
    [BitVec.ofNat 8 p.fiche.series.val] ++ bytesOf 2 p.fiche.date ++ bytesOf 2 p.fiche.sequence ++
    ([BitVec.ofNat 8 (0x41 + p.grid.row)] ++ digits 2 (p.grid.column + 1)) ++ [BitVec.ofNat 8 p.submittedClass] ++
    [(if p.dose then 1#8 else 0) ||| (if p.retake then 2#8 else 0)] := by
  have hflags : BitVec.ofNat 8 ((if p.dose then 1 else 0) + (if p.retake then 2 else 0)) =
      (if p.dose then 1#8 else 0) ||| (if p.retake then 2#8 else 0) := by
    cases p.dose <;> cases p.retake <;> rfl
  rw [← hflags, ← letter_eq]
  rfl

theorem length_placed_payload (p : Placed) : (outPayload (.placed p)).length = 21 := by
  simp [placed_payload, length_bytesOf, length_keyBytes, digits_length]

theorem outPayload_probeReply (p : ProbeReply) : outPayload (.probeReply p) =
    [BitVec.ofNat 8 p.link.val, if p.receiving then 1 else 0, p.withdrawn] ++ bytesOf 2 p.tag.toNat ++
      bytesOf 4 p.expected.toNat ++ bytesOf 4 p.soFar.toNat ++ bytesOf 2 p.quantum := by
  have hstate : (if p.receiving then 1 else 0 : Byte) = BitVec.ofNat 8 (if p.receiving then 1 else 0) := by
    cases p.receiving <;> rfl
  rw [hstate]
  rfl

/-! ### The port status word -/

theorem portStatusWord_bits (s : State) : (portStatusWord s).getLsbD 0 = s.port.execution.isSome ∧
    (portStatusWord s).getLsbD 1 = s.port.done ∧ (portStatusWord s).getLsbD 2 = interruptLine s ∧
    ∀ n, 3 ≤ n → (portStatusWord s).getLsbD n = false := by
  have hsmall : (portStatusWord s).toNat < 2 ^ 3 := by
    rw [portStatusWord, word_toNat]
    split_ifs <;> decide
  refine ⟨?_, ?_, ?_, fun n hn => ?_⟩
  · unfold portStatusWord
    cases s.port.execution.isSome <;> cases s.port.done <;> cases interruptLine s <;> rfl
  · unfold portStatusWord
    cases s.port.execution.isSome <;> cases s.port.done <;> cases interruptLine s <;> rfl
  · unfold portStatusWord
    cases s.port.execution.isSome <;> cases s.port.done <;> cases interruptLine s <;> rfl
  · exact Nat.testBit_lt_two_pow (Nat.lt_of_lt_of_le hsmall (Nat.pow_le_pow_right (by decide) hn))

theorem response_words (buffer : Vector Word 64) {codeByte : Nat} {r : Response} (hlen : r.body.length < 64) :
    let answer := overwrite buffer (responseWords codeByte r)
    (answer[0].extractLsb' 0 16 = BitVec.ofNat 16 (statusCode r.status)) ∧
      (answer[0].extractLsb' 16 8 = BitVec.ofNat 8 (r.body.length + 1)) ∧
      (answer[0].extractLsb' 24 8 = BitVec.ofNat 8 codeByte) ∧
      (∀ (j : Nat) (h : j < r.body.length) (hj : j + 1 < 64), answer[j + 1] = r.body[j]) ∧
      ∀ (j : Nat) (hj : j < 64), r.body.length < j → answer[j] = buffer[j] := by
  obtain ⟨hlow, hmid, hhigh⟩ := headerWord_fields (high := codeByte) (statusCode_lt r.status)
    (show r.body.length + 1 < 256 by omega)
  refine ⟨?_, ?_, ?_, fun j h hj => ?_, fun j hj h => ?_⟩
  · rw [overwrite_getElem]
    exact hlow
  · rw [overwrite_getElem]
    exact hmid
  · rw [overwrite_getElem]
    exact hhigh
  · rw [overwrite_getElem, responseWords, List.getD_cons_succ]
    exact List.getD_eq_getElem _ _ h
  · rw [overwrite_getElem]
    exact List.getD_eq_default _ _ (by rw [responseWords, List.length_cons]; omega)

/-- Settles O7. -/
theorem messageLayouts : Obligations.MessageLayouts := by
  refine ⟨fun n => overwrite_getElem, fun buffer codeByte r _ hlen => response_words buffer hlen,
    ⟨fun k hd ha hi => ?_, fun w n => ⟨numberOf_bytesOf w n, length_bytesOf w n, fun j => bytesOf_getElem? n⟩,
      fun a b c d rest => ?_, fun t words n ht hn hwords => ?_, Key.before_iff⟩,
    by decide, by decide, by decide, by decide, by decide, by decide, fun _ _ _ => rfl, by decide, by decide, by decide,
    fun code body hcode hlen => ?_, portStatusWord_bits, fun _ => rfl, fun _ _ => ⟨rfl, rfl⟩, fun _ _ => ⟨rfl, rfl⟩,
    fun p => ⟨rfl, length_placed_payload p, placed_payload p⟩, fun _ => ⟨rfl, rfl⟩, fun p => ⟨rfl, outPayload_probeReply p⟩⟩
  · obtain ⟨hread, hfirst, hsecond, hthird⟩ := keyWords_read hd ha hi
    exact ⟨_, _, _, rfl, hread, hfirst, hsecond, hthird, length_keyBytes k, keyBytes_read hd ha hi⟩
  · have hbytes := wordText_textWord a b c d
    rw [wordText] at hbytes
    injection hbytes with ha hbytes
    injection hbytes with hb hbytes
    injection hbytes with hc hbytes
    injection hbytes with hd
    exact ⟨_, rfl, ha, hb, hc, hd⟩
  · rw [templateText, hwords, packText_read (n := 7) ht, word_toNat]
    congr 1
    omega
  · obtain ⟨hlow, hmid, hhigh⟩ := headerWord_fields (high := 0) hcode (show body.length + 1 < 256 by omega)
    rw [Nat.zero_mul, Nat.add_zero] at hlow hmid hhigh
    exact ⟨_, rfl, hlow, hmid, hhigh⟩

end Sys2Proof.Machine
end

section
/-! Records, waiting lists, receptions, cells and queues as functions of keys, series, links, slots and heads: what
`State.recordsAgree` says of a state in terms of them, each of its parts about no more than it reads. -/

namespace Sys2Proof.Machine

/-! ### What a record asks of the other tables -/

/-- What a record with a reserved location asks of the film and of the queues: the location, the width of its image, its
class. -/
structure Hold where
  reserved : Reserved
  width : Nat
  cls : Nat

/-- The entry that draws a held cell. -/
def Hold.entry (v : Hold) : Entry := .cell v.reserved.slot v.reserved.place.cell v.cls

/-- What a record holds (R6). -/
def Record.hold (r : Record) : Option Hold := r.reserved.map fun v =>
  ⟨v, (r.image.map Image.cells).getD 1, r.source.effectiveClass⟩

/-- Whether a record's entry is in flight (R19). -/
def Record.isExposing (r : Record) : Bool := decide (r.state = .exposing ∨ r.state = .retakeExposing)

/-- The series on whose list a record waits (R17). -/
def Record.waitsOn (r : Record) : Option (Fin 32) :=
  if r.state = .waiting ∨ r.state = .retakeWaiting then some r.series else none

/-- Whether a record's image is being received, and then whether for a retake (R9). -/
def Record.receives (r : Record) : Option Bool :=
  if r.state = .receiving then some false else if r.state = .retakeReceiving then some true else none

/-- The key and the retake flag of a reception that is not withdrawn. -/
def Reception.running (c : Reception) : Option (Key × Bool) := if c.withdrawn then none else some (c.key, c.retake)

/-- Title entries may stand twice in a queue. -/
def Entry.isTitle : Entry → Bool
  | .title _ => true
  | _ => false

theorem Entry.isTitle_iff (e : Entry) : e.isTitle = true ↔ ∃ i, e = .title i := by cases e <;> simp [Entry.isTitle]

/-! ### The tables as functions -/

/-- A slot with the cell counts of its format. -/
structure SlotView where
  state : SlotState
  fiche : FicheId
  sheet : Nat
  documents : Nat
  indexes : Nat
  cells : List Cell

/-- A link: its carrier, whether it carries a reception, and what that reception fills. -/
structure LinkView where
  active : Bool
  busy : Bool
  running : Option (Key × Bool)

/-- Cells and queues with the locations held on them. -/
structure Film where
  hold : Key → Option Hold
  exposing : Key → Bool
  slot : Fin 12 → SlotView
  queue : Fin 4 → List Entry
  flying : Fin 4 → Option Entry

/-- The tables that the agreement of the records speaks of. -/
structure View where
  record : Key → Option Record
  waiting : Fin 32 → List Key
  link : Fin 8 → LinkView
  slot : Fin 12 → SlotView
  queue : Fin 4 → List Entry
  flying : Fin 4 → Option Entry

/-- What the keys wait on, fill and hold. -/
def View.waits (v : View) : Key → Option (Fin 32) := (·.bind Record.waitsOn) ∘ v.record
def View.receives (v : View) : Key → Option Bool := (·.bind Record.receives) ∘ v.record
def View.hold (v : View) : Key → Option Hold := (·.bind Record.hold) ∘ v.record
def View.exposing (v : View) : Key → Bool := (·.any Record.isExposing) ∘ v.record
def View.film (v : View) : Film := ⟨v.hold, v.exposing, v.slot, v.queue, v.flying⟩

/-- A slot's tables, under the formats of a state. -/
def State.seen (s : State) (t : Slot) : SlotView :=
  ⟨t.state, t.fiche, t.sheet, (s.formatAt t.format).documentCells, (s.formatAt t.format).indexCells, t.cells⟩

def State.slotView (s : State) (i : Fin 12) : SlotView := s.seen s.slots[i]

/-- A link's tables. -/
def Link.view (k : Link) : LinkView := ⟨k.active, k.reception.isSome, k.reception.bind Reception.running⟩

/-- The tables of a state. -/
def State.view (s : State) : View where
  record := s.findRecord
  waiting c := s.waiting[c]
  link l := s.links[l].view
  slot := s.slotView
  queue h := s.heads[h].queue
  flying h := s.heads[h].inFlight.map InFlight.entry

/-! ### The agreement, part by part -/

/-- The lists name those that wait, each once (R17). -/
def WaitsAgree (waits : Key → Option (Fin 32)) (waiting : Fin 32 → List Key) : Prop :=
  ∀ c, (waiting c).Nodup ∧ ∀ k, k ∈ waiting c ↔ waits k = some c

/-- Receptions run on ACTIVE links and fill what is received, each once (R9, R114, R122). -/
structure ReceivesAgree (receives : Key → Option Bool) (link : Fin 8 → LinkView) : Prop where
  active : ∀ l, (link l).busy = true → (link l).active = true
  running : ∀ k b, receives k = some b ↔ ∃ l, (link l).running = some (k, b)
  once : ∀ {l m k b c}, (link l).running = some (k, b) → (link m).running = some (k, c) → l = m

/-- A held location lies on a slot's film (R6, R59). -/
structure Hold.LiesOn (v : Hold) (k : Key) (t : SlotView) : Prop where
  live : t.state = .opened ∨ t.state = .closing
  head : v.reserved.place.head = headOf v.reserved.slot
  fiche : v.reserved.place.fiche = t.fiche
  sheet : v.reserved.place.sheet = t.sheet
  document : v.reserved.place.cell < t.documents
  width : v.reserved.place.width = v.width
  lead : t.cells[v.reserved.place.cell]? = some ⟨.held, some k, v.reserved.place.width, false⟩
  second : v.reserved.place.width = 2 →
    t.cells[v.reserved.place.cell + 1]? = some ⟨.trailing, some k, 0, false⟩

/-- The entries of a head: the one in flight and those queued. -/
def Film.line (f : Film) (h : Fin 4) : List Entry := (f.flying h).toList ++ f.queue h

/-- An entry draws something that is there (R59, R80). -/
def Film.Draws (f : Film) (e : Entry) : Prop :=
  match e with
  | .title _ => True
  | .cell .. => ∃ k v, f.hold k = some v ∧ v.entry = e
  | .index i n part => (f.slot i).state = .indexing ∧ n = (f.slot i).documents + part ∧
      ∃ c, (f.slot i).cells[n]? = some c ∧ c.state = .indexPending

/-- A slot that is not FREE has a map of its format's size; the index cells of an OPEN or CLOSING one are INDEX-PENDING,
and an OPEN one holds an EMPTY document cell (R43, R57, R60). -/
structure SlotView.Fits (t : SlotView) : Prop where
  size : t.state ≠ .free → t.cells.length = t.documents + t.indexes
  index : t.state = .opened ∨ t.state = .closing → ∀ n c, t.documents ≤ n → t.cells[n]? = some c → c.state = .indexPending
  room : t.state = .opened → ∃ n < t.documents, emptyAt t.cells n = true

/-- Held locations, cells and entries belong together (R6, R19 to R21, R42, R59, R80, R147). -/
structure Film.Agrees (f : Film) : Prop where
  held : ∀ {k v}, f.hold k = some v → v.LiesOn k (f.slot v.reserved.slot)
  holder : ∀ {i n c}, (f.slot i).cells[n]? = some c → c.state = .held →
    ∃ k v, f.hold k = some v ∧ v.reserved.slot = i ∧ v.reserved.place.cell = n
  draws : ∀ {h e}, e ∈ f.line h → headOf e.slot = h ∧ f.Draws e
  once : ∀ h, ((f.line h).filter fun e => !e.isTitle).Nodup
  queued : ∀ {k v}, f.hold k = some v → f.exposing k = false → v.entry ∈ f.queue (headOf v.reserved.slot)
  flies : ∀ {k v}, f.hold k = some v → f.exposing k = true → f.flying (headOf v.reserved.slot) = some v.entry
  fits : ∀ i, (f.slot i).Fits

/-- Records, waiting lists, receptions, cells and queues agree. -/
structure View.Agrees (v : View) : Prop where
  parts : ∀ {k r}, v.record k = some r → r.key = k ∧ r.partsFit
  waits : WaitsAgree v.waits v.waiting
  receives : ReceivesAgree v.receives v.link
  film : v.film.Agrees

/-! ### What a record asks for, by its state -/

theorem Record.waitsOn_eq_some {r : Record} {c : Fin 32} :
    r.waitsOn = some c ↔ (r.state = .waiting ∨ r.state = .retakeWaiting) ∧ r.series = c := by
  simp [Record.waitsOn]

theorem Record.receives_eq_some {r : Record} {b : Bool} :
    r.receives = some b ↔ r.state = if b then .retakeReceiving else .receiving := by
  cases b <;> cases hs : r.state <;> simp [Record.receives, hs]

theorem Reception.running_eq_some {c : Reception} {k : Key} {b : Bool} :
    c.running = some (k, b) ↔ c.withdrawn = false ∧ c.key = k ∧ c.retake = b := by
  cases hw : c.withdrawn <;> simp [Reception.running, hw]

theorem Record.hold_eq_some {r : Record} {v : Hold} :
    r.hold = some v ↔ r.reserved = some v.reserved ∧ v.width = (r.image.map Image.cells).getD 1 ∧
      v.cls = r.source.effectiveClass := by
  obtain ⟨w, a, b⟩ := v
  simp only [Record.hold, Option.map_eq_some_iff, Hold.mk.injEq]
  constructor
  · rintro ⟨x, hx, rfl, rfl, rfl⟩; exact ⟨hx, rfl, rfl⟩
  · rintro ⟨hx, rfl, rfl⟩; exact ⟨w, hx, rfl, rfl, rfl⟩

theorem Record.hold_eq_none {r : Record} : r.hold = none ↔ r.reserved = none := by simp [Record.hold]

/-- The state of a record that holds a cell (R9). -/
theorem Record.partsFit.state_of_reserved {r : Record} (h : r.partsFit) {v : Reserved} (hv : r.reserved = some v) :
    r.state ∈ [RecordState.reserved, .exposing, .retakeReserved, .retakeExposing] := h.1.mp (by simp [hv])

/-- A record that holds no cell is in none of the states that do. -/
theorem Record.partsFit.reserved_eq_none {r : Record} (h : r.partsFit)
    (hs : r.state ∉ [RecordState.reserved, .exposing, .retakeReserved, .retakeExposing]) : r.reserved = none := by
  by_contra hv
  exact hs (h.1.mp hv)

/-! ### The parts of a view -/

section
variable {v : View} {k : Key}

theorem View.waits_eq_some {c : Fin 32} : v.waits k = some c ↔ ∃ r, v.record k = some r ∧
    (r.state = .waiting ∨ r.state = .retakeWaiting) ∧ r.series = c := by
  simp [View.waits, Option.bind_eq_some_iff, Record.waitsOn_eq_some]

theorem View.receives_eq_some {b : Bool} : v.receives k = some b ↔ ∃ r, v.record k = some r ∧
    r.state = if b then .retakeReceiving else .receiving := by
  simp [View.receives, Option.bind_eq_some_iff, Record.receives_eq_some]

theorem View.hold_eq_some {w : Hold} : v.hold k = some w ↔ ∃ r, v.record k = some r ∧ r.hold = some w := by
  simp [View.hold, Option.bind_eq_some_iff]

theorem View.exposing_of_record {r : Record} (h : v.record k = some r) : v.exposing k = r.isExposing := by
  simp [View.exposing, h]

end

theorem Link.view_running {k : Link} {key : Key} {b : Bool} : k.view.running = some (key, b) ↔
    ∃ c, k.reception = some c ∧ c.withdrawn = false ∧ c.key = key ∧ c.retake = b := by
  simp [Link.view, Option.bind_eq_some_iff, Reception.running_eq_some]

theorem Format.documentCells_add_indexCells (f : Format) : f.documentCells + f.indexCells = f.cellCount := by
  have h := f.length_newCells
  simpa [Format.newCells] using h

/-! ### The agreement of a state is that of its view -/

section
variable {s : State}

theorem State.record_iff (ho : s.directoryOrdered) {k : Key} {r : Record} :
    s.view.record k = some r ↔ r ∈ s.records ∧ r.key = k := State.findRecord_eq_some_iff ho

theorem State.waitingAgrees_iff (ho : s.directoryOrdered) : s.waitingAgrees ↔ WaitsAgree s.view.waits s.view.waiting := by
  refine forall_congr' fun c => and_congr Iff.rfl ?_
  constructor
  · rintro ⟨hlisted, hwaits⟩ k
    rw [View.waits_eq_some]
    constructor
    · intro hk
      obtain ⟨r, hr, rfl, hc, hs⟩ := hlisted k hk
      exact ⟨r, (State.record_iff ho).mpr ⟨hr, rfl⟩, hs, hc⟩
    · rintro ⟨r, hr, hs, hc⟩
      obtain ⟨hmem, rfl⟩ := (State.record_iff ho).mp hr
      exact hwaits r hmem hc hs
  · intro h
    refine ⟨fun k hk => ?_, fun r hr hc hs =>
      (h r.key).mpr (View.waits_eq_some.mpr ⟨r, (State.record_iff ho).mpr ⟨hr, rfl⟩, hs, hc⟩)⟩
    obtain ⟨r, hr, hs, hc⟩ := View.waits_eq_some.mp ((h k).mp hk)
    obtain ⟨hr, hk⟩ := (State.record_iff ho).mp hr
    exact ⟨r, hr, hk, hc, hs⟩

theorem State.receptionsAgree_iff (ho : s.directoryOrdered) :
    s.receptionsAgree ↔ ReceivesAgree s.view.receives s.view.link := by
  constructor
  · rintro ⟨hlinks, hrecords⟩
    have filled : ∀ {l k b}, (s.view.link l).running = some (k, b) → s.view.receives k = some b ∧
        ∀ m c, (s.view.link m).running = some (k, c) → m = l := by
      intro l k b hr
      obtain ⟨c, hc, hw, rfl, rfl⟩ := Link.view_running.mp hr
      obtain ⟨-, hrun⟩ := hlinks l c hc
      obtain ⟨⟨r, hr, hk, hs⟩, honce⟩ := hrun hw
      refine ⟨View.receives_eq_some.mpr ⟨r, (State.record_iff ho).mpr ⟨hr, hk⟩, hs⟩, fun m b hm => ?_⟩
      obtain ⟨d, hd, hdw, hdk, -⟩ := Link.view_running.mp hm
      exact honce m d hd hdk hdw
    refine ⟨fun l hl => ?_, fun k b => ⟨fun hr => ?_, fun ⟨l, hl⟩ => (filled hl).1⟩,
      fun hl hm => ((filled hl).2 _ _ hm).symm⟩
    · obtain ⟨c, hc⟩ := Option.isSome_iff_exists.mp hl
      exact (hlinks l c hc).1
    · obtain ⟨r, hr', hs⟩ := View.receives_eq_some.mp hr
      obtain ⟨hmem, rfl⟩ := (State.record_iff ho).mp hr'
      obtain ⟨l, c, hc, hck, hcw⟩ := hrecords r hmem (by rw [hs]; cases b <;> simp)
      have hrun : (s.view.link l).running = some (r.key, c.retake) := Link.view_running.mpr ⟨c, hc, hcw, hck, rfl⟩
      have hb := (filled hrun).1
      rw [hr, Option.some.injEq] at hb
      exact ⟨l, hb ▸ hrun⟩
  · intro h
    refine ⟨fun l c hc => ⟨h.active l (by simpa [State.view, Link.view] using Option.isSome_of_mem hc), fun hw => ?_⟩,
      fun r hr hs => ?_⟩
    · have hrun : (s.view.link l).running = some (c.key, c.retake) := Link.view_running.mpr ⟨c, hc, hw, rfl, rfl⟩
      obtain ⟨r, hr, hs⟩ := View.receives_eq_some.mp ((h.running _ _).mpr ⟨l, hrun⟩)
      obtain ⟨hr, hk⟩ := (State.record_iff ho).mp hr
      exact ⟨⟨r, hr, hk, hs⟩, fun m d hd hdk hdw => h.once (Link.view_running.mpr ⟨d, hd, hdw, hdk, rfl⟩) hrun⟩
    · have hreceives : s.view.receives r.key = some (decide (r.state = .retakeReceiving)) := by
        refine View.receives_eq_some.mpr ⟨r, (State.record_iff ho).mpr ⟨hr, rfl⟩, ?_⟩
        rcases hs with hs | hs <;> simp [hs]
      obtain ⟨l, hl⟩ := (h.running _ _).mp hreceives
      obtain ⟨c, hc, hw, hk, -⟩ := Link.view_running.mp hl
      exact ⟨l, c, hc, hk, hw⟩

end

end Sys2Proof.Machine
end

section
/-! The film's part of the agreement, and the agreement of a state as that of its view. -/

namespace Sys2Proof.Machine

/-! ### Consequences of the film's agreement -/

section
variable {f : Film}

/-- A held cell has one holder. -/
theorem Film.Agrees.hold_unique (hf : f.Agrees) {k k' : Key} {v v' : Hold} (hv : f.hold k = some v) (hv' : f.hold k' = some v')
    (hslot : v.reserved.slot = v'.reserved.slot) (hcell : v.reserved.place.cell = v'.reserved.place.cell) : k = k' := by
  have hl := (hf.held hv).lead
  rw [hslot, hcell, (hf.held hv').lead] at hl
  simp only [Option.some.injEq, Cell.mk.injEq] at hl
  exact hl.2.1.symm

/-- Entries that draw cells stand once in a head's line. -/
theorem Film.Agrees.line_once (hf : f.Agrees) {h : Fin 4} {e : Entry} (he : e.isTitle = false) (hfly : f.flying h = some e) :
    e ∉ f.queue h := by
  have ho := hf.once h
  rw [Film.line, hfly] at ho
  simp only [Option.toList_some, List.singleton_append, List.filter_cons, he, Bool.not_false, if_true, List.nodup_cons] at ho
  intro hq
  exact ho.1 (List.mem_filter.mpr ⟨hq, by simp [he]⟩)

theorem Hold.entry_isTitle (v : Hold) : v.entry.isTitle = false := rfl
theorem Hold.entry_slot (v : Hold) : v.entry.slot = v.reserved.slot := rfl

/-- The entry of a held cell that is queued is not in flight, and the other way round. -/
theorem Film.Agrees.exposing_of_queued (hf : f.Agrees) {k : Key} {v : Hold} (hv : f.hold k = some v) {h : Fin 4}
    (hq : v.entry ∈ f.queue h) : f.exposing k = false := by
  have hh : headOf v.reserved.slot = h := (hf.draws (h := h) (List.mem_append_right _ hq)).1
  rw [Bool.eq_false_iff]
  intro he
  exact hf.line_once v.entry_isTitle (hh ▸ hf.flies hv he) hq

theorem Film.Agrees.exposing_of_flying (hf : f.Agrees) {k : Key} {v : Hold} (hv : f.hold k = some v) {h : Fin 4}
    (hq : f.flying h = some v.entry) : f.exposing k = true := by
  have hh : headOf v.reserved.slot = h :=
    (hf.draws (h := h) (e := v.entry) (List.mem_append_left _ (by simp [hq]))).1
  by_contra he
  rw [Bool.not_eq_true] at he
  exact hf.line_once v.entry_isTitle hq (hh ▸ hf.queued hv he)

end

/-! ### The film of a state -/

section
variable {s : State}

theorem State.heldBy_iff {r : Record} {v : Hold} (hv : r.hold = some v) :
    s.heldBy r v.reserved ↔ v.LiesOn r.key (s.slotView v.reserved.slot) := by
  obtain ⟨-, hwidth, -⟩ := Record.hold_eq_some.mp hv
  constructor
  · rintro ⟨live, head, fiche, sheet, document, width, lead, second⟩
    exact ⟨live, head, fiche, sheet, document, width.trans hwidth.symm, lead, second⟩
  · rintro ⟨live, head, fiche, sheet, document, width, lead, second⟩
    exact ⟨live, head, fiche, sheet, document, width.trans hwidth, lead, second⟩

theorem State.film_hold_iff (ho : s.directoryOrdered) {k : Key} {v : Hold} :
    s.view.film.hold k = some v ↔ ∃ r ∈ s.records, r.key = k ∧ r.hold = some v := by
  refine View.hold_eq_some.trans (exists_congr fun r => ?_)
  rw [State.record_iff ho, and_assoc]

theorem State.film_exposing (ho : s.directoryOrdered) {r : Record} (hr : r ∈ s.records) :
    s.view.film.exposing r.key = r.isExposing := View.exposing_of_record ((State.record_iff ho).mpr ⟨hr, rfl⟩)

/-- A record's hold by its reserved location. -/
theorem Record.hold_of_reserved {r : Record} {w : Reserved} (h : r.reserved = some w) : ∃ v, r.hold = some v ∧
    v.reserved = w ∧ v.cls = r.source.effectiveClass := by
  simp [Record.hold, h]

/-- The states that the queue and the flight ask for, by whether the entry is in flight. -/
theorem Record.state_of_hold {r : Record} {v : Hold} (hp : r.partsFit) (hv : r.hold = some v) :
    r.state ∈ if r.isExposing then [RecordState.exposing, .retakeExposing] else [RecordState.reserved, .retakeReserved] := by
  obtain ⟨hr, -⟩ := Record.hold_eq_some.mp hv
  have hs := hp.state_of_reserved hr
  cases hst : r.state <;> simp_all [Record.isExposing]

/-- An entry of a head agrees when it lies on the head and draws what is there. -/
theorem State.draws_of_entryAgrees (ho : s.directoryOrdered) {h : Fin 4} {states : List RecordState} {e : Entry}
    (he : s.entryAgrees h states e) : headOf e.slot = h ∧ s.view.film.Draws e := by
  obtain ⟨hh, he⟩ := he
  refine ⟨hh, ?_⟩
  cases e with
  | title i => trivial
  | cell i n c =>
    obtain ⟨r, hr, -, hc, w, hw, hi, hn⟩ := he
    obtain ⟨v, hv, rfl, hcls⟩ := Record.hold_of_reserved hw
    exact ⟨r.key, v, (State.film_hold_iff ho).mpr ⟨r, hr, rfl, hv⟩, by rw [Hold.entry, hcls, hc, hi, hn]⟩
  | index i n part =>
    obtain ⟨hs, hn, c, hc, hst⟩ := he
    exact ⟨hs, hn, c, hc, hst⟩

theorem State.entryAgrees_of_draws (ho : s.directoryOrdered) (hp : ∀ r ∈ s.records, r.partsFit) {h : Fin 4}
    {exposing : Bool} {e : Entry} (hd : headOf e.slot = h ∧ s.view.film.Draws e)
    (hx : ∀ k v, s.view.film.hold k = some v → v.entry = e → s.view.film.exposing k = exposing) :
    s.entryAgrees h (if exposing then [RecordState.exposing, .retakeExposing] else [RecordState.reserved, .retakeReserved]) e := by
  obtain ⟨hh, hd⟩ := hd
  refine ⟨hh, ?_⟩
  cases e with
  | title i => trivial
  | cell i n c =>
    obtain ⟨k, v, hv, he⟩ := hd
    obtain ⟨r, hr, rfl, hhold⟩ := (State.film_hold_iff ho).mp hv
    have hstate := Record.state_of_hold (hp r hr) hhold
    rw [← State.film_exposing ho hr, hx _ v hv he] at hstate
    obtain ⟨hres, -, hcls⟩ := Record.hold_eq_some.mp hhold
    simp only [Hold.entry, Entry.cell.injEq] at he
    exact ⟨r, hr, hstate, by rw [← hcls, he.2.2], v.reserved, hres, he.1, he.2.1⟩
  | index i n part =>
    obtain ⟨hs, hn, c, hc, hst⟩ := hd
    exact ⟨hs, hn, c, hc, hst⟩

theorem State.slotView_fits (hs : s.slotsFit) (hf : s.fichesAgree) (i : Fin 12) : (s.slotView i).Fits := by
  obtain ⟨-, -, hslots⟩ := hs
  obtain ⟨hindex, hroom⟩ := hf i
  refine ⟨fun hi => ?_, fun hi n c hn hc => ?_, hroom⟩
  · obtain ⟨-, -, hsize⟩ := hslots i hi
    exact hsize.trans (Format.documentCells_add_indexCells _).symm
  · obtain ⟨hlt, -⟩ := List.getElem?_eq_some_iff.mp hc
    exact hindex hi n hlt hn c hc

theorem State.film_agrees (ho : s.directoryOrdered) (hs : s.slotsFit) (hp : ∀ r ∈ s.records, r.partsFit) (hh : s.holdsAgree)
    (he : s.entriesAgree) (hfi : s.fichesAgree) : s.view.film.Agrees := by
  obtain ⟨hheld, hholder⟩ := hh
  obtain ⟨hheads, hentries⟩ := he
  refine ⟨fun {k v} hv => ?_, fun {i n c} hc hst => ?_, fun {h e} hm => ?_, fun h => ?_, fun {k v} hv hx => ?_,
    fun {k v} hv hx => ?_, State.slotView_fits hs hfi⟩
  · obtain ⟨r, hr, rfl, hhold⟩ := (State.film_hold_iff ho).mp hv
    exact (State.heldBy_iff hhold).mp (hheld r hr _ (Record.hold_eq_some.mp hhold).1)
  · obtain ⟨hlt, -⟩ := List.getElem?_eq_some_iff.mp hc
    obtain ⟨r, hr, w, hw, hi, hn⟩ := hholder i n hlt c hc hst
    obtain ⟨v, hv, rfl, -⟩ := Record.hold_of_reserved hw
    exact ⟨r.key, v, (State.film_hold_iff ho).mpr ⟨r, hr, rfl, hv⟩, hi, hn⟩
  · obtain ⟨hqueue, hfly, -⟩ := hheads h
    rcases List.mem_append.mp hm with hm | hm
    · obtain ⟨x, hx, rfl⟩ := Option.map_eq_some_iff.mp (Option.mem_toList.mp hm)
      exact State.draws_of_entryAgrees ho (hfly x hx).1
    · exact State.draws_of_entryAgrees ho (hqueue e hm)
  · obtain ⟨-, hfly, honce⟩ := hheads h
    have hq : ((s.heads[h].queue).filter fun e => !e.isTitle).Nodup := by
      refine List.pairwise_filter.mpr (honce.imp fun {a b} hab ha _ heq => ?_)
      rw [(Entry.isTitle_iff a).mpr (hab heq)] at ha
      exact absurd ha (by decide)
    show (((s.heads[h].inFlight.map InFlight.entry).toList ++ s.heads[h].queue).filter fun e => !e.isTitle).Nodup
    cases hin : s.heads[h].inFlight with
    | none => simpa using hq
    | some x =>
      obtain ⟨-, hapart⟩ := hfly x hin
      simp only [Option.map_some, Option.toList_some, List.singleton_append, List.filter_cons]
      split
      · next ht =>
        refine List.nodup_cons.mpr ⟨fun hm => ?_, hq⟩
        have htitle := (Entry.isTitle_iff _).mpr (hapart _ (List.mem_filter.mp hm).1 rfl)
        rw [htitle] at ht
        exact absurd ht (by decide)
      · exact hq
  · obtain ⟨r, hr, rfl, hhold⟩ := (State.film_hold_iff ho).mp hv
    obtain ⟨hres, -, hcls⟩ := Record.hold_eq_some.mp hhold
    rw [State.film_exposing ho hr] at hx
    have hst := Record.state_of_hold (hp r hr) hhold
    obtain ⟨hqueue, -⟩ := hentries r hr _ hres
    rw [Hold.entry, hcls]
    exact hqueue (by simpa [hx] using hst)
  · obtain ⟨r, hr, rfl, hhold⟩ := (State.film_hold_iff ho).mp hv
    obtain ⟨hres, -, hcls⟩ := Record.hold_eq_some.mp hhold
    rw [State.film_exposing ho hr] at hx
    have hst := Record.state_of_hold (hp r hr) hhold
    obtain ⟨-, hfly⟩ := hentries r hr _ hres
    rw [Hold.entry, hcls]
    obtain ⟨x, hx', he⟩ := hfly (by simpa [hx] using hst)
    exact Option.map_eq_some_iff.mpr ⟨x, hx', he⟩

theorem State.holdsAgree_of_film (ho : s.directoryOrdered) (hf : s.view.film.Agrees) : s.holdsAgree := by
  refine ⟨fun r hr w hw => ?_, fun i n _ c hc hst => ?_⟩
  · obtain ⟨v, hv, rfl, -⟩ := Record.hold_of_reserved hw
    exact (State.heldBy_iff hv).mpr (hf.held ((State.film_hold_iff ho).mpr ⟨r, hr, rfl, hv⟩))
  · obtain ⟨k, v, hv, hi, hn⟩ := hf.holder (i := i) hc hst
    obtain ⟨r, hr, -, hhold⟩ := (State.film_hold_iff ho).mp hv
    exact ⟨r, hr, v.reserved, (Record.hold_eq_some.mp hhold).1, hi, hn⟩

theorem State.entriesAgree_of_film (ho : s.directoryOrdered) (hp : ∀ r ∈ s.records, r.partsFit)
    (hf : s.view.film.Agrees) : s.entriesAgree := by
  have title_of_once : ∀ {a b : Entry}, ((!a.isTitle) = true → (!b.isTitle) = true → a ≠ b) → a = b → ∃ i, a = .title i := by
    intro a b hne hab
    rw [← Entry.isTitle_iff]
    by_contra ht
    exact hne (by simpa using ht) (by simpa [← hab] using ht) hab
  refine ⟨fun h => ?_, fun r hr w hw => ?_⟩
  · have honce := List.pairwise_filter.mp (hf.once h)
    obtain ⟨-, hqueue, hapart⟩ := List.pairwise_append.mp honce
    refine ⟨fun e he => ?_, fun x hx => ⟨?_, fun e he hex => ?_⟩, hqueue.imp title_of_once⟩
    · exact State.entryAgrees_of_draws ho hp (exposing := false) (hf.draws (List.mem_append_right _ he))
        fun k v hv hve => hf.exposing_of_queued (h := h) hv (hve ▸ he)
    · have hx' : s.view.film.flying h = some x.entry := Option.map_eq_some_iff.mpr ⟨x, hx, rfl⟩
      exact State.entryAgrees_of_draws ho hp (exposing := true) (hf.draws (List.mem_append_left _ (by simp [hx'])))
        fun k v hv hve => hf.exposing_of_flying (h := h) hv (hve ▸ hx')
    · have hx' : s.view.film.flying h = some x.entry := Option.map_eq_some_iff.mpr ⟨x, hx, rfl⟩
      obtain ⟨i, hi⟩ := title_of_once (hapart x.entry (by simp [hx']) e he) hex.symm
      exact ⟨i, hex.trans hi⟩
  · obtain ⟨v, hv, rfl, hcls⟩ := Record.hold_of_reserved hw
    have hhold := (State.film_hold_iff ho).mpr ⟨r, hr, rfl, hv⟩
    have hexp := State.film_exposing ho hr
    refine ⟨fun hs => ?_, fun hs => ?_⟩
    · have hq := hf.queued hhold (by rw [hexp, Record.isExposing]; rcases hs with hs | hs <;> simp [hs])
      rwa [Hold.entry, hcls] at hq
    · have hfly := hf.flies hhold (by rw [hexp, Record.isExposing]; simpa using hs)
      rw [Hold.entry, hcls] at hfly
      exact Option.map_eq_some_iff.mp hfly

theorem State.fichesAgree_of_film (hf : s.view.film.Agrees) : s.fichesAgree := fun i =>
  ⟨fun hi n _ hn c hc => (hf.fits i).index hi n c hn hc, (hf.fits i).room⟩

/-- A state agrees when its view does. -/
theorem State.view_agrees (ho : s.directoryOrdered) (hs : s.slotsFit) (h : s.recordsAgree) : s.view.Agrees := by
  obtain ⟨hparts, hwaits, hreceptions, hholds, hentries, hfiches⟩ := h
  refine ⟨fun {k r} hr => ?_, (State.waitingAgrees_iff ho).mp hwaits, (State.receptionsAgree_iff ho).mp hreceptions,
    State.film_agrees ho hs hparts hholds hentries hfiches⟩
  obtain ⟨hmem, hk⟩ := (State.record_iff ho).mp hr
  exact ⟨hk, hparts r hmem⟩

theorem State.recordsAgree_of_view (ho : s.directoryOrdered) (h : s.view.Agrees) : s.recordsAgree := by
  have hparts : ∀ r ∈ s.records, r.partsFit := fun r hr => (h.parts ((State.record_iff ho).mpr ⟨hr, rfl⟩)).2
  exact ⟨hparts, (State.waitingAgrees_iff ho).mpr h.waits, (State.receptionsAgree_iff ho).mpr h.receives,
    State.holdsAgree_of_film ho h.film, State.entriesAgree_of_film ho hparts h.film, State.fichesAgree_of_film h.film⟩

end

end Sys2Proof.Machine
end

section
/-! What changes of the tables keep their agreement: waiting lists and receptions. -/

namespace Sys2Proof.Machine

open Function

/-! ### Waiting lists (R17) -/

section
variable {waits : Key → Option (Fin 32)} {waiting : Fin 32 → List Key} {k : Key} {c : Fin 32}

/-- A key that waits on no list joins one. -/
theorem WaitsAgree.join (h : WaitsAgree waits waiting) (hk : waits k = none) (c : Fin 32) :
    WaitsAgree (update waits k (some c)) (update waiting c (waiting c ++ [k])) := by
  have hout : ∀ d, k ∉ waiting d := fun d hd => by simpa [hk] using ((h d).2 k).mp hd
  intro d
  obtain ⟨hnodup, hiff⟩ := h d
  by_cases hd : d = c
  · subst hd
    rw [update_self]
    refine ⟨hnodup.append (List.nodup_singleton k) (by simpa using hout d), fun x => ?_⟩
    by_cases hx : x = k
    · simp [hx]
    · simp [hx, hiff]
  · rw [update_of_ne hd]
    refine ⟨hnodup, fun x => ?_⟩
    by_cases hx : x = k
    · simp [hx, hout d, Ne.symm hd]
    · simp [hx, hiff]

/-- A key leaves its list. -/
theorem WaitsAgree.leave (h : WaitsAgree waits waiting) (hk : waits k = some c) :
    WaitsAgree (update waits k none) (update waiting c ((waiting c).filter fun x => decide (x ≠ k))) := by
  intro d
  obtain ⟨hnodup, hiff⟩ := h d
  by_cases hd : d = c
  · subst hd
    rw [update_self]
    refine ⟨hnodup.filter _, fun x => ?_⟩
    by_cases hx : x = k
    · simp [hx]
    · simp [hx, hiff]
  · rw [update_of_ne hd]
    refine ⟨hnodup, fun x => ?_⟩
    by_cases hx : x = k
    · simp [hx, hiff, hk, Ne.symm hd]
    · simp [hx, hiff]

/-- A key on a list is replaced by one on none, in its place. -/
theorem WaitsAgree.rename (h : WaitsAgree waits waiting) {new : Key} (hk : waits k = some c) (hnew : waits new = none) :
    WaitsAgree (update (update waits k none) new (some c))
      (update waiting c ((waiting c).map fun x => if x = k then new else x)) := by
  have hne : k ≠ new := fun hkn => by rw [hkn, hnew] at hk; exact absurd hk (by simp)
  have hout : ∀ d, new ∉ waiting d := fun d hd => by simpa [hnew] using ((h d).2 new).mp hd
  intro d
  obtain ⟨hnodup, hiff⟩ := h d
  by_cases hd : d = c
  · subst hd
    rw [update_self]
    refine ⟨hnodup.map_on fun x hx y hy hxy => ?_, fun x => ?_⟩
    · split at hxy <;> split at hxy <;> simp_all
    · simp only [List.mem_map]
      by_cases hx : x = new
      · subst hx
        simpa using ⟨k, (hiff k).mpr hk, by simp⟩
      · by_cases hxk : x = k
        · subst hxk
          simp only [ne_eq, hx, not_false_eq_true, update_of_ne, update_self, reduceCtorEq, iff_false, not_exists, not_and]
          intro y _ hy
          split at hy
          · exact hne hy.symm
          · contradiction
        · rw [update_of_ne hx, update_of_ne hxk, ← hiff x]
          constructor
          · rintro ⟨y, hy, heq⟩
            split at heq
            · exact absurd heq.symm hx
            · exact heq ▸ hy
          · intro hm
            exact ⟨x, hm, by simp [hxk]⟩
  · rw [update_of_ne hd]
    refine ⟨hnodup, fun x => ?_⟩
    by_cases hx : x = new
    · simp [hx, hout d, Ne.symm hd]
    · by_cases hxk : x = k
      · subst hxk
        simp [hx, hiff, hk, Ne.symm hd]
      · simp [hx, hxk, hiff]

/-- A list that does not name a key is left by the key's replacement. -/
theorem WaitsAgree.map_eq_self (h : WaitsAgree waits waiting) {new : Key} (hk : waits k ≠ some c) :
    ((waiting c).map fun x => if x = k then new else x) = waiting c := by
  refine (List.map_congr_left fun x hx => ?_).trans (List.map_id _)
  have hxk : x ≠ k := fun hxk => hk (hxk ▸ ((h c).2 x).mp hx)
  simp [hxk]

end

/-! ### Receptions (R114, R122) -/

section
variable {receives : Key → Option Bool} {link : Fin 8 → LinkView} {k : Key} {b : Bool} {l : Fin 8}

theorem running_update (link : Fin 8 → LinkView) (l m : Fin 8) (x : LinkView) :
    (update link l x m).running = if m = l then x.running else (link m).running := by
  rw [update_apply]; split <;> rfl

theorem ReceivesAgree.active_update (h : ReceivesAgree receives link) {x : LinkView} (ha : x.busy = true → x.active = true)
    (m : Fin 8) : (update link l x m).busy = true → (update link l x m).active = true := by
  rw [update_apply]; split <;> [exact ha; exact h.active m]

/-- A link changes that goes on with what it receives. -/
theorem ReceivesAgree.relink (h : ReceivesAgree receives link) {x : LinkView} (hr : x.running = (link l).running)
    (ha : x.busy = true → x.active = true) : ReceivesAgree receives (update link l x) := by
  have hrun : ∀ m, (update link l x m).running = (link m).running := fun m => by
    rw [running_update]; split <;> simp_all
  refine ⟨h.active_update ha, fun k b => by simpa only [hrun] using h.running k b, fun {m n k b c} hm hn => ?_⟩
  rw [hrun] at hm hn
  exact h.once hm hn

/-- A reception begins on a link that receives nothing, for a key that no link fills. -/
theorem ReceivesAgree.start (h : ReceivesAgree receives link) (hk : receives k = none) (hl : (link l).running = none)
    (b : Bool) : ReceivesAgree (update receives k (some b)) (update link l ⟨true, true, some (k, b)⟩) := by
  have hout : ∀ m c, (link m).running ≠ some (k, c) := fun m c hm => by
    simpa [hk] using (h.running k c).mpr ⟨m, hm⟩
  refine ⟨h.active_update fun _ => rfl, fun x c => ?_, fun {m n x c d} hm hn => ?_⟩
  · simp only [running_update]
    by_cases hx : x = k
    · subst hx
      rw [update_self]
      constructor
      · exact fun hb => ⟨l, by simpa using hb⟩
      · rintro ⟨m, hm⟩
        split at hm
        · simpa using hm
        · exact absurd hm (hout m c)
    · rw [update_of_ne hx, h.running]
      refine exists_congr fun m => ?_
      split
      · next hml => subst hml; simp [hl, Ne.symm hx]
      · rfl
  · rw [running_update] at hm hn
    split at hm <;> split at hn
    · next hml hnl => exact hml.trans hnl.symm
    · simp only [Option.some.injEq, Prod.mk.injEq] at hm
      exact absurd (hm.1 ▸ hn) (hout n d)
    · simp only [Option.some.injEq, Prod.mk.injEq] at hn
      exact absurd (hn.1 ▸ hm) (hout m c)
    · exact h.once hm hn

/-- A reception ends, or is withdrawn, with what its record received. -/
theorem ReceivesAgree.stop (h : ReceivesAgree receives link) (hl : (link l).running = some (k, b)) {x : LinkView}
    (hx : x.running = none) (ha : x.busy = true → x.active = true) :
    ReceivesAgree (update receives k none) (update link l x) := by
  refine ⟨h.active_update ha, fun y c => ?_, fun {m n y c d} hm hn => ?_⟩
  · simp only [running_update, hx]
    by_cases hy : y = k
    · subst hy
      simp only [update_self, reduceCtorEq, false_iff, not_exists]
      intro m hm
      split at hm
      · simp at hm
      · next hml => exact hml (h.once hm hl)
    · rw [update_of_ne hy, h.running]
      refine exists_congr fun m => ?_
      split
      · next hml => subst hml; simp [hl, Ne.symm hy]
      · rfl
  · rw [running_update, hx] at hm hn
    split at hm
    · exact absurd hm (by simp)
    · split at hn
      · exact absurd hn (by simp)
      · exact h.once hm hn

/-- The link that fills what a record receives. -/
theorem ReceivesAgree.link_of_receives (h : ReceivesAgree receives link) (hk : receives k = some b) :
    ∃ l, (link l).running = some (k, b) := (h.running k b).mp hk

end

end Sys2Proof.Machine
end

section
/-! What changes of cells and queues keep the film's agreement. -/

namespace Sys2Proof.Machine

open Function

/-! ### A map with some of its cells changed -/

/-- A held location stays on a slot whose own cells for it stay. -/
theorem Hold.LiesOn.of_cells {v : Hold} {k : Key} {t : SlotView} (h : v.LiesOn k t) {t' : SlotView}
    (live : t'.state = .opened ∨ t'.state = .closing) (fiche : t'.fiche = t.fiche) (sheet : t'.sheet = t.sheet)
    (documents : t'.documents = t.documents)
    (cells : ∀ n c, t.cells[n]? = some c → c.key = some k → c.state = .held ∨ c.state = .trailing →
      (n = v.reserved.place.cell ∨ v.reserved.place.width = 2 ∧ n = v.reserved.place.cell + 1) → t'.cells[n]? = some c) :
    v.LiesOn k t' where
  live := live
  head := h.head
  fiche := h.fiche.trans fiche.symm
  sheet := h.sheet.trans sheet.symm
  document := documents ▸ h.document
  width := h.width
  lead := cells _ _ h.lead rfl (.inl rfl) (.inl rfl)
  second hw := cells _ _ (h.second hw) rfl (.inr rfl) (.inr ⟨hw, rfl⟩)

/-- A map stays in order when its index cells and its EMPTY cells stay. -/
theorem SlotView.Fits.of_cells {t t' : SlotView} (h : t.Fits) (state : t'.state = .free ∨ t'.state = t.state)
    (documents : t'.documents = t.documents) (indexes : t'.indexes = t.indexes) (size : t'.cells.length = t.cells.length)
    (index : ∀ n, t.documents ≤ n → t'.cells[n]? = t.cells[n]?)
    (empty : ∀ n, emptyAt t.cells n = true → emptyAt t'.cells n = true) : t'.Fits where
  size hs := by
    rcases state with hf | he
    · exact absurd hf hs
    · rw [size, documents, indexes, h.size (he ▸ hs)]
  index hs n c hn hc := by
    rcases state with hf | he
    · simp [hf] at hs
    · rw [documents] at hn
      rw [index n hn] at hc
      exact h.index (he ▸ hs) n c hn hc
  room hs := by
    rcases state with hf | he
    · simp [hf] at hs
    · obtain ⟨n, hn, hempty⟩ := h.room (he ▸ hs)
      exact ⟨n, documents ▸ hn, empty n hempty⟩

section
variable {f : Film}

/-! ### One slot changes -/

/-- A slot changes that keeps the locations held on it and the cells its INDEX entries draw, and holds no other. -/
theorem Film.Agrees.reslot (hf : f.Agrees) {i : Fin 12} {t : SlotView}
    (held : ∀ k v, f.hold k = some v → v.reserved.slot = i → v.LiesOn k t)
    (holder : ∀ (n : Nat) (c : Cell), t.cells[n]? = some c → c.state = .held → ∃ d : Cell, (f.slot i).cells[n]? = some d ∧ d.state = .held)
    (index : ∀ n part, .index i n part ∈ f.line (headOf i) → t.state = .indexing ∧ t.documents = (f.slot i).documents ∧
      ∃ c : Cell, t.cells[n]? = some c ∧ c.state = .indexPending)
    (fits : t.Fits) : Film.Agrees { f with slot := update f.slot i t } where
  held {k v} hv := by
    dsimp only
    by_cases hi : v.reserved.slot = i
    · rw [hi, update_self]; exact held k v hv hi
    · rw [update_of_ne hi]; exact hf.held hv
  holder {j n c} hc hst := by
    by_cases hj : j = i
    · subst hj
      simp only [update_self] at hc
      obtain ⟨d, hd, hdst⟩ := holder n c hc hst
      exact hf.holder hd hdst
    · simp only [update_of_ne hj] at hc
      exact hf.holder hc hst
  draws {h e} he := by
    obtain ⟨hh, hd⟩ := hf.draws he
    refine ⟨hh, ?_⟩
    cases e with
    | title j => trivial
    | cell j n c => exact hd
    | index j n part =>
      by_cases hj : j = i
      · subst hj
        simp only [Film.Draws, update_self]
        obtain ⟨hst, hdoc, hc⟩ := index n part (hh ▸ he)
        exact ⟨hst, by rw [hdoc]; exact hd.2.1, hc⟩
      · simpa only [Film.Draws, update_of_ne hj] using hd
  once := hf.once
  queued := hf.queued
  flies := hf.flies
  fits j := by
    dsimp only
    by_cases hj : j = i
    · subst hj; rw [update_self]; exact fits
    · rw [update_of_ne hj]; exact hf.fits j

/-- No INDEX entry names a slot that is not INDEXING. -/
theorem Film.Agrees.no_index (hf : f.Agrees) {i : Fin 12} (hi : (f.slot i).state ≠ .indexing) {h : Fin 4} {n part : Nat} :
    .index i n part ∉ f.line h := fun he => by
  obtain ⟨-, hst, -⟩ := hf.draws he
  exact hi hst

/-! ### One head's line changes -/

/-- The entries of a head after a change of its queue and its entry in flight. -/
theorem Film.line_update (f : Film) (h j : Fin 4) (q : List Entry) (fly : Option Entry) :
    Film.line { f with queue := update f.queue h q, flying := update f.flying h fly } j =
      if j = h then fly.toList ++ q else f.line j := by
  unfold Film.line
  by_cases hj : j = h
  · subst hj; simp
  · simp [hj]

/-- A head's line changes to entries that draw what is there, each once, among them the heads' own held cells. -/
theorem Film.Agrees.reline (hf : f.Agrees) {h : Fin 4} {q : List Entry} {fly : Option Entry} {x : Key → Bool}
    (draws : ∀ e ∈ fly.toList ++ q, headOf e.slot = h ∧ f.Draws e)
    (once : ((fly.toList ++ q).filter fun e => !e.isTitle).Nodup)
    (line : ∀ k v, f.hold k = some v → headOf v.reserved.slot = h →
      (x k = false → v.entry ∈ q) ∧ (x k = true → fly = some v.entry))
    (others : ∀ k v, f.hold k = some v → headOf v.reserved.slot ≠ h → x k = f.exposing k) :
    Film.Agrees { f with queue := update f.queue h q, flying := update f.flying h fly, exposing := x } where
  held := hf.held
  holder := hf.holder
  draws {j e} he := by
    have hl := f.line_update h j q fly
    replace he : e ∈ if j = h then fly.toList ++ q else f.line j := hl ▸ he
    split at he
    · next hj => subst hj; exact draws e he
    · exact hf.draws he
  once j := by
    have hl := f.line_update h j q fly
    show ((Film.line { f with queue := update f.queue h q, flying := update f.flying h fly } j).filter _).Nodup
    rw [hl]
    split
    · exact once
    · exact hf.once j
  queued {k v} hv hx := by
    by_cases hh : headOf v.reserved.slot = h
    · simp only [hh, update_self]
      exact (line k v hv hh).1 hx
    · simp only [update_of_ne hh]
      exact hf.queued hv ((others k v hv hh).symm.trans hx)
  flies {k v} hv hx := by
    by_cases hh : headOf v.reserved.slot = h
    · simp only [hh, update_self]
      exact (line k v hv hh).2 hx
    · simp only [update_of_ne hh]
      exact hf.flies hv ((others k v hv hh).symm.trans hx)
  fits := hf.fits

theorem nodup_filter_cons {e : Entry} {l : List Entry} {p : Entry → Bool} (h : (l.filter p).Nodup)
    (he : p e = true → e ∉ l) : ((e :: l).filter p).Nodup := by
  rw [List.filter_cons]
  split
  · next hp => exact List.nodup_cons.mpr ⟨fun hm => he hp (List.mem_filter.mp hm).1, h⟩
  · exact h

/-- A TITLE or INDEX entry joins a queue. -/
theorem Film.Agrees.enqueue (hf : f.Agrees) {h : Fin 4} {q : List Entry} {e : Entry} (perm : q.Perm (e :: f.queue h))
    (hh : headOf e.slot = h) (hd : f.Draws e) (new : e.isTitle = false → e ∉ f.line h) :
    Film.Agrees { f with queue := update f.queue h q } := by
  have hline : ((f.flying h).toList ++ q).Perm (e :: f.line h) :=
    (perm.append_left _).trans List.perm_middle
  have h' := hf.reline (h := h) (q := q) (fly := f.flying h) (x := f.exposing) (fun x hx => ?_) ?_ (fun k v hv hs => ?_)
    fun _ _ _ _ => rfl
  · rwa [update_eq_self] at h'
  · rcases List.mem_cons.mp (hline.mem_iff.mp hx) with rfl | hx
    · exact ⟨hh, hd⟩
    · exact hf.draws hx
  · exact (hline.filter _).nodup_iff.mpr (nodup_filter_cons (hf.once h) fun hp => new (by simpa using hp))
  · refine ⟨fun hx => perm.mem_iff.mpr (List.mem_cons_of_mem _ ?_), fun hx => ?_⟩
    · exact hs ▸ hf.queued hv hx
    · exact hs ▸ hf.flies hv hx

/-- A TITLE or INDEX entry leaves flight. -/
theorem Film.Agrees.land (hf : f.Agrees) {h : Fin 4} {e : Entry} (he : f.flying h = some e)
    (hc : ∀ v : Hold, v.entry ≠ e) : Film.Agrees { f with flying := update f.flying h none } := by
  have hmem : ∀ x ∈ f.queue h, x ∈ f.line h := fun x hx => List.mem_append_right _ hx
  have h' := hf.reline (h := h) (q := f.queue h) (fly := none) (x := f.exposing) (fun x hx => hf.draws (hmem x hx))
    ?_ (fun k v hv hs => ⟨fun hx => hs ▸ hf.queued hv hx, fun hx => ?_⟩) fun _ _ _ _ => rfl
  · rwa [update_eq_self] at h'
  · have ho := hf.once h
    rw [Film.line, List.filter_append] at ho
    simpa using ho.of_append_right
  · have hfly := hf.flies hv hx
    rw [hs, he] at hfly
    exact absurd (Option.some.inj hfly).symm (hc v)

/-- A head takes or returns an entry: its line keeps its entries, and the entry's holder follows it. -/
theorem Film.Agrees.move (hf : f.Agrees) {h : Fin 4} {e : Entry} {q : List Entry} {fly : Option Entry} {x : Key → Bool}
    (perm : (fly.toList ++ q).Perm (f.line h))
    (moved : ∀ k v, f.hold k = some v → v.entry = e → (x k = false → e ∈ q) ∧ (x k = true → fly = some e))
    (others : ∀ k v, f.hold k = some v → v.entry ≠ e → x k = f.exposing k)
    (hh : headOf e.slot = h)
    (queue : ∀ y ∈ f.queue h, y ≠ e → y ∈ q) (flying : ∀ y, f.flying h = some y → y ≠ e → fly = some y) :
    Film.Agrees { f with queue := update f.queue h q, flying := update f.flying h fly, exposing := x } := by
  refine hf.reline (fun y hy => hf.draws (perm.mem_iff.mp hy)) ((perm.filter _).nodup_iff.mpr (hf.once h))
    (fun k v hv hs => ?_) (fun k v hv hs => others k v hv fun hve => hs ?_)
  · by_cases hve : v.entry = e
    · obtain ⟨hq, hfly⟩ := moved k v hv hve
      exact ⟨fun hx => hve ▸ hq hx, fun hx => hve ▸ hfly hx⟩
    · rw [others k v hv hve]
      exact ⟨fun hx => queue _ (hs ▸ hf.queued hv hx) hve, fun hx => flying _ (hs ▸ hf.flies hv hx) hve⟩
  · rw [← hh, ← hve, Hold.entry_slot]

/-- Whether a key without a hold is exposing does not matter. -/
theorem Film.Agrees.reexpose (hf : f.Agrees) {k : Key} (hk : f.hold k = none) (b : Bool) :
    Film.Agrees { f with exposing := update f.exposing k b } := by
  have hne : ∀ {j v}, f.hold j = some v → update f.exposing k b j = f.exposing j := by
    intro j v hv
    refine update_of_ne ?_ _ _
    rintro rfl
    rw [hk] at hv
    exact absurd hv (by simp)
  exact ⟨hf.held, hf.holder, hf.draws, hf.once, fun hv hx => hf.queued hv ((hne hv).symm.trans hx),
    fun hv hx => hf.flies hv ((hne hv).symm.trans hx), hf.fits⟩

/-- A cell that no hold covers changes, and is neither EMPTY nor an index cell's before nor HELD after. -/
theorem Film.Agrees.recolor (hf : f.Agrees) {i : Fin 12} (hlive : (f.slot i).state = .opened ∨ (f.slot i).state = .closing)
    {n : Nat} {c : Cell} (hc : (f.slot i).cells[n]? = some c) (hst : c.state ≠ .empty ∧ c.state ≠ .indexPending)
    (free : ∀ k v, f.hold k = some v → v.reserved.slot = i →
      ¬ (n = v.reserved.place.cell ∨ v.reserved.place.width = 2 ∧ n = v.reserved.place.cell + 1))
    {g : Cell → Cell} (hg : (g c).state ≠ .held) :
    Film.Agrees { f with slot := update f.slot i { f.slot i with cells := (f.slot i).cells.modify n g } } := by
  have hother : ∀ m, m ≠ n → ((f.slot i).cells.modify n g)[m]? = (f.slot i).cells[m]? := fun m hm => by
    simp [Ne.symm hm]
  have hsame : ((f.slot i).cells.modify n g)[n]? = some (g c) := by simp [hc]
  have hindexing : (f.slot i).state ≠ .indexing := by rcases hlive with h | h <;> simp [h]
  refine hf.reslot (fun k v hv hi => ?_) (fun m d hd hdst => ?_) (fun m part he => absurd he (hf.no_index hindexing)) ?_
  · refine (hi ▸ hf.held hv).of_cells hlive rfl rfl rfl fun m d hd _ _ hm => (hother m ?_).trans hd
    rintro rfl
    exact free k v hv hi hm
  · by_cases hm : m = n
    · subst hm
      obtain rfl := Option.some.inj (hsame.symm.trans hd)
      exact absurd hdst hg
    · exact ⟨d, (hother m hm).symm.trans hd, hdst⟩
  · refine (hf.fits i).of_cells (.inr rfl) rfl rfl (List.length_modify ..) (fun m hm => hother m ?_) fun m hm => ?_
    · rintro rfl
      exact hst.2 ((hf.fits i).index hlive m c hm hc)
    · have hmn : m ≠ n := by
        rintro rfl
        obtain ⟨d, hd, hdst⟩ := (emptyAt_iff _ _).mp hm
        rw [hc, Option.some.injEq] at hd
        exact hst.1 (hd ▸ hdst)
      simpa only [emptyAt, hother m hmn] using hm

end

end Sys2Proof.Machine
end

section
/-! A held location leaves the film or joins it. -/

namespace Sys2Proof.Machine

open Function

/-- The cell numbers that a hold takes: its leading cell and, of a double, the second half. -/
def Hold.covers (v : Hold) (n : Nat) : Prop :=
  n = v.reserved.place.cell ∨ v.reserved.place.width = 2 ∧ n = v.reserved.place.cell + 1

section
variable {f : Film}

/-- The cells of a hold carry its key, and none is EMPTY or an index cell's. -/
theorem Hold.LiesOn.covered {v : Hold} {k : Key} {t : SlotView} (h : v.LiesOn k t) {n : Nat} (hn : v.covers n) :
    ∃ c, t.cells[n]? = some c ∧ c.key = some k ∧ (c.state = .held ∨ c.state = .trailing) := by
  rcases hn with rfl | ⟨hw, rfl⟩
  · exact ⟨_, h.lead, rfl, .inl rfl⟩
  · exact ⟨_, h.second hw, rfl, .inr rfl⟩

theorem Hold.LiesOn.not_empty {v : Hold} {k : Key} {t : SlotView} (h : v.LiesOn k t) {n : Nat} (hn : v.covers n) :
    emptyAt t.cells n = false := by
  obtain ⟨c, hc, -, hst⟩ := h.covered hn
  rcases hst with hst | hst <;> simp [emptyAt, hc, hst]

theorem Hold.LiesOn.lt_documents {v : Hold} {k : Key} {t : SlotView} (h : v.LiesOn k t) (ht : t.Fits) {n : Nat}
    (hn : v.covers n) : n < t.documents := by
  obtain ⟨c, hc, -, hst⟩ := h.covered hn
  by_contra hle
  have hp := ht.index h.live n c (by omega) hc
  rw [hp] at hst
  simp at hst

/-! ### A hold leaves -/

/-- The film after a hold leaves: its slot has another map, and its entry leaves its head's line. -/
def Film.dropped (f : Film) (k : Key) (v : Hold) (cells : List Cell) (x : Key → Bool) : Film where
  hold := update f.hold k none
  exposing := x
  slot := update f.slot v.reserved.slot { f.slot v.reserved.slot with cells := cells }
  queue := update f.queue (headOf v.reserved.slot)
    ((f.queue (headOf v.reserved.slot)).filter fun e => decide (e ≠ v.entry))
  flying := update f.flying (headOf v.reserved.slot)
    ((f.flying (headOf v.reserved.slot)).filter fun e => decide (e ≠ v.entry))

theorem Film.dropped_line (k : Key) (v : Hold) (cells : List Cell) (x : Key → Bool) (j : Fin 4) :
    (f.dropped k v cells x).line j =
      if j = headOf v.reserved.slot then (f.line j).filter fun e => decide (e ≠ v.entry) else f.line j := by
  refine (f.line_update (headOf v.reserved.slot) j _ _).trans ?_
  split
  · next hj => rw [hj, Film.line, List.filter_append, Option.toList_filter]
  · rfl

theorem Film.dropped_hold {k : Key} {v : Hold} {cells : List Cell} {x : Key → Bool} {j : Key} {w : Hold} :
    (f.dropped k v cells x).hold j = some w ↔ j ≠ k ∧ f.hold j = some w := by
  simp only [Film.dropped, update_apply]
  split <;> simp_all

theorem Film.dropped_slot (k : Key) (v : Hold) (cells : List Cell) (x : Key → Bool) (j : Fin 12) :
    (f.dropped k v cells x).slot j =
      if j = v.reserved.slot then { f.slot v.reserved.slot with cells := cells } else f.slot j :=
  update_apply _ _ _ _

theorem Film.dropped_queue (k : Key) (v : Hold) (cells : List Cell) (x : Key → Bool) (h : Fin 4) :
    (f.dropped k v cells x).queue h = if h = headOf v.reserved.slot then
      (f.queue (headOf v.reserved.slot)).filter (fun e => decide (e ≠ v.entry)) else f.queue h :=
  update_apply _ _ _ _

theorem Film.dropped_flying (k : Key) (v : Hold) (cells : List Cell) (x : Key → Bool) (h : Fin 4) :
    (f.dropped k v cells x).flying h = if h = headOf v.reserved.slot then
      (f.flying (headOf v.reserved.slot)).filter (fun e => decide (e ≠ v.entry)) else f.flying h :=
  update_apply _ _ _ _

/-- The entries of two keys' holds differ. -/
theorem Film.Agrees.entry_ne (hf : f.Agrees) {k j : Key} {v w : Hold} (hv : f.hold k = some v) (hw : f.hold j = some w)
    (hj : j ≠ k) : w.entry ≠ v.entry := fun he => by
  simp only [Hold.entry, Entry.cell.injEq] at he
  exact hj (hf.hold_unique hw hv he.1 he.2.1)

/-- A holder of a cell that the hold of another key does not cover is another key. -/
theorem Film.Agrees.holder_ne (hf : f.Agrees) {k : Key} {v : Hold} (hv : f.hold k = some v) {i : Fin 12} {n : Nat} {c : Cell}
    (hc : (f.slot i).cells[n]? = some c) (hst : c.state = .held) (hn : i = v.reserved.slot → ¬ v.covers n) :
    ∃ l w, l ≠ k ∧ f.hold l = some w ∧ w.reserved.slot = i ∧ w.reserved.place.cell = n := by
  obtain ⟨l, w, hw, hwi, hwn⟩ := hf.holder hc hst
  refine ⟨l, w, ?_, hw, hwi, hwn⟩
  rintro rfl
  rw [hv, Option.some.injEq] at hw
  subst hw
  exact hn hwi.symm (.inl hwn.symm)

/-- What an entry draws, other than the one that leaves, is drawn still. -/
theorem Film.Agrees.dropped_draws (hf : f.Agrees) {k : Key} {v : Hold} (hv : f.hold k = some v) {cells : List Cell}
    {x : Key → Bool} {e : Entry} (hd : f.Draws e) (he : e ≠ v.entry) : (f.dropped k v cells x).Draws e := by
  cases e with
  | title j => trivial
  | cell j n c =>
    obtain ⟨l, w, hw, hwe⟩ := hd
    refine ⟨l, w, Film.dropped_hold.mpr ⟨?_, hw⟩, hwe⟩
    rintro rfl
    rw [hv, Option.some.injEq] at hw
    exact he (hwe.symm.trans (congrArg Hold.entry hw.symm))
  | index j n part =>
    have hj : j ≠ v.reserved.slot := by
      rintro rfl
      obtain ⟨hst, -⟩ := hd
      rcases (hf.held hv).live with h | h <;> simp [h] at hst
    simp only [Film.Draws, Film.dropped_slot, if_neg hj]
    exact hd

/-- A hold leaves: its cells are held no longer and its entry leaves its head's line. -/
theorem Film.Agrees.drop (hf : f.Agrees) {k : Key} {v : Hold} (hv : f.hold k = some v) {cells : List Cell}
    (size : cells.length = (f.slot v.reserved.slot).cells.length)
    (kept : ∀ n, ¬ v.covers n → cells[n]? = (f.slot v.reserved.slot).cells[n]?)
    (gone : ∀ n c, v.covers n → cells[n]? = some c → c.state ≠ .held)
    {x : Key → Bool} (hx : ∀ j, j ≠ k → x j = f.exposing j) : (f.dropped k v cells x).Agrees where
  held {j w} hw := by
    obtain ⟨hj, hw⟩ := Film.dropped_hold.mp hw
    have hw' := hf.held hw
    rw [Film.dropped_slot]
    split
    · next hs =>
      rw [hs] at hw'
      refine hw'.of_cells hw'.live rfl rfl rfl fun n c hc hkey _ _ => ?_
      refine (kept n fun hcov => hj ?_).trans hc
      obtain ⟨d, hd, hdkey, -⟩ := (hf.held hv).covered hcov
      rw [hc, Option.some.injEq] at hd
      subst hd
      exact Option.some.inj (hkey.symm.trans hdkey)
    · exact hw'
  holder {j n c} hc hst := by
    rw [Film.dropped_slot] at hc
    have hold : (f.slot j).cells[n]? = some c ∧ (j = v.reserved.slot → ¬ v.covers n) := by
      split at hc
      · next hs =>
        have hcov : ¬ v.covers n := fun hcov => gone n c hcov hc hst
        exact ⟨by rw [hs, ← kept n hcov]; exact hc, fun _ => hcov⟩
      · next hs => exact ⟨hc, fun h => absurd h hs⟩
    obtain ⟨l, w, hl, hw, hwi, hwn⟩ := hf.holder_ne hv hold.1 hst hold.2
    exact ⟨l, w, Film.dropped_hold.mpr ⟨hl, hw⟩, hwi, hwn⟩
  draws {h e} he := by
    have hmem : e ∈ f.line h ∧ (h = headOf v.reserved.slot → e ≠ v.entry) := by
      rw [Film.dropped_line] at he
      split at he
      · exact ⟨(List.mem_filter.mp he).1, fun _ => by simpa using (List.mem_filter.mp he).2⟩
      · next hh => exact ⟨he, fun h' => absurd h' hh⟩
    obtain ⟨hh, hd⟩ := hf.draws hmem.1
    exact ⟨hh, hf.dropped_draws hv hd fun hev => hmem.2 (by rw [← hh, hev, Hold.entry_slot]) hev⟩
  once h := by
    rw [Film.dropped_line]
    split
    · exact (hf.once h).sublist (List.filter_sublist.filter _)
    · exact hf.once h
  queued {j w} hw hxw := by
    obtain ⟨hj, hw⟩ := Film.dropped_hold.mp hw
    have hq := hf.queued hw ((hx j hj).symm.trans hxw)
    rw [Film.dropped_queue]
    split
    · next hs => exact List.mem_filter.mpr ⟨hs ▸ hq, by simpa using hf.entry_ne hv hw hj⟩
    · exact hq
  flies {j w} hw hxw := by
    obtain ⟨hj, hw⟩ := Film.dropped_hold.mp hw
    have hq := hf.flies hw ((hx j hj).symm.trans hxw)
    rw [Film.dropped_flying]
    split
    · next hs =>
      rw [← hs, hq]
      simpa [Option.filter] using hf.entry_ne hv hw hj
    · exact hq
  fits j := by
    rw [Film.dropped_slot]
    split
    · refine (hf.fits _).of_cells (.inr rfl) rfl rfl size (fun n hn => kept n fun hcov => ?_) fun n hn => ?_
      · exact absurd ((hf.held hv).lt_documents (hf.fits _) hcov) (by omega)
      · have hcov : ¬ v.covers n := fun hcov => by simp [(hf.held hv).not_empty hcov] at hn
        simpa only [emptyAt, kept n hcov] using hn
    · exact hf.fits j

/-! ### A hold joins -/

/-- The film after a grant: the slot has another state and map, and the entry stands in its head's queue. -/
def Film.added (f : Film) (k : Key) (v : Hold) (st : SlotState) (cells : List Cell) (q : List Entry) (x : Key → Bool) :
    Film where
  hold := update f.hold k (some v)
  exposing := x
  slot := update f.slot v.reserved.slot { f.slot v.reserved.slot with state := st, cells := cells }
  queue := update f.queue (headOf v.reserved.slot) q
  flying := f.flying

section
variable {k : Key} {v : Hold} {st : SlotState} {cells : List Cell} {q : List Entry} {x : Key → Bool}

theorem Film.added_hold {j : Key} {w : Hold} : (f.added k v st cells q x).hold j = some w ↔
    j = k ∧ w = v ∨ j ≠ k ∧ f.hold j = some w := by
  simp only [Film.added, update_apply]
  split <;> simp_all [eq_comm]

theorem Film.added_slot (j : Fin 12) : (f.added k v st cells q x).slot j =
    if j = v.reserved.slot then { f.slot v.reserved.slot with state := st, cells := cells } else f.slot j :=
  update_apply _ _ _ _

theorem Film.added_queue (h : Fin 4) : (f.added k v st cells q x).queue h =
    if h = headOf v.reserved.slot then q else f.queue h :=
  update_apply _ _ _ _

theorem Film.added_line (h : Fin 4) : (f.added k v st cells q x).line h =
    if h = headOf v.reserved.slot then (f.flying h).toList ++ q else f.line h := by
  rw [Film.line, Film.added_queue]
  split <;> rfl

/-- What an entry draws is drawn still. -/
theorem Film.added_draws (hk : f.hold k = none) (hopen : (f.slot v.reserved.slot).state = .opened) {e : Entry}
    (hd : f.Draws e) : (f.added k v st cells q x).Draws e := by
  cases e with
  | title j => trivial
  | cell j n c =>
    obtain ⟨l, w, hw, hwe⟩ := hd
    refine ⟨l, w, Film.added_hold.mpr (.inr ⟨?_, hw⟩), hwe⟩
    rintro rfl
    rw [hk] at hw
    exact absurd hw (by simp)
  | index j n part =>
    have hj : j ≠ v.reserved.slot := by
      rintro rfl
      obtain ⟨hst, -⟩ := hd
      simp [hopen] at hst
    simp only [Film.Draws, Film.added_slot, if_neg hj]
    exact hd

/-- The cell at a number where a map is EMPTY. -/
theorem state_of_emptyAt {cells : List Cell} {n : Nat} {c : Cell} (h : emptyAt cells n = true) (hc : cells[n]? = some c) :
    c.state = .empty := by
  obtain ⟨d, hd, hst⟩ := (emptyAt_iff _ _).mp h
  rw [hc, Option.some.injEq] at hd
  exact hd ▸ hst

/-- No entry draws an EMPTY cell. -/
theorem Film.Agrees.entry_new (hf : f.Agrees) (hlead : emptyAt (f.slot v.reserved.slot).cells v.reserved.place.cell = true)
    (h : Fin 4) : v.entry ∉ f.line h := by
  intro he
  obtain ⟨-, l, w, hw, hwe⟩ := hf.draws he
  simp only [Hold.entry, Entry.cell.injEq] at hwe
  obtain ⟨hs, hn, -⟩ := hwe
  have hst := (hf.held hw).lead
  rw [hs, hn] at hst
  simpa using state_of_emptyAt hlead hst

/-- A hold joins on cells that were EMPTY, its entry behind those of its head. -/
theorem Film.Agrees.add (hf : f.Agrees) (hk : f.hold k = none) (hopen : (f.slot v.reserved.slot).state = .opened)
    (hlies : v.LiesOn k { f.slot v.reserved.slot with state := st, cells := cells })
    (size : cells.length = (f.slot v.reserved.slot).cells.length)
    (kept : ∀ n, ¬ v.covers n → cells[n]? = (f.slot v.reserved.slot).cells[n]?)
    (empty : ∀ n, v.covers n → emptyAt (f.slot v.reserved.slot).cells n = true)
    (room : st = .opened → ∃ n < (f.slot v.reserved.slot).documents, emptyAt cells n = true)
    (perm : q.Perm (v.entry :: f.queue (headOf v.reserved.slot)))
    (hxk : x k = false) (hx : ∀ j, j ≠ k → x j = f.exposing j) : (f.added k v st cells q x).Agrees := by
  have hline : ((f.flying (headOf v.reserved.slot)).toList ++ q).Perm (v.entry :: f.line (headOf v.reserved.slot)) :=
    (perm.append_left _).trans List.perm_middle
  refine ⟨fun {j w} hw => ?_, fun {j n c} hc hst => ?_, fun {h e} he => ?_, fun h => ?_, fun {j w} hw hxw => ?_,
    fun {j w} hw hxw => ?_, fun j => ?_⟩
  · rw [Film.added_slot]
    rcases Film.added_hold.mp hw with ⟨rfl, rfl⟩ | ⟨hj, hw⟩
    · rwa [if_pos rfl]
    · have hw' := hf.held hw
      split
      · next hs =>
        rw [hs] at hw'
        refine hw'.of_cells hlies.live rfl rfl rfl fun n c hc _ hst _ => (kept n fun hcov => ?_).trans hc
        rw [state_of_emptyAt (empty n hcov) hc] at hst
        simp at hst
      · exact hw'
  · rw [Film.added_slot] at hc
    have hcase : (j = v.reserved.slot ∧ n = v.reserved.place.cell) ∨ (f.slot j).cells[n]? = some c := by
      split at hc
      · next hs =>
        by_cases hcov : v.covers n
        · rcases hcov with hn | ⟨hw, rfl⟩
          · exact .inl ⟨hs, hn⟩
          · obtain rfl := Option.some.inj ((hlies.second hw).symm.trans hc)
            simp at hst
        · exact .inr (by rw [hs, ← kept n hcov]; exact hc)
      · exact .inr hc
    rcases hcase with ⟨rfl, rfl⟩ | hc
    · exact ⟨k, v, Film.added_hold.mpr (.inl ⟨rfl, rfl⟩), rfl, rfl⟩
    · obtain ⟨l, w, hw, hwi, hwn⟩ := hf.holder hc hst
      refine ⟨l, w, Film.added_hold.mpr (.inr ⟨?_, hw⟩), hwi, hwn⟩
      rintro rfl
      rw [hk] at hw
      exact absurd hw (by simp)
  · rw [Film.added_line] at he
    split at he
    · next hh =>
      subst hh
      rcases List.mem_cons.mp (hline.mem_iff.mp he) with rfl | he
      · exact ⟨rfl, k, v, Film.added_hold.mpr (.inl ⟨rfl, rfl⟩), rfl⟩
      · obtain ⟨hh, hd⟩ := hf.draws he
        exact ⟨hh, Film.added_draws hk hopen hd⟩
    · obtain ⟨hh, hd⟩ := hf.draws he
      exact ⟨hh, Film.added_draws hk hopen hd⟩
  · rw [Film.added_line]
    split
    · next hh =>
      subst hh
      exact (hline.filter _).nodup_iff.mpr (nodup_filter_cons (hf.once _) fun _ => hf.entry_new (empty _ (.inl rfl)) _)
    · exact hf.once h
  · rw [Film.added_queue]
    rcases Film.added_hold.mp hw with ⟨rfl, rfl⟩ | ⟨hj, hw⟩
    · rw [if_pos rfl]
      exact perm.mem_iff.mpr (.head _)
    · have hq := hf.queued hw ((hx j hj).symm.trans hxw)
      split
      · next hs => exact perm.mem_iff.mpr (.tail _ (hs ▸ hq))
      · exact hq
  · rcases Film.added_hold.mp hw with ⟨rfl, rfl⟩ | ⟨hj, hw⟩
    · exact absurd (hxk.symm.trans hxw) (by decide)
    · exact hf.flies hw ((hx j hj).symm.trans hxw)
  · rw [Film.added_slot]
    split
    · refine ⟨fun _ => ?_, fun _ n c hn hc => ?_, room⟩
      · exact size.trans ((hf.fits _).size (by simp [hopen]))
      · have hcov : ¬ v.covers n := fun hcov => by
          obtain ⟨d, hd, hst⟩ := (emptyAt_iff _ _).mp (empty n hcov)
          simpa [hst] using (hf.fits _).index (.inl hopen) n d hn hd
        exact (hf.fits _).index (.inl hopen) n c hn ((kept n hcov).symm.trans hc)
    · exact hf.fits j

end

end

end Sys2Proof.Machine
end

section
/-! The view of a state after each change of its tables. -/

namespace Sys2Proof.Machine

open Function

section
variable (s : State)

/-! ### Changes of one table -/

theorem State.view_updateRecord (k : Key) {f : Record → Record} (hf : ∀ r, (f r).key = r.key) :
    (s.updateRecord k f).view = { s.view with record := update s.view.record k ((s.view.record k).map f) } := by
  have h : (s.updateRecord k f).findRecord = update s.findRecord k ((s.findRecord k).map f) := by
    funext j
    rw [State.findRecord_updateRecord hf, update_apply]
    cases hj : s.findRecord j with
    | none =>
      split
      · next hjk => subst hjk; simp [hj]
      · rfl
    | some r =>
      obtain ⟨-, hkey⟩ := State.findRecord_some hj
      rw [Option.map_some, hkey]
      split
      · next hjk => subst hjk; simp [hj]
      · rfl
  exact congrArg (fun g => { s.view with record := g }) h

theorem State.findRecord_removeRecord (k j : Key) :
    (s.removeRecord k).findRecord j = if j = k then none else s.findRecord j := by
  unfold State.findRecord State.removeRecord
  dsimp only
  rw [List.find?_filter]
  split
  · next hj => subst hj; simp
  · next hj =>
    congr 1
    funext r
    by_cases hr : r.key = j
    · simp [hr, hj]
    · simp [hr]

theorem State.view_removeRecord (k : Key) : (s.removeRecord k).view = { s.view with record := update s.view.record k none } := by
  have h : (s.removeRecord k).findRecord = update s.findRecord k none := by
    funext j
    rw [State.findRecord_removeRecord, update_apply]
  exact congrArg (fun g => { s.view with record := g }) h

theorem find?_insertRecord {r : Record} {rs : List Record} (hr : ∀ x ∈ rs, x.key ≠ r.key) (j : Key) :
    (insertRecord r rs).find? (fun x => decide (x.key = j)) =
      if j = r.key then some r else rs.find? fun x => decide (x.key = j) := by
  induction rs with
  | nil => simp [insertRecord, eq_comm]
  | cons y rest ih =>
    simp only [List.mem_cons, forall_eq_or_imp] at hr
    obtain ⟨hy, hrest⟩ := hr
    unfold insertRecord
    split
    · by_cases hj : j = r.key
      · simp [hj]
      · simp [hj, Ne.symm hj]
    · rw [List.find?_cons, ih hrest, List.find?_cons]
      by_cases hj : j = r.key
      · subst hj; simp [hy]
      · simp [hj]

theorem State.view_addRecord {r : Record} (hr : s.findRecord r.key = none) :
    (s.addRecord r).view = { s.view with record := update s.view.record r.key (some r) } := by
  have h : (s.addRecord r).findRecord = update s.findRecord r.key (some r) := by
    funext j
    rw [update_apply]
    exact find?_insertRecord (State.findRecord_none hr) j
  exact congrArg (fun g => { s.view with record := g }) h

theorem State.view_modWaiting (c : Fin 32) (f : List Key → List Key) :
    (s.modWaiting c f).view = { s.view with waiting := update s.view.waiting c (f (s.view.waiting c)) } := by
  have h : (fun d : Fin 32 => (s.modWaiting c f).waiting[d]) = update s.view.waiting c (f (s.view.waiting c)) := by
    funext d
    rw [State.modWaiting_at, update_apply]
    rfl
  exact congrArg (fun g => { s.view with waiting := g }) h

theorem State.view_modLink (l : Fin 8) (f : Link → Link) :
    (s.modLink l f).view = { s.view with link := update s.view.link l (f s.links[l]).view } := by
  have h : (fun m : Fin 8 => ((s.modLink l f).links[m]).view) = update s.view.link l (f s.links[l]).view := by
    funext m
    rw [State.modLink_at, update_apply]
    split <;> rfl
  exact congrArg (fun g => { s.view with link := g }) h

theorem State.view_modSlot (i : Fin 12) (f : Slot → Slot) :
    (s.modSlot i f).view = { s.view with slot := update s.view.slot i (s.seen (f s.slots[i])) } := by
  have h : (s.modSlot i f).slotView = update s.slotView i (s.seen (f s.slots[i])) := by
    funext j
    rw [update_apply]
    show State.seen _ _ = _
    rw [State.modSlot_at]
    split <;> rfl
  exact congrArg (fun g => { s.view with slot := g }) h

theorem State.view_modHead (h : Fin 4) (f : Head → Head) :
    (s.modHead h f).view =
      { s.view with
        queue := update s.view.queue h (f s.heads[h]).queue
        flying := update s.view.flying h ((f s.heads[h]).inFlight.map InFlight.entry) } := by
  have hq : (fun j : Fin 4 => ((s.modHead h f).heads[j]).queue) = update s.view.queue h (f s.heads[h]).queue := by
    funext j
    rw [State.modHead_at, update_apply]
    split <;> rfl
  have hfly : (fun j : Fin 4 => ((s.modHead h f).heads[j]).inFlight.map InFlight.entry) =
      update s.view.flying h ((f s.heads[h]).inFlight.map InFlight.entry) := by
    funext j
    rw [State.modHead_at, update_apply]
    split <;> rfl
  exact congrArg₂ (fun g g' => { s.view with queue := g, flying := g' }) hq hfly

/-- A change of a head that leaves the entry in flight. -/
theorem State.view_modHead_queue {h : Fin 4} {f : Head → Head}
    (hfly : (f s.heads[h]).inFlight.map InFlight.entry = s.heads[h].inFlight.map InFlight.entry) :
    (s.modHead h f).view = { s.view with queue := update s.view.queue h (f s.heads[h]).queue } := by
  rw [State.view_modHead, hfly]
  exact congrArg (fun g => { s.view with queue := update s.view.queue h (f s.heads[h]).queue, flying := g })
    (update_eq_self h s.view.flying)

/-- A change of a head that leaves the queue. -/
theorem State.view_modHead_flying {h : Fin 4} {f : Head → Head} (hq : (f s.heads[h]).queue = s.heads[h].queue) :
    (s.modHead h f).view =
      { s.view with flying := update s.view.flying h ((f s.heads[h]).inFlight.map InFlight.entry) } := by
  rw [State.view_modHead, hq]
  have hself : update s.view.queue h s.heads[h].queue = s.view.queue := update_eq_self h s.view.queue
  rw [hself]

/-! ### Changes that leave the view -/

/-- A change of a link that leaves its carrier and its reception leaves the view. -/
theorem State.view_modLink_of {l : Fin 8} {f : Link → Link} (h : (f s.links[l]).view = s.links[l].view) :
    (s.modLink l f).view = s.view := by
  rw [State.view_modLink, h]
  exact congrArg (fun g => { s.view with link := g }) (update_eq_self l s.view.link)

/-- A change of a head that leaves its queue and the entry in flight leaves the view. -/
theorem State.view_modHead_of {h : Fin 4} {f : Head → Head} (hq : (f s.heads[h]).queue = s.heads[h].queue)
    (hfly : (f s.heads[h]).inFlight.map InFlight.entry = s.heads[h].inFlight.map InFlight.entry) :
    (s.modHead h f).view = s.view := by
  rw [State.view_modHead, hq, hfly]
  exact congrArg₂ (fun g g' => { s.view with queue := g, flying := g' }) (update_eq_self h s.view.queue)
    (update_eq_self h s.view.flying)

/-- A change of a slot that leaves its fiche and its map leaves the view. -/
theorem State.view_modSlot_of {i : Fin 12} {f : Slot → Slot} (h : s.seen (f s.slots[i]) = s.slotView i) :
    (s.modSlot i f).view = s.view := by
  rw [State.view_modSlot, h]
  exact congrArg (fun g => { s.view with slot := g }) (update_eq_self i s.view.slot)

@[simp] theorem State.view_raise (i : Indication) : (s.raise i).view = s.view := rfl
@[simp] theorem State.view_retry (e : RetryEvent) : (s.retry e).view = s.view := rfl
@[simp] theorem State.view_modPort (f : Port → Port) : (s.modPort f).view = s.view := rfl
@[simp] theorem State.view_modSeries (c : Fin 32) (f : Series → Series) : (s.modSeries c f).view = s.view := rfl

@[simp] theorem State.view_countLink (l : Fin 8) (c : LinkCounter) : (s.countLink l c).view = s.view :=
  s.view_modLink_of rfl

@[simp] theorem State.view_countHead (h : Fin 4) (c : HeadCounter) : (s.countHead h c).view = s.view :=
  s.view_modHead_of rfl rfl

@[simp] theorem State.view_sendFrame (l : Fin 8) (f : OutFrame) : (s.sendFrame l f).view = s.view :=
  s.view_modLink_of (by split <;> rfl)

@[simp] theorem State.view_sendHold (l : Fin 8) : (s.sendHold l).view = s.view := by
  rw [State.sendHold_eq]
  exact s.view_modLink_of rfl

@[simp] theorem State.view_stopHoldTimer (l : Fin 8) : (s.stopHoldTimer l).view = s.view := s.view_modLink_of rfl

theorem State.view_foldl {α : Type} {f : State → α → State} (hf : ∀ t a, (f t a).view = t.view) (as : List α) :
    (as.foldl f s).view = s.view :=
  frame_foldl (fun t => t.view = s.view) f (fun t a h => (hf t a).trans h) as s rfl

@[simp] theorem State.view_judgeHold : s.judgeHold.view = s.view := by
  unfold State.judgeHold State.assertHold State.clearHold
  split
  · exact (State.view_foldl _ (fun t l => by split <;> simp) _).trans rfl
  · split
    · exact (State.view_foldl _ (fun t l => by split <;> simp) _).trans rfl
    · rfl

@[simp] theorem State.view_release (blocks : List Nat) : (s.release blocks).view = s.view := State.view_judgeHold _

theorem State.view_allocate {t : State} {need : Nat} {blocks : List Nat} (h : s.allocate need = some (blocks, t)) :
    t.view = s.view := by
  obtain ⟨-, -, rfl⟩ := State.allocate_some h
  exact State.view_judgeHold _

@[simp] theorem State.view_refuse (l : Fin 8) (tag : BitVec 16) (cause : Cause) : (s.refuse l tag cause).view = s.view := by
  unfold State.refuse
  dsimp only
  split <;> simp

@[simp] theorem State.view_placementNotice (n : PlacementNotice) : (s.placementNotice n).view = s.view := by
  unfold State.placementNotice
  dsimp only
  split
  · simp
  · split <;> simp

@[simp] theorem State.view_putNotice (n : Notice) : (s.putNotice n).view = s.view := by
  unfold State.putNotice
  split
  · split <;> rfl
  · rfl

@[simp] theorem State.view_trackerAcquire (h : Fin 4) : (s.trackerAcquire h).view = s.view := by
  unfold State.trackerAcquire
  dsimp only
  split
  · exact (State.view_raise _ _).trans (s.view_modHead_of rfl rfl)
  · exact s.view_modHead_of rfl rfl

theorem State.view_idleContext (l : Fin 8) : (s.idleContext l).view =
    { s.view with link := update s.view.link l ⟨s.links[l].active, false, none⟩ } := s.view_modLink l _

@[simp] theorem State.view_finishRequest (b : Nat) (r : Response) : (s.finishRequest b r).view = s.view := rfl

end

end Sys2Proof.Machine
end

section
/-! Closing and opening a fiche and the film's agreement (section 4.2, 2.5). -/

namespace Sys2Proof.Machine

open Function

/-! ### Queues -/

theorem splice_perm (p : Entry → Bool) (q : List Entry) (e : Entry) : (q.takeWhile p ++ e :: q.dropWhile p).Perm (e :: q) :=
  List.perm_middle.trans (by rw [List.takeWhile_append_dropWhile])

theorem joinQueue_perm (q : List Entry) (e : Entry) : (joinQueue q e).Perm (e :: q) := splice_perm _ q e

theorem returnQueue_perm (q : List Entry) (e : Entry) : (returnQueue q e).Perm (e :: q) := splice_perm _ q e

section
variable {f : Film}

/-- New entries join a queue one after the other. -/
theorem Film.Agrees.enqueueAll (hf : f.Agrees) {h : Fin 4} {es : List Entry} (hh : ∀ e ∈ es, headOf e.slot = h)
    (hd : ∀ e ∈ es, f.Draws e) (new : ∀ e ∈ es, e ∉ f.line h) (once : es.Nodup) :
    Film.Agrees { f with queue := update f.queue h (es.foldl joinQueue (f.queue h)) } := by
  induction es generalizing f with
  | nil => rw [List.foldl_nil, update_eq_self]; exact hf
  | cons e es ih =>
    obtain ⟨hne, once⟩ := List.nodup_cons.mp once
    have hjoin := hf.enqueue (joinQueue_perm (f.queue h) e) (hh e (.head _)) (hd e (.head _)) fun _ => new e (.head _)
    have hline : ∀ x ∈ es, x ∉ Film.line { f with queue := update f.queue h (joinQueue (f.queue h) e) } h := by
      intro x hx
      rw [Film.line]
      dsimp only
      rw [update_self, List.mem_append, (joinQueue_perm _ _).mem_iff, List.mem_cons]
      rintro (hfly | rfl | hq)
      · exact new x (.tail _ hx) (List.mem_append_left _ hfly)
      · exact hne hx
      · exact new x (.tail _ hx) (List.mem_append_right _ hq)
    have h' := ih hjoin (fun x hx => hh x (.tail _ hx)) (fun x hx => hd x (.tail _ hx)) hline once
    simpa only [update_self, update_idem, List.foldl_cons] using h'

/-! ### Closing (R70, R73) -/

/-- The INDEX entries of a slot (R80). -/
def SlotView.indexEntries (t : SlotView) (i : Fin 12) : List Entry :=
  (List.range t.indexes).map fun p => .index i (t.documents + p) p

/-- An OPEN fiche becomes CLOSING. -/
theorem Film.Agrees.close (hf : f.Agrees) {i : Fin 12} (ho : (f.slot i).state = .opened) :
    Film.Agrees { f with slot := update f.slot i { f.slot i with state := .closing } } := by
  refine hf.reslot (fun k v hv hi => ?_) (fun n c hc hst => ⟨c, hc, hst⟩)
    (fun n part he => absurd he (hf.no_index (by simp [ho]))) ⟨fun _ => ?_, fun _ => ?_, nofun⟩
  · exact (hi ▸ hf.held hv).of_cells (.inr rfl) rfl rfl rfl fun _ _ hc _ _ _ => hc
  · exact (hf.fits i).size (by simp [ho])
  · exact (hf.fits i).index (.inl ho)

/-- A CLOSING fiche without a HELD cell becomes INDEXING, its INDEX entries queued. -/
theorem Film.Agrees.index (hf : f.Agrees) {i : Fin 12} (hc : (f.slot i).state = .closing)
    (hn : ∀ c ∈ (f.slot i).cells, c.state ≠ .held) :
    Film.Agrees
      { f with
        slot := update f.slot i { f.slot i with state := .indexing }
        queue := update f.queue (headOf i) (((f.slot i).indexEntries i).foldl joinQueue (f.queue (headOf i))) } := by
  have hsize := (hf.fits i).size (by simp [hc])
  have hslot : Film.Agrees { f with slot := update f.slot i { f.slot i with state := .indexing } } := by
    refine hf.reslot (fun k v hv hi => absurd rfl (hn _ (List.mem_of_getElem? (hi ▸ hf.held hv).lead))) (fun n c hc hst => ⟨c, hc, hst⟩)
      (fun n part he => absurd he (hf.no_index (by simp [hc]))) ⟨fun _ => hsize, ?_, nofun⟩
    rintro (h | h) <;> exact absurd h (by simp)
  refine hslot.enqueueAll (es := (f.slot i).indexEntries i) ?_ ?_ ?_ ?_
  · simp [SlotView.indexEntries, Entry.slot]
  · intro e he
    obtain ⟨p, hp, rfl⟩ := List.mem_map.mp he
    rw [List.mem_range] at hp
    obtain ⟨c, hc'⟩ : ∃ c, (f.slot i).cells[(f.slot i).documents + p]? = some c :=
      ⟨_, List.getElem?_eq_getElem (by omega)⟩
    simp only [Film.Draws, update_self, true_and]
    exact ⟨c, hc', (hf.fits i).index (.inr hc) _ c (by omega) hc'⟩
  · intro e he
    obtain ⟨p, -, rfl⟩ := List.mem_map.mp he
    exact hf.no_index (by simp [hc])
  · exact List.nodup_range.map fun a b hab => by simpa using hab

/-! ### Opening (R46) -/

/-- A FREE slot opens on a fresh map, its TITLE entry queued. -/
theorem Film.Agrees.opening (hf : f.Agrees) {i : Fin 12} (hfree : (f.slot i).state = .free) {t : SlotView} (hfits : t.Fits)
    (hheld : ∀ c ∈ t.cells, c.state ≠ .held) :
    Film.Agrees
      { f with
        slot := update f.slot i t
        queue := update f.queue (headOf i) (joinQueue (f.queue (headOf i)) (.title i)) } := by
  have hslot : Film.Agrees { f with slot := update f.slot i t } := by
    refine hf.reslot (fun k v hv hi => ?_) (fun n c hc hst => absurd hst (hheld c (List.mem_of_getElem? hc)))
      (fun n part he => absurd he (hf.no_index (by simp [hfree]))) hfits
    have hl := (hi ▸ hf.held hv).live
    simp [hfree] at hl
  exact hslot.enqueue (joinQueue_perm _ _) rfl trivial fun h => absurd h (by simp [Entry.isTitle])

/-- A FREE slot, or one whose index is on film, is taken off the film. -/
theorem Film.Agrees.leave (hf : f.Agrees) {i : Fin 12} (hl : ¬ ((f.slot i).state = .opened ∨ (f.slot i).state = .closing))
    (hnone : ∀ n part, .index i n part ∉ f.line (headOf i)) {t : SlotView} (hfits : t.Fits)
    (hheld : ∀ c ∈ t.cells, c.state ≠ .held) : Film.Agrees { f with slot := update f.slot i t } :=
  hf.reslot (fun _ _ hv hi => absurd (hi ▸ hf.held hv).live hl) (fun _ c hc hst => absurd hst (hheld c (List.mem_of_getElem? hc)))
    (fun n part he => absurd he (hnone n part)) hfits

end

/-! ### The tables that a change of film and queues leaves -/

/-- From `s` to `t` records, waiting lists and links stay. -/
structure State.SameBooks (s t : State) : Prop where
  records : t.records = s.records
  waiting : t.waiting = s.waiting
  links : t.links = s.links

section
variable {s t u : State}

theorem State.SameBooks.refl (s : State) : s.SameBooks s := ⟨rfl, rfl, rfl⟩

theorem State.SameBooks.trans (h : s.SameBooks t) (h' : t.SameBooks u) : s.SameBooks u :=
  ⟨h'.records.trans h.records, h'.waiting.trans h.waiting, h'.links.trans h.links⟩

theorem State.SameBooks.view (h : s.SameBooks t) :
    t.view = { s.view with slot := t.view.slot, queue := t.view.queue, flying := t.view.flying } := by
  obtain ⟨records, waiting, links⟩ := h
  have hr : t.findRecord = s.findRecord := by funext k; simp only [State.findRecord, records]
  have hw : (fun c : Fin 32 => t.waiting[c]) = fun c : Fin 32 => s.waiting[c] := by rw [waiting]
  have hl : (fun l : Fin 8 => t.links[l].view) = fun l : Fin 8 => s.links[l].view := by rw [links]
  show (⟨t.findRecord, fun c => t.waiting[c], fun l => t.links[l].view, _, _, _⟩ : View) = _
  rw [hr, hw, hl]
  rfl

theorem State.SameBooks.hold (h : s.SameBooks t) : t.view.film.hold = s.view.film.hold := by rw [h.view]; rfl
theorem State.SameBooks.exposing (h : s.SameBooks t) : t.view.film.exposing = s.view.film.exposing := by rw [h.view]; rfl

/-- A change of film and queues alone keeps the agreement when it keeps the film's. -/
theorem State.SameBooks.agrees (h : s.SameBooks t) (hs : s.view.Agrees) (ht : t.view.film.Agrees) : t.view.Agrees := by
  have hv := h.view
  refine ⟨?_, ?_, ?_, ht⟩
  · rw [hv]; exact hs.parts
  · rw [hv]; exact hs.waits
  · rw [hv]; exact hs.receives

end

/-! ### Close triggers -/

section
variable {s : State}

theorem State.indexingTest_sameBooks (s : State) (i : Fin 12) : s.SameBooks (s.indexingTest i) := ⟨by simp, by simp, by simp⟩
theorem State.closeFiche_sameBooks (s : State) (i : Fin 12) : s.SameBooks (s.closeFiche i) := ⟨by simp, by simp, by simp⟩
theorem State.judgeCutOff_sameBooks (s : State) (c : Fin 32) : s.SameBooks (s.judgeCutOff c) := ⟨by simp, by simp, by simp⟩

theorem State.indexingTest_film (h : s.view.film.Agrees) (i : Fin 12) : (s.indexingTest i).view.film.Agrees := by
  rw [State.indexingTest_eq]
  split
  · next hc =>
    obtain ⟨hclosing, hheld⟩ := hc
    have hn : ∀ c ∈ (s.view.slot i).cells, c.state ≠ .held := fun c hc => by
      simpa using List.all_eq_true.mp hheld c hc
    rw [State.view_modHead_queue (hfly := rfl), State.view_modSlot]
    exact h.index (i := i) hclosing hn
  · exact h

theorem State.closeFiche_film (h : s.view.film.Agrees) (i : Fin 12) : (s.closeFiche i).view.film.Agrees := by
  unfold State.closeFiche
  split
  · next ho =>
    refine State.indexingTest_film ?_ i
    rw [State.view_modSlot]
    exact h.close (i := i) ho
  · exact h

theorem State.judgeCutOff_film (h : s.view.film.Agrees) (c : Fin 32) : (s.judgeCutOff c).view.film.Agrees := by
  unfold State.judgeCutOff
  split
  · split
    · exact State.closeFiche_film h _
    · exact h
  · exact h

/-- A fresh map of a valid format has room. -/
theorem Format.newCells_fits {f : Format} (hf : f.valid = true) (fiche : FicheId) (sheet : Nat) :
    SlotView.Fits ⟨.opened, fiche, sheet, f.documentCells, f.indexCells, f.newCells⟩ where
  size _ := f.length_newCells.trans f.documentCells_add_indexCells.symm
  index _ n c hn hc := by
    obtain ⟨m, rfl⟩ := Nat.exists_eq_add_of_le hn
    have hlt : m < f.indexCells := by
      obtain ⟨hlt, -⟩ := List.getElem?_eq_some_iff.mp hc
      have hlen := f.length_newCells.trans f.documentCells_add_indexCells.symm
      dsimp only at hlt
      omega
    obtain rfl := Option.some.inj ((Format.newCells_getElem?_index hlt).symm.trans hc)
    rfl
  room _ := by
    obtain ⟨-, -, -, -, hcells⟩ := f.valid_iff.mp hf
    have hpos := Format.documentCells_pos hcells
    exact ⟨0, hpos, (emptyAt_iff _ _).mpr ⟨_, Format.newCells_getElem?_document hpos, rfl⟩⟩

theorem Format.newCells_not_held {f : Format} {c : Cell} (hc : c ∈ f.newCells) : c.state ≠ .held := by
  simp only [Format.newCells, List.mem_append, List.mem_replicate] at hc
  rcases hc with ⟨-, rfl⟩ | ⟨-, rfl⟩ <;> simp

/-- The format of a series that is not UNDEFINED is valid (R29, R33). -/
theorem State.slotsFit.series_valid (hs : s.slotsFit) {c : Fin 32} (hc : s.series[c].state ≠ .undefined) :
    (s.formatAt s.series[c].format).valid = true := by
  obtain ⟨hvalid, hnamed, -⟩ := hs
  obtain ⟨f, hf⟩ := Option.ne_none_iff_exists'.mp (hnamed c hc)
  obtain ⟨-, hv⟩ := hvalid _ f hf
  rw [State.formatAt, hf]
  exact hv

theorem State.openFiche_film (hs : s.slotsFit) (h : s.view.film.Agrees) {c : Fin 32} (hc : s.series[c].state ≠ .undefined)
    {i : Fin 12} (hfree : s.slots[i].state = .free) : (s.openFiche c (headOf i) i).view.film.Agrees := by
  rw [State.openFiche_eq, State.view_modSeries, State.view_modHead_queue (hfly := rfl), State.view_modSlot]
  exact h.opening (i := i) hfree (Format.newCells_fits (hs.series_valid hc) _ _) fun _ => Format.newCells_not_held

theorem State.openFiche_sameBooks (s : State) (c : Fin 32) (h : Fin 4) (i : Fin 12) : s.SameBooks (s.openFiche c h i) :=
  ⟨by simp, by simp, by simp⟩

end

end Sys2Proof.Machine
end

section
/-! Placement and the film's agreement (section 3.2, 2.5). -/

namespace Sys2Proof.Machine

open Function

/-! ### A map with a leading cell and its second half changed -/

/-- A map after `State.modCells`. -/
def changedCells (cells : List Cell) (n width : Nat) (lead second : Cell → Cell) : List Cell :=
  if width = 2 then (cells.modify n lead).modify (n + 1) second else cells.modify n lead

theorem State.modCells_eq (s : State) (i : Fin 12) (n width : Nat) (lead second : Cell → Cell) :
    s.modCells i n width lead second =
      s.modSlot i fun t => { t with cells := changedCells t.cells n width lead second } := by
  unfold State.modCells State.modCell changedCells
  split <;> simp [State.modSlot]

theorem State.view_modCells (s : State) (i : Fin 12) (n width : Nat) (lead second : Cell → Cell) :
    (s.modCells i n width lead second).view = { s.view with
      slot := update s.view.slot i { s.view.slot i with
        cells := changedCells (s.view.slot i).cells n width lead second } } := by
  rw [State.modCells_eq, State.view_modSlot]
  rfl

theorem State.view_modCell (s : State) (i : Fin 12) (n : Nat) (f : Cell → Cell) :
    (s.modCell i n f).view = { s.view with
      slot := update s.view.slot i { s.view.slot i with cells := (s.view.slot i).cells.modify n f } } := by
  rw [State.modCell, State.view_modSlot]
  rfl

section
variable (cells : List Cell) (n width : Nat) (lead second : Cell → Cell)

theorem length_changedCells : (changedCells cells n width lead second).length = cells.length := by
  unfold changedCells
  split <;> simp

theorem changedCells_getElem?_lead : (changedCells cells n width lead second)[n]? = cells[n]?.map lead := by
  unfold changedCells
  split <;> simp

theorem changedCells_getElem?_second (hw : width = 2) :
    (changedCells cells n width lead second)[n + 1]? = cells[n + 1]?.map second := by
  simp [changedCells, hw]

theorem changedCells_getElem?_other {m : Nat} (hm : m ≠ n) (hm' : ¬ (width = 2 ∧ m = n + 1)) :
    (changedCells cells n width lead second)[m]? = cells[m]? := by
  unfold changedCells
  split
  · next hw =>
    have hne : m ≠ n + 1 := fun h => hm' ⟨hw, h⟩
    simp [Ne.symm hm, Ne.symm hne]
  · simp [Ne.symm hm]

end

theorem grantedCells_eq (cells : List Cell) (q : CellRequest) (n : Nat) :
    grantedCells cells q n = changedCells cells n q.width (fun _ => ⟨.held, some q.key, q.width, false⟩)
      (fun _ => ⟨.trailing, some q.key, 0, false⟩) := by
  simp only [grantedCells, changedCells, List.set_eq_modify]

/-! ### A grant -/

/-- The film with the answer to a request written down: a cell granted is held by the key, and its entry is queued. -/
def Placement.film (q : CellRequest) (p : Placement) : Film :=
  match p.granted with
  | none => p.state.view.film
  | some v =>
    { p.state.view.film with
      hold := update p.state.view.hold q.key (some ⟨v, q.width, q.cls⟩)
      exposing := update p.state.view.exposing q.key false }

/-- The location that a grant of a cell gives. -/
def State.grantedHold (s : State) (q : CellRequest) (i : Fin 12) (n : Nat) : Hold :=
  ⟨⟨i, ⟨s.slots[i].fiche, headOf i, s.slots[i].sheet, n, q.width⟩⟩, q.width, q.cls⟩

/-- The cells of a suitable place are EMPTY. -/
theorem Format.suitable_empty {f : Format} {cells : List Cell} {w n : Nat} (h : f.suitable cells w n = true) {m : Nat}
    (hm : m = n ∨ w = 2 ∧ m = n + 1) : emptyAt cells m = true := by
  unfold Format.suitable at h
  split at h
  · simp only [Bool.and_eq_true] at h
    obtain ⟨⟨⟨hn, hn'⟩, -⟩, -⟩ := h
    rcases hm with rfl | ⟨-, rfl⟩ <;> assumption
  · next hw =>
    simp only [Bool.and_eq_true] at h
    rcases hm with rfl | ⟨hw', -⟩
    · exact h.1
    · exact absurd hw' hw

/-- A grant leaves the slot OPEN while it has room, else CLOSING (R60). -/
theorem State.grantCell_split {s : State} {q : CellRequest} {i : Fin 12} {n : Nat} {x : Cell}
    (hopen : s.slots[i].state = .opened) (hx : s.slots[i].cells[n]? = some x) (o : Bool) :
    ∃ st : SlotState, (st = .opened ∨ st = .closing) ∧
      (st = .opened → ∃ m < (s.slotFormat i).documentCells, emptyAt (grantedCells s.slots[i].cells q n) m = true) ∧
      s.grantCell q i n o = ⟨(s.modSlot i fun t => { t with state := st, cells := grantedCells t.cells q n }).modHead
        (headOf i) (fun k => { k with queue := joinQueue k.queue (.cell i n q.cls) }),
        some (s.grantedHold q i n).reserved, o⟩ := by
  by_cases hr : ∃ m < (s.slotFormat i).documentCells, emptyAt (grantedCells s.slots[i].cells q n) m = true
  · exact ⟨.opened, .inl rfl, fun _ => hr, State.grantCell_eq s q i n o x hopen hx _ (fun _ => rfl) (absurd hr)⟩
  · exact ⟨.closing, .inr rfl, nofun, State.grantCell_eq s q i n o x hopen hx _ (fun h => absurd h hr) fun _ => rfl⟩

/-- A granted location lies on the slot that it was granted on. -/
theorem State.grantedHold_liesOn {s : State} {q : CellRequest} {i : Fin 12} {n : Nat}
    (hn : (s.slotFormat i).suitable s.slots[i].cells q.width n = true) {st : SlotState} (hst : st = .opened ∨ st = .closing) :
    (s.grantedHold q i n).LiesOn q.key { s.slotView i with state := st, cells := grantedCells s.slots[i].cells q n } := by
  have hlead {m : Nat} (hm : m = n ∨ q.width = 2 ∧ m = n + 1) : ∃ c, s.slots[i].cells[m]? = some c := by
    obtain ⟨c, hc, -⟩ := (emptyAt_iff _ _).mp (Format.suitable_empty hn hm)
    exact ⟨c, hc⟩
  refine ⟨hst, rfl, rfl, rfl, Format.documentCell_of_suitable hn, rfl, ?_, fun (hw : q.width = 2) => ?_⟩
  · obtain ⟨c, hc⟩ := hlead (.inl rfl)
    show (grantedCells s.slots[i].cells q n)[n]? = _
    rw [grantedCells_eq, changedCells_getElem?_lead, hc]
    rfl
  · obtain ⟨c, hc⟩ := hlead (.inr ⟨hw, rfl⟩)
    show (grantedCells s.slots[i].cells q n)[n + 1]? = _
    rw [grantedCells_eq, changedCells_getElem?_second _ _ _ _ _ hw, hc]
    rfl

theorem State.grantCell_film {s : State} (h : s.view.film.Agrees) {q : CellRequest} (hk : s.view.hold q.key = none)
    {i : Fin 12} {n : Nat} (hopen : s.slots[i].state = .opened)
    (hn : (s.slotFormat i).suitable s.slots[i].cells q.width n = true) (o : Bool) :
    ((s.grantCell q i n o).film q).Agrees := by
  have hempty : ∀ m, (s.grantedHold q i n).covers m → emptyAt s.slots[i].cells m = true :=
    fun m hm => Format.suitable_empty hn hm
  obtain ⟨x, hx, -⟩ := (emptyAt_iff _ _).mp (hempty n (.inl rfl))
  obtain ⟨st, hst, hroom, hgrant⟩ := State.grantCell_split (q := q) hopen hx o
  have hfilm : (s.grantCell q i n o).film q = s.view.film.added q.key (s.grantedHold q i n) st
      (grantedCells s.slots[i].cells q n) (joinQueue (s.view.queue (headOf i)) (.cell i n q.cls))
      (update s.view.exposing q.key false) := by
    rw [hgrant, Placement.film, State.view_modHead_queue (hfly := rfl), State.view_modSlot]
    rfl
  rw [hfilm]
  refine h.add hk hopen (State.grantedHold_liesOn hn hst) ?_ (fun m hm => ?_) hempty hroom (joinQueue_perm _ _)
    (update_self ..) fun j hj => update_of_ne hj _ _
  · rw [grantedCells_eq]
    exact length_changedCells ..
  · rw [grantedCells_eq]
    exact changedCells_getElem?_other _ _ _ _ _ (fun h => hm (.inl h)) fun h => hm (.inr h)

/-! ### Openings and placements -/

section
variable {s : State} {q : CellRequest}

theorem State.normalPlacement_sameBooks (s : State) (q : CellRequest) : s.SameBooks (s.normalPlacement q).state :=
  ⟨by simp, by simp, by simp⟩
theorem State.rePlacement_sameBooks (s : State) (i : Fin 12) (q : CellRequest) : s.SameBooks (s.rePlacement i q).state :=
  ⟨by simp, by simp, by simp⟩

theorem State.openAndGrant_film (hs : s.slotsFit) (h : s.view.film.Agrees) (hk : s.view.hold q.key = none) :
    ((s.openAndGrant q).film q).Agrees := by
  unfold State.openAndGrant
  split
  · next hq =>
    split
    · next g hg =>
      split
      · next i hi =>
        obtain ⟨rfl, hfree⟩ := State.freeSlot_some hi
        have hopen := State.openFiche_film hs h hq.1 hfree
        have hk' : (s.openFiche q.series (headOf i) i).view.hold q.key = none := by
          have hh := (s.openFiche_sameBooks q.series (headOf i) i).hold
          exact (congrFun hh q.key).trans hk
        split
        · next n hn =>
          refine State.grantCell_film hopen hk' ?_ ((State.searchCell_eq_some_iff _ _ _ _).mp hn).1 true
          rw [State.openFiche_slot]
          rfl
        · exact hopen
      · exact h
    · exact h
  · exact h

theorem State.normalPlacement_film (hs : s.slotsFit) (h : s.view.film.Agrees) (hk : s.view.hold q.key = none) :
    ((s.normalPlacement q).film q).Agrees := by
  unfold State.normalPlacement
  split
  · exact State.openAndGrant_film hs h hk
  · next i hi =>
    obtain ⟨hopen, -⟩ := State.openSlot_some hi
    split
    · next n hn => exact State.grantCell_film h hk hopen ((State.searchCell_eq_some_iff _ _ _ _).mp hn).1 false
    · have hk' : (s.closeFiche i).view.hold q.key = none := (congrFun (s.closeFiche_sameBooks i).hold q.key).trans hk
      exact State.openAndGrant_film ((s.closeFiche_keeps i).formats hs) (State.closeFiche_film h i) hk'

theorem State.rePlacement_film (hs : s.slotsFit) (h : s.view.film.Agrees) (hk : s.view.hold q.key = none) (i : Fin 12) :
    ((s.rePlacement i q).film q).Agrees := by
  unfold State.rePlacement
  split
  · next hopen =>
    split
    · next n hn => exact State.grantCell_film h hk hopen ((State.searchCell_eq_some_iff _ _ _ _).mp hn).1 false
    · exact State.normalPlacement_film hs h hk
  · exact State.normalPlacement_film hs h hk

end

end Sys2Proof.Machine
end

section
/-! Records that are placed or wait, and the agreement (R14, R15, R18, R47). -/

namespace Sys2Proof.Machine

open Function

/-! ### One record changes -/

section
variable {v : View} {k : Key} {o : Option Record}

theorem View.waits_replace (waiting : Fin 32 → List Key) (link : Fin 8 → LinkView) (slot : Fin 12 → SlotView)
    (queue : Fin 4 → List Entry) (flying : Fin 4 → Option Entry) :
    View.waits ⟨update v.record k o, waiting, link, slot, queue, flying⟩ = update v.waits k (o.bind Record.waitsOn) :=
  comp_update _ _ _ _

theorem View.receives_replace (waiting : Fin 32 → List Key) (link : Fin 8 → LinkView) (slot : Fin 12 → SlotView)
    (queue : Fin 4 → List Entry) (flying : Fin 4 → Option Entry) :
    View.receives ⟨update v.record k o, waiting, link, slot, queue, flying⟩ = update v.receives k (o.bind Record.receives) :=
  comp_update _ _ _ _

theorem View.film_replace (waiting : Fin 32 → List Key) (link : Fin 8 → LinkView) (slot : Fin 12 → SlotView)
    (queue : Fin 4 → List Entry) (flying : Fin 4 → Option Entry) :
    View.film ⟨update v.record k o, waiting, link, slot, queue, flying⟩ =
      ⟨update v.hold k (o.bind Record.hold), update v.exposing k (o.any Record.isExposing), slot, queue, flying⟩ := by
  have hh := comp_update (fun o : Option Record => o.bind Record.hold) v.record k o
  have he := comp_update (fun o : Option Record => o.any Record.isExposing) v.record k o
  exact congrArg₂ (fun a b => Film.mk a b slot queue flying) hh he

/-- The record of one key is replaced, with the tables that it asks of. -/
theorem View.Agrees.replace (h : v.Agrees) {waiting : Fin 32 → List Key} {link : Fin 8 → LinkView}
    {slot : Fin 12 → SlotView} {queue : Fin 4 → List Entry} {flying : Fin 4 → Option Entry}
    (parts : ∀ r, o = some r → r.key = k ∧ r.partsFit)
    (waits : WaitsAgree (update v.waits k (o.bind Record.waitsOn)) waiting)
    (receives : ReceivesAgree (update v.receives k (o.bind Record.receives)) link)
    (film : Film.Agrees ⟨update v.hold k (o.bind Record.hold), update v.exposing k (o.any Record.isExposing), slot, queue,
      flying⟩) : View.Agrees ⟨update v.record k o, waiting, link, slot, queue, flying⟩ where
  parts {j r} hr := by
    dsimp only at hr
    rw [update_apply] at hr
    split at hr
    · next hj => exact hj ▸ parts r hr
    · exact h.parts hr
  waits := by rw [View.waits_replace]; exact waits
  receives := by rw [View.receives_replace]; exact receives
  film := by rw [View.film_replace]; exact film

end

/-! ### What a record of a state asks -/

section
variable {v : View} {k : Key} {r : Record}

theorem View.waits_of_record (hr : v.record k = some r) : v.waits k = r.waitsOn := by simp [View.waits, hr]
theorem View.receives_of_record (hr : v.record k = some r) : v.receives k = r.receives := by simp [View.receives, hr]
theorem View.hold_of_record (hr : v.record k = some r) : v.hold k = r.hold := by simp [View.hold, hr]

/-- Replacing what a key asks by the same leaves what is asked. -/
theorem View.waits_update_same (hr : v.record k = some r) {a : Option (Fin 32)} (ha : a = r.waitsOn) :
    update v.waits k a = v.waits := by rw [ha, ← View.waits_of_record hr, update_eq_self]
theorem View.receives_update_same (hr : v.record k = some r) {a : Option Bool} (ha : a = r.receives) :
    update v.receives k a = v.receives := by rw [ha, ← View.receives_of_record hr, update_eq_self]
theorem View.hold_update_same (hr : v.record k = some r) {a : Option Hold} (ha : a = r.hold) :
    update v.hold k a = v.hold := by rw [ha, ← View.hold_of_record hr, update_eq_self]

end

/-! ### The answer to a request settled -/

theorem State.settle_granted {r : Record} {p : Placement} {t : State} (h : State.settle r p = (t, true)) :
    ∃ v, p.granted = some v ∧ (t = p.state.updateRecord r.key (·.granted v) ∨
      t = (p.state.updateRecord r.key (·.granted v)).judgeCutOff r.series) := by
  unfold State.settle at h
  split at h
  · next v hv =>
    refine ⟨v, hv, ?_⟩
    split at h <;> simp only [Prod.mk.injEq, and_true] at h
    · exact .inr h.symm
    · exact .inl h.symm
  · simp at h

theorem State.settle_refused {r : Record} {p : Placement} {t : State} (h : State.settle r p = (t, false)) :
    p.granted = none ∧ t = p.state := by
  unfold State.settle at h
  split at h
  · split at h <;> simp at h
  · next hv => simp only [Prod.mk.injEq, and_true] at h; exact ⟨hv, h.symm⟩

/-- A record granted a cell asks for its hold alone. -/
theorem Record.granted_hold (x : Record) (v : Reserved) : (x.granted v).hold = some ⟨v, x.request.width, x.request.cls⟩ := rfl

/-- From `s` to `t` the record of `k` became `o`, and the film changed; waiting lists and links stayed. -/
structure State.Rewrote (s t : State) (k : Key) (o : Option Record) : Prop where
  view : t.view = { s.view with
    record := update s.view.record k o, slot := t.view.slot, queue := t.view.queue, flying := t.view.flying }
  film : t.view.film.Agrees

section
variable {s t u : State} {k : Key} {o : Option Record}

theorem State.Rewrote.sameBooks (h : s.Rewrote t k o) (hb : t.SameBooks u) (hf : u.view.film.Agrees) : s.Rewrote u k o := by
  refine ⟨?_, hf⟩
  have hv := hb.view
  rw [h.view] at hv
  exact hv

theorem State.Rewrote.of_view_eq (h : s.Rewrote t k o) (hu : u.view = t.view) : s.Rewrote u k o :=
  ⟨by rw [hu]; exact h.view, by rw [hu]; exact h.film⟩

theorem State.Rewrote.judgeCutOff (h : s.Rewrote t k o) (c : Fin 32) : s.Rewrote (t.judgeCutOff c) k o :=
  h.sameBooks (State.judgeCutOff_sameBooks t c) (State.judgeCutOff_film h.film c)

theorem State.Rewrote.indexingTest (h : s.Rewrote t k o) (i : Fin 12) : s.Rewrote (t.indexingTest i) k o :=
  h.sameBooks (State.indexingTest_sameBooks t i) (State.indexingTest_film h.film i)

/-- A record that holds nothing becomes one that holds nothing. -/
theorem State.rewrote_of_view (h : s.view.film.Agrees) (hhold : s.view.hold k = none) (ho : o.bind Record.hold = none)
    (ht : t.view = { s.view with record := update s.view.record k o }) : s.Rewrote t k o := by
  refine ⟨by rw [ht], ?_⟩
  rw [ht, View.film_replace, ho, ← hhold, update_eq_self]
  exact h.reexpose hhold _

theorem State.Rewrote.trans {o' : Option Record} (h : s.Rewrote t k o) (h' : t.Rewrote u k o') : s.Rewrote u k o' := by
  refine ⟨?_, h'.film⟩
  have hv := h'.view
  rw [h.view, update_idem] at hv
  exact hv

/-- What is left to show of an operation that rewrote a record, when a link may have changed before. -/
theorem State.Rewrote.agrees (ht : t.Rewrote u k o) (h : s.view.Agrees) {old link : Fin 8 → LinkView}
    (hst : t.view = { s.view with link := old }) {waiting : Fin 32 → List Key} {w : State}
    (hw : w.view = { u.view with waiting := waiting, link := link })
    (parts : ∀ r, o = some r → r.key = k ∧ r.partsFit)
    (waits : WaitsAgree (update s.view.waits k (o.bind Record.waitsOn)) waiting)
    (receives : ReceivesAgree (update s.view.receives k (o.bind Record.receives)) link) : w.view.Agrees := by
  have hfilm := ht.film
  rw [ht.view, View.film_replace, hst] at hfilm
  rw [hw, ht.view, hst]
  exact h.replace parts waits receives hfilm

end

section
variable {s t : State} {r x : Record} {p : Placement}

theorem State.settle_rewrote (hb : s.SameBooks p.state) (hp : (p.film r.request).Agrees) (hx : s.findRecord r.key = some x)
    (hq : x.request = r.request) (hst : ∀ v, (x.granted v).isExposing = false) (h : State.settle r p = (t, true)) :
    ∃ v, s.Rewrote t r.key (some (x.granted v)) := by
  obtain ⟨v, hv, ht⟩ := State.settle_granted h
  refine ⟨v, ?_⟩
  have hbv := hb.view
  have hrec : p.state.view.record r.key = some x := by rw [hbv]; exact hx
  have hview := p.state.view_updateRecord r.key (f := (·.granted v)) fun _ => rfl
  rw [hrec, Option.map_some] at hview
  have hfilm : (p.state.updateRecord r.key (·.granted v)).view.film = p.film r.request := by
    rw [hview, View.film_replace, Placement.film, hv]
    simp only [Option.bind_some, Option.any_some, Record.granted_hold, hst, hq]
    rfl
  have hgrant : s.Rewrote (p.state.updateRecord r.key (·.granted v)) r.key (some (x.granted v)) := by
    refine ⟨?_, by rw [hfilm]; exact hp⟩
    rw [hview, hbv]
  rcases ht with rfl | rfl
  · exact hgrant
  · exact hgrant.judgeCutOff _

theorem State.settle_sameBooks (hb : s.SameBooks p.state) (h : State.settle r p = (t, false)) : s.SameBooks t := by
  obtain ⟨-, rfl⟩ := State.settle_refused h
  exact hb

theorem State.settle_film (hp : (p.film r.request).Agrees) (h : State.settle r p = (t, false)) : t.view.film.Agrees := by
  obtain ⟨hv, rfl⟩ := State.settle_refused h
  rwa [Placement.film, hv] at hp

end

end Sys2Proof.Machine
end

section
/-! Serving a waiting list, and a body accepted, keep the agreement (R14, R18, R47). -/

namespace Sys2Proof.Machine

open Function

/-! ### What a record asks, by its state -/

section
variable {r : Record}

theorem Record.waitsOn_eq_none (h : r.state ≠ .waiting ∧ r.state ≠ .retakeWaiting) : r.waitsOn = none := by
  simp [Record.waitsOn, h.1, h.2]

theorem Record.receives_eq_none (h : r.state ≠ .receiving ∧ r.state ≠ .retakeReceiving) : r.receives = none := by
  simp [Record.receives, h.1, h.2]

theorem Record.isExposing_eq_false (h : r.state ≠ .exposing ∧ r.state ≠ .retakeExposing) : r.isExposing = false := by
  simp [Record.isExposing, h.1, h.2]

/-- A record that is in no state with a reserved location holds nothing. -/
theorem Record.partsFit.hold_eq_none (h : r.partsFit)
    (hs : r.state ∉ [RecordState.reserved, .exposing, .retakeReserved, .retakeExposing]) : r.hold = none :=
  Record.hold_eq_none.mpr (h.reserved_eq_none hs)

/-- A record with a reserved location neither waits nor receives. -/
theorem Record.partsFit.holder (h : r.partsFit) {v : Reserved} (hv : r.reserved = some v) :
    r.waitsOn = none ∧ r.receives = none := by
  have hs := h.state_of_reserved hv
  constructor
  · refine Record.waitsOn_eq_none ⟨?_, ?_⟩ <;> intro he <;> simp [he] at hs
  · refine Record.receives_eq_none ⟨?_, ?_⟩ <;> intro he <;> simp [he] at hs

/-- The states of records that a grant can be made to. -/
theorem Record.partsFit.granted (h : r.partsFit)
    (hs : r.state = .waiting ∨ r.state = .retakeWaiting ∨ r.state = .exposing ∨ r.state = .retakeExposing) (v : Reserved) :
    (r.granted v).partsFit ∧ (r.granted v).isExposing = false := by
  obtain ⟨hreserved, hcurrent, hsuperseded, hlength, hretake, hcells⟩ := h
  rcases hs with hs | hs | hs | hs <;>
    simp_all [Record.granted, Record.partsFit, Record.isExposing, RecordState.retake]

end

/-! ### A waiting record is placed -/

section
variable {s t : State} {k : Key} {r x : Record}

/-- A record that waits asks for its list alone. -/
theorem View.Agrees.waiting_asks {v : View} (h : v.Agrees) (hr : v.record k = some r)
    (hs : r.state = .waiting ∨ r.state = .retakeWaiting) :
    r.waitsOn = some r.series ∧ r.receives = none ∧ r.hold = none ∧ r.isExposing = false := by
  obtain ⟨-, hp⟩ := h.parts hr
  refine ⟨Record.waitsOn_eq_some.mpr ⟨hs, rfl⟩, Record.receives_eq_none ⟨?_, ?_⟩, hp.hold_eq_none ?_,
    Record.isExposing_eq_false ⟨?_, ?_⟩⟩ <;> rcases hs with hs | hs <;> simp [hs]

/-- A record placed from its list is off the list. -/
theorem State.leaveWaiting_agrees (h : s.view.Agrees) (hr : s.findRecord k = some r)
    (hs : r.state = .waiting ∨ r.state = .retakeWaiting) {v : Reserved} (ht : s.Rewrote t k (some (r.granted v))) :
    (t.leaveWaiting r.series k).view.Agrees := by
  obtain ⟨hkey, hp⟩ := h.parts hr
  obtain ⟨hwaits, hreceives, -⟩ := h.waiting_asks hr hs
  obtain ⟨hgranted, hexposing⟩ := hp.granted (hs.imp_right .inl) v
  obtain ⟨hw, hrec⟩ := hgranted.holder (v := v) rfl
  have hview := State.view_modWaiting t r.series fun ks => ks.filter fun x => decide (x ≠ k)
  rw [show t.view.waiting = s.view.waiting by rw [ht.view]] at hview
  refine ht.agrees h (old := s.view.link) (link := t.view.link) rfl hview (fun _ he => ?_) ?_ ?_
  · obtain rfl := Option.some.inj he
    exact ⟨hkey, hgranted⟩
  · rw [Option.bind_some, hw]
    exact h.waits.leave (by rw [View.waits_of_record hr, hwaits])
  · rw [Option.bind_some, View.receives_update_same hr (hrec.trans hreceives.symm),
      show t.view.link = s.view.link by rw [ht.view]]
    exact h.receives

/-- A refused request keeps the agreement. -/
theorem State.film_of_refusal (hfit : s.slotsFit) (h : s.view.film.Agrees) (hk : s.view.hold r.key = none)
    (ho : s.offer r = (t, false)) : s.SameBooks t ∧ t.view.film.Agrees :=
  ⟨State.settle_sameBooks (s.normalPlacement_sameBooks r.request) ho,
    State.settle_film (State.normalPlacement_film hfit h hk) ho⟩

/-- A granted request rewrites the record. -/
theorem State.rewrote_of_grant (hfit : s.slotsFit) (h : s.view.film.Agrees) (hk : s.view.hold r.key = none)
    (hr : s.findRecord r.key = some r) (hst : ∀ v, (r.granted v).isExposing = false) (ho : s.offer r = (t, true)) :
    ∃ v, s.Rewrote t r.key (some (r.granted v)) :=
  State.settle_rewrote (s.normalPlacement_sameBooks r.request) (State.normalPlacement_film hfit h hk) hr rfl hst ho

theorem State.serveFrom_agrees (c : Fin 32) (fuel : Nat) (hfit : s.slotsFit) (h : s.view.Agrees) :
    (State.serveFrom c fuel s).view.Agrees := by
  induction fuel generalizing s with
  | zero => exact h
  | succ fuel ih =>
    unfold State.serveFrom
    split
    · exact h
    · next k _ hw =>
      split
      · exact h
      · next r hr =>
        obtain ⟨x, hx, hs, hc⟩ := View.waits_eq_some.mp (((h.waits c).2 k).mp (show k ∈ s.waiting[c] by rw [hw]; exact .head _))
        obtain rfl := Option.some.inj (hr.symm.trans hx)
        obtain ⟨rfl, hp⟩ := h.parts hr
        obtain ⟨-, -, hhold, -⟩ := h.waiting_asks hr hs
        have hk : s.view.hold r.key = none := (View.hold_of_record hr).trans hhold
        have hkeeps := s.offer_keeps r
        split
        · next t ht =>
          rw [ht] at hkeeps
          obtain ⟨v, hv⟩ := State.rewrote_of_grant hfit h.film hk hr (fun v => (hp.granted (hs.imp_right .inl) v).2) ht
          refine ih ((t.leaveWaiting_keeps c r.key).formats (hkeeps.formats hfit)) ?_
          rw [← hc]
          exact State.leaveWaiting_agrees h hr hs hv
        · next t ht =>
          obtain ⟨hbooks, hfilm⟩ := State.film_of_refusal hfit h.film hk ht
          exact hbooks.agrees h hfilm

theorem State.serveList_agrees (hfit : s.slotsFit) (h : s.view.Agrees) (c : Fin 32) : (s.serveList c).view.Agrees :=
  State.serveFrom_agrees c _ hfit h

theorem State.servePass_agrees (hfit : s.slotsFit) (h : s.view.Agrees) : s.servePass.view.Agrees := by
  have hfold := frame_foldl (fun t : State => t.slotsFit ∧ t.view.Agrees) State.serveList
    (fun t c ht => ⟨(t.serveList_keeps c).formats ht.1, State.serveList_agrees ht.1 ht.2 c⟩) allSeries s ⟨hfit, h⟩
  exact hfold.2

end

end Sys2Proof.Machine
end

section
/-! Receptions and the agreement (R10 to R14, R115 to R124). -/

namespace Sys2Proof.Machine

open Function

/-! ### A record whose image is received -/

section
variable {r : Record}

/-- A record whose image is received asks for its reception alone. -/
theorem Record.partsFit.receiving_asks (h : r.partsFit) (hs : r.state = .receiving ∨ r.state = .retakeReceiving) :
    r.waitsOn = none ∧ r.hold = none := by
  refine ⟨Record.waitsOn_eq_none ⟨?_, ?_⟩, h.hold_eq_none ?_⟩ <;> rcases hs with hs | hs <;> simp [hs]

/-- An EXPOSED record asks for nothing. -/
theorem Record.partsFit.exposed_asks (h : r.partsFit) (hs : r.state = .exposed) :
    r.waitsOn = none ∧ r.receives = none ∧ r.hold = none := by
  refine ⟨Record.waitsOn_eq_none ⟨?_, ?_⟩, Record.receives_eq_none ⟨?_, ?_⟩, h.hold_eq_none ?_⟩ <;> simp [hs]

/-- The states of a retake whose cancelling returns the record to EXPOSED. -/
theorem Record.partsFit.retakeCancelled (h : r.partsFit) (hs : r.state.retake = true) : r.retakeCancelled.partsFit := by
  obtain ⟨hreserved, hcurrent, hsuperseded, hlength, hretake, hcells⟩ := h
  refine ⟨by simp [Record.retakeCancelled], ?_, hsuperseded, hlength, by simp [Record.retakeCancelled, RecordState.retake],
    by simp [Record.retakeCancelled]⟩
  simpa [Record.retakeCancelled] using hcurrent.mpr (.inr hs)

/-- A record whose body is accepted (R14). -/
def Record.accepted (r : Record) : Record := { r with state := r.state.accepted }

theorem Record.partsFit.accepted (h : r.partsFit) (hs : r.state = .receiving ∨ r.state = .retakeReceiving) :
    r.accepted.partsFit ∧ (r.accepted.state = .waiting ∨ r.accepted.state = .retakeWaiting) := by
  obtain ⟨hreserved, hcurrent, hsuperseded, hlength, hretake, hcells⟩ := h
  rcases hs with hs | hs <;> simp_all [Record.accepted, Record.partsFit, RecordState.accepted, RecordState.retake]

/-- A record that waits holds nothing. -/
theorem Record.partsFit.waiting_asks (h : r.partsFit) (hs : r.state = .waiting ∨ r.state = .retakeWaiting) :
    r.hold = none := by
  refine h.hold_eq_none ?_
  rcases hs with hs | hs <;> simp [hs]

end

/-! ### Endings of receptions (R13) -/

section
variable {s t u : State} {k : Key} {r : Record} {l : Fin 8} {b : Bool}

/-- What a record becomes when its reception ends: nothing, or EXPOSED as before the retake. -/
structure Ended (k : Key) (o : Option Record) : Prop where
  parts : ∀ x, o = some x → x.key = k ∧ x.partsFit
  waits : o.bind Record.waitsOn = none
  receives : o.bind Record.receives = none
  hold : o.bind Record.hold = none

theorem Ended.none (k : Key) : Ended k none := ⟨nofun, rfl, rfl, rfl⟩

theorem Ended.retakeCancelled (hk : r.key = k) (hp : r.partsFit) (hs : r.state.retake = true) :
    Ended k (some r.retakeCancelled) := by
  have hp' := hp.retakeCancelled hs
  obtain ⟨hwaits, hreceives, hhold⟩ := hp'.exposed_asks rfl
  refine ⟨fun x hx => ?_, hwaits, hreceives, hhold⟩
  obtain rfl := Option.some.inj hx
  exact ⟨hk, hp'⟩

theorem State.endReception_rewrote (hf : s.view.film.Agrees) (hr : s.findRecord k = some r) (hp : r.partsFit)
    (hs : r.state = .receiving ∨ r.state = .retakeReceiving) : ∃ o, s.Rewrote (s.endReception k) k o ∧ Ended k o := by
  obtain ⟨-, hhold⟩ := hp.receiving_asks hs
  obtain ⟨-, hkey⟩ := State.findRecord_some hr
  have hhold' : s.view.hold k = none := (View.hold_of_record hr).trans hhold
  unfold State.endReception
  rw [hr]
  rcases hs with hs | hs <;> simp only [hs]
  · have hend := Ended.none k
    have hw := State.rewrote_of_view hf hhold' hend.hold (s.view_removeRecord k)
    exact ⟨none, (hw.of_view_eq (State.view_release _ _)).judgeCutOff _, hend⟩
  · have hend := Ended.retakeCancelled hkey hp (by simp [hs, RecordState.retake])
    have hview := s.view_updateRecord k (f := Record.retakeCancelled) fun _ => rfl
    rw [show s.view.record k = some r from hr, Option.map_some] at hview
    exact ⟨_, (State.rewrote_of_view hf hhold' hend.hold hview).of_view_eq (State.view_release _ _),
      hend⟩

/-- The record that a link fills. -/
theorem View.Agrees.filled {v : View} (h : v.Agrees) (hl : (v.link l).running = some (k, b)) :
    ∃ r, v.record k = some r ∧ r.key = k ∧ r.partsFit ∧ (r.state = .receiving ∨ r.state = .retakeReceiving) := by
  obtain ⟨r, hr, hs⟩ := View.receives_eq_some.mp ((h.receives.running k b).mpr ⟨l, hl⟩)
  obtain ⟨hk, hp⟩ := h.parts hr
  refine ⟨r, hr, hk, hp, ?_⟩
  cases b
  · exact .inl hs
  · exact .inr hs

/-- A reception ends with its record, on a link that may have gone DOWN. -/
theorem State.endReception_agrees (h : s.view.Agrees) (hl : (s.view.link l).running = some (k, b)) {y : LinkView}
    (hu : u.view = { s.view with link := update s.view.link l y }) : ((u.endReception k).idleContext l).view.Agrees := by
  obtain ⟨r, hr, -, hp, hs⟩ := h.filled hl
  obtain ⟨hwaits, -⟩ := hp.receiving_asks hs
  have hfilm : u.view.film.Agrees := by rw [hu]; exact h.film
  have hru : u.findRecord k = some r := by
    have hrec : u.view.record = s.view.record := by rw [hu]
    exact (congrFun hrec k).trans hr
  obtain ⟨o, hw, hend⟩ := State.endReception_rewrote hfilm hru hp hs
  have hlink : (u.endReception k).view.link = update s.view.link l y := by rw [hw.view, hu]
  have hwaiting : (u.endReception k).view.waiting = s.view.waiting := by rw [hw.view, hu]
  have hidle := (u.endReception k).view_idleContext l
  rw [hlink, update_idem] at hidle
  refine hw.agrees h hu (waiting := (u.endReception k).view.waiting) hidle hend.parts ?_ ?_
  · rw [hend.waits, View.waits_update_same hr hwaits.symm, hwaiting]
    exact h.waits
  · rw [hend.receives]
    exact h.receives.stop hl rfl nofun

/-- A link that receives nothing goes idle. -/
theorem State.idleContext_agrees (h : s.view.Agrees) (hl : (s.view.link l).running = none) {y : LinkView}
    (hu : u.view = { s.view with link := update s.view.link l y }) : (u.idleContext l).view.Agrees := by
  rw [State.view_idleContext, hu, update_idem]
  exact ⟨h.parts, h.waits, h.receives.relink hl.symm nofun, h.film⟩

theorem State.view_eq_update (hu : u.view = s.view) :
    u.view = { s.view with link := update s.view.link l (s.view.link l) } := by rw [hu, update_eq_self]

theorem State.link_running {c : Reception} (hl : s.links[l].reception = some c) :
    (s.view.link l).running = if c.withdrawn then none else some (c.key, c.retake) := by
  show (s.links[l].reception.bind Reception.running) = _
  rw [hl]
  rfl

theorem State.endWithRefuse_agrees (h : s.view.Agrees) {c : Reception} (hl : s.links[l].reception = some c) (cause : Cause) :
    (s.endWithRefuse l c cause).view.Agrees := by
  have hrun := State.link_running hl
  unfold State.endWithRefuse
  split
  · next hw =>
    rw [if_pos hw] at hrun
    exact State.idleContext_agrees h hrun (State.view_eq_update (State.view_refuse _ _ _ _))
  · next hw =>
    rw [if_neg hw] at hrun
    exact State.endReception_agrees h hrun (State.view_eq_update (State.view_refuse _ _ _ _))

theorem State.endRunning_agrees (h : s.view.Agrees) (l : Fin 8) (cause : Cause) : (s.endRunning l cause).view.Agrees := by
  unfold State.endRunning
  split
  · next c hc => exact State.endWithRefuse_agrees h hc cause
  · exact h

/-- A carrier is lost, with the reception on it (R124). -/
theorem State.linkDown_agrees (h : s.view.Agrees) (ht : execLinkDown l s = .next t) : t.view.Agrees := by
  have hlost := s.view_modLink l fun k => { k with active := false, holdTimer := none, quantum := 0, outbox := [] }
  unfold execLinkDown at ht
  split at ht
  · split at ht
    · next hnone =>
      obtain rfl := Host.Outcome.next.inj ht
      rw [State.carrierLost, hlost]
      refine ⟨h.parts, h.waits, h.receives.relink rfl ?_, h.film⟩
      intro hb
      have hbusy : s.links[l].reception.isSome = true := hb
      rw [hnone] at hbusy
      exact absurd hbusy (by decide)
    · next c hc =>
      obtain rfl := Host.Outcome.next.inj ht
      have hrun := State.link_running hc
      unfold State.endWithCarrier
      dsimp only
      have hu := (State.view_countLink (s.carrierLost l) l .carrierLostReceptions).trans hlost
      split
      · next hw =>
        rw [if_pos hw] at hrun
        exact State.idleContext_agrees h hrun hu
      · next hw =>
        rw [if_neg hw] at hrun
        exact State.endReception_agrees h hrun hu
  · obtain rfl := Host.Outcome.next.inj ht
    exact h

/-! ### Acceptance of a body (R14) -/

/-- A record that is on no list joins its series' list. -/
theorem State.joinWaiting_agrees (h : s.view.Agrees) {old : Fin 8 → LinkView} (hst : t.view = { s.view with link := old })
    {x : Record} (hw : t.Rewrote u k (some x)) (hk : x.key = k) (hp : x.partsFit)
    (hx : x.state = .waiting ∨ x.state = .retakeWaiting) (hwaits : s.view.waits k = none)
    (hreceives : ReceivesAgree (update s.view.receives k none) old) : (u.joinWaiting x.series k).view.Agrees := by
  have hjoin := u.view_modWaiting x.series (· ++ [k])
  have hwaiting : u.view.waiting = s.view.waiting := by rw [hw.view, hst]
  have hlink : u.view.link = old := by rw [hw.view, hst]
  rw [hwaiting] at hjoin
  refine hw.agrees h hst (link := u.view.link) hjoin (fun y hy => ?_) ?_ ?_
  · obtain rfl := Option.some.inj hy
    exact ⟨hk, hp⟩
  · rw [Option.bind_some, Record.waitsOn_eq_some.mpr ⟨hx, rfl⟩]
    exact h.waits.join hwaits _
  · rw [Option.bind_some, Record.receives_eq_none ⟨?_, ?_⟩, hlink]
    · exact hreceives
    · rcases hx with hx | hx <;> simp [hx]
    · rcases hx with hx | hx <;> simp [hx]

/-- A body accepted, on a context already idle: the record is placed or waits. -/
theorem State.acceptBody_agrees (h : s.view.Agrees) (hl : (s.view.link l).running = some (k, b)) {a : Bool}
    (hu : u.view = { s.view with link := update s.view.link l ⟨a, false, none⟩ }) (hfit : u.slotsFit) :
    (u.acceptBody k).view.Agrees := by
  obtain ⟨r, hr, rfl, hp, hs⟩ := h.filled hl
  obtain ⟨hwaits, hhold⟩ := hp.receiving_asks hs
  obtain ⟨hp', hs'⟩ := hp.accepted hs
  have hhold' := hp'.waiting_asks hs'
  have hreceives : ReceivesAgree (update s.view.receives r.key none) (update s.view.link l ⟨a, false, none⟩) :=
    h.receives.stop hl rfl nofun
  have hnone : s.view.waits r.key = none := (View.waits_of_record hr).trans hwaits
  have hrec : u.view.record = s.view.record := by rw [hu]
  have hru : u.findRecord r.key = some r := (congrFun hrec r.key).trans hr
  have hfilm : u.view.film.Agrees := by rw [hu]; exact h.film
  have hview := u.view_updateRecord r.key (f := Record.accepted) fun _ => rfl
  rw [show u.view.record r.key = some r from hru, Option.map_some] at hview
  have hw := State.rewrote_of_view hfilm ((View.hold_of_record hru).trans hhold) (o := some r.accepted) hhold' hview
  have hrec' : (u.updateRecord r.key Record.accepted).view.record r.key = some r.accepted := by
    rw [hview]
    exact update_self ..
  have hfit' := (u.updateRecord_keeps r.key (f := Record.accepted) fun _ => rfl).formats hfit
  have hk : (u.updateRecord r.key Record.accepted).view.hold r.key = none := (View.hold_of_record hrec').trans hhold'
  unfold State.acceptBody
  rw [hru]
  dsimp only
  split
  · split
    · next t ht =>
      have hgranted := fun v => hp'.granted (hs'.imp_right .inl) v
      obtain ⟨v, hv⟩ := State.rewrote_of_grant (r := r.accepted) hfit' hw.film hk hrec' (fun v => (hgranted v).2) ht
      obtain ⟨hgw, hgr⟩ := (hgranted v).1.holder (v := v) rfl
      have hvw := (hw.trans hv).view
      have hlink : t.view.link = update s.view.link l ⟨a, false, none⟩ := by rw [hvw, hu]
      have hwaiting : t.view.waiting = s.view.waiting := by rw [hvw, hu]
      refine (hw.trans hv).agrees h hu (waiting := t.view.waiting) (link := t.view.link) rfl (fun y hy => ?_) ?_ ?_
      · obtain rfl := Option.some.inj hy
        exact ⟨rfl, (hgranted v).1⟩
      · rw [Option.bind_some, hgw, View.waits_update_same hr hwaits.symm, hwaiting]
        exact h.waits
      · rw [Option.bind_some, hgr, hlink]
        exact hreceives
    · next t ht =>
      obtain ⟨hbooks, hf⟩ := State.film_of_refusal (r := r.accepted) hfit' hw.film hk ht
      exact State.joinWaiting_agrees (x := r.accepted) h hu (hw.sameBooks hbooks hf) rfl hp' hs' hnone hreceives
  · exact State.serveList_agrees ((State.joinWaiting_keeps _ _ _).formats hfit')
      (State.joinWaiting_agrees (x := r.accepted) h hu hw rfl hp' hs' hnone hreceives) _

theorem State.acceptReception_agrees (hfit : s.slotsFit) (h : s.view.Agrees) {c : Reception}
    (hl : s.links[l].reception = some c) (hw : c.withdrawn = false) : (s.acceptReception l c).view.Agrees := by
  have hrun := State.link_running hl
  rw [hw, if_neg (by decide)] at hrun
  have hidle := State.view_idleContext ((s.sendFrame l (.accept c.tag c.key)).countLink l .accepted) l
  rw [State.view_countLink, State.view_sendFrame] at hidle
  exact State.acceptBody_agrees h hrun hidle
    ((((s.sendFrame_keeps l _).trans (State.countLink_keeps _ l _)).trans (State.idleContext_keeps _ l)).formats hfit)

theorem State.takeEnd_agrees (hfit : s.slotsFit) (h : s.view.Agrees) (l : Fin 8) (check : BitVec 32) :
    (s.takeEnd l check).view.Agrees := by
  unfold State.takeEnd
  split
  · rw [State.view_countLink]; exact h
  · next c hc =>
    split_ifs with hw
    · exact State.endWithRefuse_agrees h hc _
    · exact State.endWithRefuse_agrees h hc _
    · exact State.endWithRefuse_agrees h hc _
    · exact State.acceptReception_agrees hfit h hc (by simpa using hw)

theorem State.takeBody_agrees (h : s.view.Agrees) (l : Fin 8) (bytes : List Byte) : (s.takeBody l bytes).view.Agrees := by
  unfold State.takeBody
  split
  · rw [State.view_countLink]; exact h
  · next c hc =>
    split_ifs
    · exact h
    · have hview : (s.storeBody l c bytes).view = s.view := by
        refine State.view_modLink_of _ ?_
        show Link.view { s.links[l] with reception := _ } = s.links[l].view
        simp only [Link.view, hc]
        rfl
      rw [hview]
      exact h
    · exact State.endWithRefuse_agrees h hc _

end

end Sys2Proof.Machine
end

section
/-! Claims and the agreement (R10 to R12, R115 to R118). -/

namespace Sys2Proof.Machine

open Function

section
variable {s t u : State} {l : Fin 8}

theorem State.checkHead_ok {d : HeadFields} {c : Claim} (h : s.checkHead l d = .ok c) :
    c.key = d.key ∧ c.retake = d.retake ∧ (c.fit.cells = 1 ∨ c.fit.cells = 2) := by
  unfold State.checkHead at h
  split at h
  · cases h
  · split at h
    · dsimp only at h
      split_ifs at h
      split at h
      · cases h
      · next fit hfit =>
        cases h
        refine ⟨rfl, rfl, ?_⟩
        rcases (Format.fit_eq_fits_iff _ _ _ _).mp hfit with ⟨-, rfl⟩ | ⟨-, -, -, rfl⟩
        · exact .inl rfl
        · exact .inr rfl
    · cases h

/-- The record that a claim admitted makes: it asks for its reception alone. -/
structure Claimed (c : Claim) (x : Record) : Prop where
  key : x.key = c.key
  parts : x.partsFit
  receives : x.receives = some c.retake

/-- What the directory was before a claim that passes: no record of the key, or for a retake an EXPOSED one. -/
theorem State.claimFailure_none {c : Claim} (h : s.claimFailure c = none) :
    c.retake = false ∧ s.findRecord c.key = none ∨
      c.retake = true ∧ ∃ r, s.findRecord c.key = some r ∧ r.state = .exposed ∧ r.superseded.length ≤ 2 := by
  unfold State.claimFailure at h
  split at h
  · cases h
  · next hr hk => exact .inl ⟨hr, hk⟩
  · cases h
  · next r hr hk =>
    refine .inr ⟨hr, r, hk, ?_⟩
    by_cases hseries : r.series ≠ c.series
    · rw [if_pos hseries] at h
      cases h
    · rw [if_neg hseries] at h
      split at h
      iterate 8 cases h
      next hst =>
        split at h
        · cases h
        · exact ⟨hst, by omega⟩

theorem Claimed.record (c : Claim) (hc : c.retake = false) (hcells : c.fit.cells = 1 ∨ c.fit.cells = 2) (blocks : List Nat) :
    Claimed c (c.record blocks) where
  key := rfl
  parts := by simpa [Claim.record, Claim.image, Record.partsFit, RecordState.retake] using hcells
  receives := by simp [Claim.record, Record.receives, hc]

theorem Claimed.retaken {c : Claim} {r : Record} (hc : c.retake = true) (hcells : c.fit.cells = 1 ∨ c.fit.cells = 2)
    (hk : r.key = c.key) (hp : r.partsFit) (hs : r.state = .exposed) (hn : r.superseded.length ≤ 2) (blocks : List Nat) :
    Claimed c (r.retaken c blocks) where
  key := hk
  parts := by
    obtain ⟨hreserved, hcurrent, hsuperseded, hlength, -, -⟩ := hp
    simp_all [Record.retaken, Claim.image, Record.partsFit, RecordState.retake]
  receives := by simp [Record.retaken, Record.receives, hc]

theorem Claimed.receiving {c : Claim} {x : Record} (h : Claimed c x) : x.state = .receiving ∨ x.state = .retakeReceiving := by
  have hst := Record.receives_eq_some.mp h.receives
  rw [hst]
  cases c.retake <;> simp

/-- A key that asks for nothing and comes to be received. -/
theorem State.claimed_rewrote (h : s.view.Agrees) {c : Claim} {x : Record} (hx : Claimed c x)
    (hhold : s.view.hold c.key = none) (hu : u.view = s.view)
    (ht : t.view = { u.view with record := update u.view.record c.key (some x) }) : s.Rewrote t c.key (some x) := by
  obtain ⟨-, hxh⟩ := hx.parts.receiving_asks hx.receiving
  exact State.rewrote_of_view h.film hhold hxh (by rw [ht, hu])

/-- A claim admitted rewrites the record of its key, which asked for nothing. -/
theorem State.takeClaim_rewrote (h : s.view.Agrees) {c : Claim} (hcells : c.fit.cells = 1 ∨ c.fit.cells = 2)
    (ht : s.takeClaim c = .ok t) : ∃ x, s.Rewrote t c.key (some x) ∧ Claimed c x ∧ s.view.waits c.key = none ∧
      s.view.receives c.key = none := by
  unfold State.takeClaim at ht
  split at ht
  · cases ht
  · next hpass =>
    split at ht
    · cases ht
    · next blocks u hu =>
      have hview := State.view_allocate s hu
      have hrec : u.view.record = s.view.record := by rw [hview]
      rcases State.claimFailure_none hpass with ⟨hr, hk⟩ | ⟨hr, r, hk, hs, hn⟩
      · rw [hr, if_neg (by decide)] at ht
        obtain rfl := Except.ok.inj ht
        have hx := Claimed.record c hr hcells blocks
        have hask : s.view.record c.key = none := hk
        have hw := u.view_addRecord (r := c.record blocks) ((congrFun hrec _).trans hk)
        refine ⟨_, (State.claimed_rewrote h hx ?_ hview hw).judgeCutOff _, hx, ?_, ?_⟩
        · simp [View.hold, hask]
        · simp [View.waits, hask]
        · simp [View.receives, hask]
      · rw [hr, if_pos rfl] at ht
        obtain rfl := Except.ok.inj ht
        obtain ⟨hkey, hp⟩ := h.parts (k := c.key) hk
        obtain ⟨hwaits, hreceives, hhold⟩ := hp.exposed_asks hs
        have hx := Claimed.retaken hr hcells hkey hp hs hn blocks
        have hw := u.view_updateRecord c.key (f := (·.retaken c blocks)) fun _ => rfl
        rw [show u.view.record c.key = some r from (congrFun hrec _).trans hk, Option.map_some] at hw
        exact ⟨_, State.claimed_rewrote h hx ((View.hold_of_record hk).trans hhold) hview hw, hx,
          (View.waits_of_record hk).trans hwaits, (View.receives_of_record hk).trans hreceives⟩

theorem State.admitHead_agrees (h : s.view.Agrees) (ha : s.links[l].active = true) (hl : s.links[l].reception = none)
    (d : HeadFields) : (s.admitHead l d).view.Agrees := by
  unfold State.admitHead
  split
  · rw [State.view_refuse]; exact h
  · next c hc =>
    obtain ⟨hkey, hretake, hcells⟩ := State.checkHead_ok hc
    split
    · rw [State.view_refuse]; exact h
    · next t ht =>
      obtain ⟨x, hw, hx, hwaits, hreceives⟩ := State.takeClaim_rewrote h hcells ht
      obtain ⟨hxw, -⟩ := hx.parts.receiving_asks hx.receiving
      have hlink : t.view.link = s.view.link := by rw [hw.view]
      have hwaiting : t.view.waiting = s.view.waiting := by rw [hw.view]
      have hstart := t.view_modLink l fun k => { k with reception := some d.reception }
      have hnew : Link.view { t.links[l] with reception := some d.reception } = ⟨true, true, some (c.key, c.retake)⟩ := by
        have hactive : (t.view.link l).active = true := by rw [hlink]; exact ha
        have hrun : d.reception.running = some (c.key, c.retake) := by rw [hkey, hretake]; rfl
        show (⟨(t.view.link l).active, true, d.reception.running⟩ : LinkView) = _
        rw [hactive, hrun]
      rw [hnew, hlink] at hstart
      refine hw.agrees h (old := s.view.link) rfl (waiting := t.view.waiting) hstart (fun y hy => ?_) ?_ ?_
      · obtain rfl := Option.some.inj hy
        exact ⟨hx.key, hx.parts⟩
      · rw [Option.bind_some, hxw, ← hwaits, update_eq_self, hwaiting]
        exact h.waits
      · rw [Option.bind_some, hx.receives]
        refine h.receives.start hreceives ?_ _
        show s.links[l].reception.bind Reception.running = none
        rw [hl]
        rfl

theorem State.takeHead_agrees (h : s.view.Agrees) (ha : s.links[l].active = true) (d : HeadFields) :
    (s.takeHead l d).view.Agrees := by
  have hcount : (s.countHeadFrame l).view = s.view := by unfold State.countHeadFrame; split <;> simp
  have hended := State.endRunning_agrees (s := s.countHeadFrame l) (by rw [hcount]; exact h) l .abandoned
  refine State.admitHead_agrees hended ?_ ?_ d
  · exact ((s.countHeadFrame_keeps l).trans (State.endRunning_keeps _ l _)).carriers l ha
  · unfold State.endRunning
    split
    · exact State.endWithRefuse_reception _ _ _ _
    · next hnone => exact hnone

theorem State.carrierAppears_agrees (h : s.view.Agrees) (l : Fin 8) : (s.carrierAppears l).view.Agrees := by
  unfold State.carrierAppears
  split
  · exact h
  · next hdown =>
    have hup := s.view_modLink l fun k => { k with active := true, reception := none, outbox := [] }
    have hrun : (s.view.link l).running = none := by
      by_contra hne
      obtain ⟨⟨k, b⟩, hsome⟩ := Option.ne_none_iff_exists'.mp hne
      have hbusy : (s.view.link l).busy = true := by
        obtain ⟨c, hc, -⟩ := Link.view_running.mp hsome
        exact Option.isSome_of_mem hc
      exact hdown (h.receives.active l hbusy)
    have hagrees : ((s.modLink l fun k => { k with active := true, reception := none, outbox := [] }).view).Agrees := by
      rw [hup]
      exact ⟨h.parts, h.waits, h.receives.relink hrun.symm fun _ => rfl, h.film⟩
    dsimp only
    split
    · rw [State.view_sendHold]; exact hagrees
    · exact hagrees

theorem State.takeFixed_agrees (h : s.view.Agrees) {kind : Byte} {length : Nat} {f : Frame} {take : State → State}
    (ht : s.links[l].active = true → (take s).view.Agrees) : (s.takeFixed l kind length f take).view.Agrees := by
  unfold State.takeFixed
  split_ifs with ha
  · exact ht ha
  · rw [State.view_countLink]; exact h
  · rw [State.view_countLink]; exact h
  · exact h

end

end Sys2Proof.Machine
end

section
/-! Takes, returns and phases of the heads and the agreement (R19, R20, R147 to R153). -/

namespace Sys2Proof.Machine

open Function

section
variable {s t u : State} {h : Fin 4}

/-! ### Phases leave the view -/

@[simp] theorem State.view_setPhase (s : State) (h : Fin 4) (p : Phase) : (s.setPhase h p).view = s.view :=
  s.view_modHead_of rfl (by rw [Option.map_map]; rfl)

@[simp] theorem State.view_driveStage (s : State) (h : Fin 4) (p : Int × Int) : (s.driveStage h p).view = s.view :=
  s.view_modHead_of rfl rfl

@[simp] theorem State.view_enterAcquiring (s : State) (h : Fin 4) : (s.enterAcquiring h).view = s.view :=
  (State.view_driveStage _ _ _).trans ((State.view_modHead_of _ rfl rfl).trans (State.view_setPhase _ _ _))

@[simp] theorem State.view_enterPositioning (s : State) (h : Fin 4) (e : Entry) : (s.enterPositioning h e).view = s.view :=
  (State.view_driveStage _ _ _).trans (State.view_setPhase _ _ _)

@[simp] theorem State.view_enterAdvancing (s : State) (h : Fin 4) (sheet : Nat) : (s.enterAdvancing h sheet).view = s.view :=
  (State.view_modHead_of _ rfl rfl).trans (State.view_setPhase _ _ _)

@[simp] theorem State.view_enterDrawing (s : State) (h : Fin 4) (e : Entry) : (s.enterDrawing h e).view = s.view :=
  (State.view_modHead_of _ rfl rfl).trans (State.view_setPhase _ _ _)

@[simp] theorem State.view_firstPhase (s : State) (h : Fin 4) (e : Entry) : (s.firstPhase h e).view = s.view := by
  unfold State.firstPhase
  split_ifs <;> simp

@[simp] theorem State.view_sheetReached (s : State) (h : Fin 4) (sheet : Nat) : (s.sheetReached h sheet).view = s.view :=
  (State.view_enterAcquiring _ _).trans (s.view_modHead_of rfl rfl)

/-! ### The record of an entry -/

/-- The record that an entry moves is the one that holds its cell. -/
theorem State.modEntryRecord_entry (hf : s.view.film.Agrees) {k : Key} {v : Hold} (hv : s.view.hold k = some v)
    (hu : u.slots = s.slots) (f : Record → Record) : u.modEntryRecord v.entry f = u.updateRecord k f := by
  have hlead := (hf.held hv).lead
  have hkey : u.keyAt v.reserved.slot v.reserved.place.cell = some k := by
    unfold State.keyAt State.cellAt
    rw [hu]
    exact (congrArg (fun c : Option Cell => c.bind Cell.key) hlead).trans rfl
  unfold State.modEntryRecord Hold.entry
  dsimp only
  rw [hkey]

theorem Record.partsFit.taken {r : Record} (hp : r.partsFit) {v : Reserved} (hv : r.reserved = some v) :
    r.taken.partsFit ∧ r.taken.isExposing = true := by
  have hs := hp.state_of_reserved hv
  obtain ⟨hreserved, hcurrent, hsuperseded, hlength, hretake, hcells⟩ := hp
  simp only [List.mem_cons, List.not_mem_nil, or_false] at hs
  rcases hs with hs | hs | hs | hs <;>
    simp_all [Record.taken, Record.partsFit, Record.isExposing, RecordState.retake]

theorem Record.partsFit.returned {r : Record} (hp : r.partsFit) {v : Reserved} (hv : r.reserved = some v) :
    r.returned.partsFit ∧ r.returned.isExposing = false := by
  have hs := hp.state_of_reserved hv
  obtain ⟨hreserved, hcurrent, hsuperseded, hlength, hretake, hcells⟩ := hp
  simp only [List.mem_cons, List.not_mem_nil, or_false] at hs
  rcases hs with hs | hs | hs | hs <;>
    simp_all [Record.returned, Record.partsFit, Record.isExposing, RecordState.retake]

/-! ### An entry moves between queue and flight -/

/-- The record of an entry follows it between queue and flight. -/
theorem State.moveRecord_agrees (ha : s.view.Agrees) {k : Key} {r x : Record} {v : Reserved} (hr : s.findRecord k = some r)
    (hv : r.reserved = some v) (hxk : x.key = r.key) (hxv : x.hold = r.hold) (hxp : x.partsFit)
    {queue : Fin 4 → List Entry} {flying : Fin 4 → Option Entry}
    (hu : u.view = { s.view with record := update s.view.record k (some x), queue := queue, flying := flying })
    (hf : Film.Agrees { s.view.film with
      queue := queue, flying := flying, exposing := update s.view.exposing k x.isExposing }) : u.view.Agrees := by
  obtain ⟨hkey, hp⟩ := ha.parts hr
  obtain ⟨hw, hrec⟩ := hp.holder hv
  have hxr : ∃ w, x.reserved = some w := by
    by_contra hnone
    have hn : x.reserved = none := by
      cases hx : x.reserved with
      | none => rfl
      | some w => exact absurd ⟨w, hx⟩ hnone
    rw [Record.hold_eq_none.mpr hn, eq_comm, Record.hold_eq_none, hv] at hxv
    exact absurd hxv (by simp)
  obtain ⟨w, hxw⟩ := hxr
  obtain ⟨hw', hrec'⟩ := hxp.holder hxw
  rw [hu]
  refine ha.replace (fun y hy => ?_) ?_ ?_ ?_
  · obtain rfl := Option.some.inj hy
    exact ⟨hxk.trans hkey, hxp⟩
  · rw [Option.bind_some, View.waits_update_same hr (hw'.trans hw.symm)]
    exact ha.waits
  · rw [Option.bind_some, View.receives_update_same hr (hrec'.trans hrec.symm)]
    exact ha.receives
  · rw [Option.bind_some, View.hold_update_same hr hxv]
    exact hf

/-- An entry moves to a line with the same entries, its record with it. -/
theorem State.moveEntry_agrees (ha : s.view.Agrees) {e : Entry} (he : e ∈ s.view.film.line h) {q : List Entry}
    {fly : Option Entry} (perm : (fly.toList ++ q).Perm (s.view.film.line h)) {b : Bool}
    (moved : (b = false → e ∈ q) ∧ (b = true → fly = some e)) (queue : ∀ y ∈ s.view.queue h, y ≠ e → y ∈ q)
    (flying : ∀ y, s.view.flying h = some y → y ≠ e → fly = some y) {g : Record → Record}
    (hg : ∀ {r : Record} {v : Reserved}, r.reserved = some v → r.partsFit →
      (g r).key = r.key ∧ (g r).hold = r.hold ∧ (g r).partsFit ∧ (g r).isExposing = b)
    (hk : ∀ r, (g r).key = r.key)
    {f : Head → Head} (hq : (f s.heads[h]).queue = q) (hfly : (f s.heads[h]).inFlight.map InFlight.entry = fly) :
    ((s.modHead h f).modEntryRecord e g).view.Agrees := by
  have hview := s.view_modHead h f
  rw [hq, hfly] at hview
  obtain ⟨hh, hd⟩ := ha.film.draws he
  have quiet : (∀ k v, s.view.hold k = some v → v.entry ≠ e) → (s.modHead h f).view.Agrees := by
    intro hno
    rw [hview]
    exact ⟨ha.parts, ha.waits, ha.receives, ha.film.move (x := s.view.exposing) perm (fun k v hv hve => absurd hve (hno k v hv))
      (fun _ _ _ _ => rfl) hh queue flying⟩
  cases e with
  | title i => exact quiet fun k v _ => by simp [Hold.entry]
  | index i n part => exact quiet fun k v _ => by simp [Hold.entry]
  | cell i n c =>
    obtain ⟨k, v, hv, hve⟩ := hd
    obtain ⟨r, hr, hhold⟩ := View.hold_eq_some.mp hv
    obtain ⟨hres, -⟩ := Record.hold_eq_some.mp hhold
    obtain ⟨hkey, hp⟩ := ha.parts hr
    obtain ⟨hgk, hgv, hgp, hgx⟩ := hg hres hp
    rw [← hve, State.modEntryRecord_entry (u := s.modHead h f) ha.film hv rfl]
    have hupdate := (s.modHead h f).view_updateRecord k hk
    have hrec : (s.modHead h f).view.record k = some r := hr
    rw [hrec, Option.map_some, hview] at hupdate
    refine State.moveRecord_agrees ha hr hres hgk hgv hgp hupdate ?_
    rw [hgx]
    refine ha.film.move perm (fun j w hw hwe => ?_) (fun j w hw hwe => ?_) hh queue flying
    · rw [← hve] at hwe
      have hj : j = k := by
        by_contra hj
        exact ha.film.entry_ne hv hw hj hwe
      rw [hj, update_self]
      exact moved
    · refine update_of_ne ?_ _ _
      rintro rfl
      rw [show s.view.film.hold j = some v from hv, Option.some.injEq] at hw
      exact hwe (hw ▸ hve)

theorem State.takeEntry_agrees (ha : s.view.Agrees) {e : Entry} {rest : List Entry} (hq : s.heads[h].queue = e :: rest)
    (hf : s.heads[h].inFlight = none) : (s.takeEntry h e rest).view.Agrees := by
  have hqueue : s.view.queue h = e :: rest := hq
  have hfly : s.view.flying h = none := by
    show s.heads[h].inFlight.map InFlight.entry = none
    rw [hf]
    rfl
  have hline : s.view.film.line h = e :: rest := by
    show (s.view.flying h).toList ++ s.view.queue h = _
    rw [hfly, hqueue]
    rfl
  unfold State.takeEntry
  rw [State.view_firstPhase]
  refine State.moveEntry_agrees (f := fun k => { k with queue := rest, inFlight := some ⟨e, .advancing⟩ }) (g := Record.taken) (b := true)
    (fly := some e) (q := rest) ha (by rw [hline]; exact .head _) (by rw [hline]; rfl)
    ⟨nofun, fun _ => rfl⟩ (fun y hy hye => ?_) (fun y hy => ?_) (fun hv hp => ?_) (fun _ => rfl) rfl rfl
  · rw [hqueue] at hy
    exact (List.mem_cons.mp hy).resolve_left hye
  · rw [hfly] at hy
    exact absurd hy (by simp)
  · obtain ⟨hp', hx⟩ := hp.taken hv
    exact ⟨rfl, rfl, hp', hx⟩

theorem State.returnEntry_agrees (ha : s.view.Agrees) {e : Entry} (hf : s.heads[h].inFlight.map InFlight.entry = some e) :
    (s.returnEntry h e).view.Agrees := by
  have hfly : s.view.flying h = some e := hf
  have hline : s.view.film.line h = e :: s.view.queue h := by
    show (s.view.flying h).toList ++ s.view.queue h = _
    rw [hfly]
    rfl
  unfold State.returnEntry
  refine State.moveEntry_agrees (f := fun k => { k with queue := returnQueue k.queue e, inFlight := none }) (g := Record.returned)
    (b := false) (fly := none) (q := returnQueue s.heads[h].queue e) ha (by rw [hline]; exact .head _) (by rw [hline]; exact returnQueue_perm _ _)
    ⟨fun _ => (returnQueue_perm _ _).mem_iff.mpr (.head _), nofun⟩ (fun y hy _ => ?_) (fun y hy hye => ?_)
    (fun hv hp => ?_) (fun _ => rfl) rfl rfl
  · exact (returnQueue_perm _ _).mem_iff.mpr (.tail _ hy)
  · rw [hfly, Option.some.injEq] at hy
    exact absurd hy.symm hye
  · obtain ⟨hp', hx⟩ := hp.returned hv
    exact ⟨rfl, rfl, hp', hx⟩

end

end Sys2Proof.Machine
end

section
/-! Spoils and faults and the agreement (R20, R21, R102, R103, R154 to R156). -/

namespace Sys2Proof.Machine

open Function

/-! ### The film after a hold that was queued or in flight leaves -/

section
variable {f : Film} {k : Key} {v : Hold} {cells : List Cell} {x : Key → Bool}

theorem Film.Agrees.dropped_of_flying (hf : f.Agrees) (hfly : f.flying (headOf v.reserved.slot) = some v.entry) :
    f.dropped k v cells x =
      { hold := update f.hold k none
        exposing := x
        slot := update f.slot v.reserved.slot { f.slot v.reserved.slot with cells := cells }
        queue := f.queue
        flying := update f.flying (headOf v.reserved.slot) none } := by
  have hq : (f.queue (headOf v.reserved.slot)).filter (fun e => decide (e ≠ v.entry)) = f.queue (headOf v.reserved.slot) := by
    refine List.filter_eq_self.mpr fun e he => ?_
    have hne : e ≠ v.entry := by
      rintro rfl
      exact hf.line_once v.entry_isTitle hfly he
    simpa using hne
  have hfly' : (f.flying (headOf v.reserved.slot)).filter (fun e => decide (e ≠ v.entry)) = none := by
    rw [hfly]
    simp [Option.filter]
  rw [Film.dropped, hq, hfly', update_eq_self]

theorem Film.Agrees.dropped_of_queued (hf : f.Agrees) (hq : v.entry ∈ f.queue (headOf v.reserved.slot)) :
    f.dropped k v cells x =
      { hold := update f.hold k none
        exposing := x
        slot := update f.slot v.reserved.slot { f.slot v.reserved.slot with cells := cells }
        queue := update f.queue (headOf v.reserved.slot)
          ((f.queue (headOf v.reserved.slot)).filter fun e => decide (e ≠ v.entry))
        flying := f.flying } := by
  have hfly' : (f.flying (headOf v.reserved.slot)).filter (fun e => decide (e ≠ v.entry)) =
      f.flying (headOf v.reserved.slot) := by
    cases hfly : f.flying (headOf v.reserved.slot) with
    | none => rfl
    | some e =>
      have hne : e ≠ v.entry := by
        rintro rfl
        exact hf.line_once v.entry_isTitle hfly hq
      simp [Option.filter, hne]
  rw [Film.dropped, hfly', update_eq_self]

/-- A hold's cells after a change of both. -/
theorem Hold.changedCells_kept (v : Hold) (cells : List Cell) (lead second : Cell → Cell) {n : Nat} (hn : ¬ v.covers n) :
    (changedCells cells v.reserved.place.cell v.reserved.place.width lead second)[n]? = cells[n]? :=
  changedCells_getElem?_other _ _ _ _ _ (fun h => hn (.inl h)) fun h => hn (.inr h)

theorem Hold.changedCells_gone (v : Hold) (cells : List Cell) {lead second : Cell → Cell}
    (hlead : ∀ c, (lead c).state ≠ .held) (hsecond : ∀ c, (second c).state ≠ .held) {n : Nat} (hn : v.covers n) {c : Cell}
    (hc : (changedCells cells v.reserved.place.cell v.reserved.place.width lead second)[n]? = some c) : c.state ≠ .held := by
  rcases hn with rfl | ⟨hw, rfl⟩
  · rw [changedCells_getElem?_lead] at hc
    obtain ⟨d, -, rfl⟩ := Option.map_eq_some_iff.mp hc
    exact hlead d
  · rw [changedCells_getElem?_second _ _ _ _ _ hw] at hc
    obtain ⟨d, -, rfl⟩ := Option.map_eq_some_iff.mp hc
    exact hsecond d

end

section
variable {s t u w : State} {h : Fin 4} {k : Key} {r : Record}

/-- The holder of a CELL entry of a head. -/
theorem View.Agrees.holder_of_entry {v : View} (ha : v.Agrees) {i : Fin 12} {n c : Nat} (he : .cell i n c ∈ v.film.line h) :
    ∃ r x, v.record r.key = some r ∧ v.hold r.key = some x ∧ x.entry = .cell i n c ∧ r.partsFit ∧
      r.reserved = some x.reserved ∧ headOf x.reserved.slot = h := by
  obtain ⟨hh, k, x, hx, hxe⟩ := ha.film.draws he
  obtain ⟨r, hr, hhold⟩ := View.hold_eq_some.mp hx
  obtain ⟨hres, -⟩ := Record.hold_eq_some.mp hhold
  obtain ⟨rfl, hp⟩ := ha.parts hr
  exact ⟨r, x, hr, hx, hxe, hp, hres, by rw [← hh, ← hxe, Hold.entry_slot]⟩

/-- The hold of a record in flight leaves with its entry, its cells held no longer. -/
theorem State.rewrote_of_flying (ha : s.view.film.Agrees) {v : Hold} (hv : s.view.hold k = some v)
    (hfly : s.view.flying (headOf v.reserved.slot) = some v.entry) {cells : List Cell}
    (size : cells.length = (s.view.slot v.reserved.slot).cells.length)
    (kept : ∀ n, ¬ v.covers n → cells[n]? = (s.view.slot v.reserved.slot).cells[n]?)
    (gone : ∀ n c, v.covers n → cells[n]? = some c → c.state ≠ .held) {o : Option Record} (ho : o.bind Record.hold = none)
    (ht : t.view = { s.view with
      record := update s.view.record k o
      slot := update s.view.slot v.reserved.slot { s.view.slot v.reserved.slot with cells := cells }
      flying := update s.view.flying (headOf v.reserved.slot) none }) : s.Rewrote t k o := by
  have hd := ha.drop (x := update s.view.exposing k (o.any Record.isExposing)) hv size kept gone
    fun j hj => update_of_ne hj _ _
  rw [ha.dropped_of_flying hfly] at hd
  refine ⟨by rw [ht], ?_⟩
  rw [ht, View.film_replace, ho]
  exact hd

/-- The hold of a queued record leaves with its entry, its cells held no longer. -/
theorem State.rewrote_of_queued (ha : s.view.film.Agrees) {v : Hold} (hv : s.view.hold k = some v)
    (hq : v.entry ∈ s.view.queue (headOf v.reserved.slot)) {cells : List Cell}
    (size : cells.length = (s.view.slot v.reserved.slot).cells.length)
    (kept : ∀ n, ¬ v.covers n → cells[n]? = (s.view.slot v.reserved.slot).cells[n]?)
    (gone : ∀ n c, v.covers n → cells[n]? = some c → c.state ≠ .held) {o : Option Record} (ho : o.bind Record.hold = none)
    (ht : t.view = { s.view with
      record := update s.view.record k o
      slot := update s.view.slot v.reserved.slot { s.view.slot v.reserved.slot with cells := cells }
      queue := update s.view.queue (headOf v.reserved.slot)
        ((s.view.queue (headOf v.reserved.slot)).filter fun e => decide (e ≠ v.entry)) }) : s.Rewrote t k o := by
  have hd := ha.drop (x := update s.view.exposing k (o.any Record.isExposing)) hv size kept gone
    fun j hj => update_of_ne hj _ _
  rw [ha.dropped_of_queued hq] at hd
  refine ⟨by rw [ht], ?_⟩
  rw [ht, View.film_replace, ho]
  exact hd

/-! ### A spoil (R102, R103) -/

theorem State.updateRecord_indexingTest (s : State) (i : Fin 12) (k : Key) (f : Record → Record) :
    (s.indexingTest i).updateRecord k f = (s.updateRecord k f).indexingTest i := by
  rw [State.indexingTest_eq, State.indexingTest_eq, State.updateRecord_slots]
  by_cases hc : s.slots[i].state = .closing ∧ s.slots[i].cells.all (fun c => decide (c.state ≠ .held))
  · rw [if_pos hc, if_pos hc]
    rfl
  · rw [if_neg hc, if_neg hc]

/-- The state in which a spoiled record asks for a cell: the hold has left, with its entry in flight. -/
theorem State.spoiledAsking_rewrote (ha : s.view.film.Agrees) {v : Hold} (hr : s.view.record k = some r)
    (hv : s.view.hold k = some v) (hfly : s.view.flying (headOf v.reserved.slot) = some v.entry)
    (hw : w.view = { s.view with flying := update s.view.flying (headOf v.reserved.slot) none }) :
    s.Rewrote (w.spoiledAsking v.reserved.slot v.reserved.place.cell v.reserved.place.width k) k (some r.unplaced) := by
  rw [State.spoiledAsking, State.updateRecord_indexingTest]
  refine State.Rewrote.indexingTest ?_ _
  have hview := State.view_updateRecord (w.modCells v.reserved.slot v.reserved.place.cell v.reserved.place.width
    Cell.spoil Cell.spoil) k (f := Record.unplaced) fun _ => rfl
  rw [State.view_modCells, hw] at hview
  refine State.rewrote_of_flying ha hv hfly (length_changedCells ..) (fun n hn => v.changedCells_kept _ _ _ hn)
    (fun n c hn hc => v.changedCells_gone _ (lead := Cell.spoil) (second := Cell.spoil) (by simp [Cell.spoil])
      (by simp [Cell.spoil]) hn hc) rfl ?_
  rw [hview]
  dsimp only
  rw [hr]
  rfl

theorem State.spoiledAsking_keeps (s : State) (i : Fin 12) (n width : Nat) (key : Key) :
    s.Keeps (s.spoiledAsking i n width key) :=
  ((s.modCells_keeps i n width _ _).trans (State.indexingTest_keeps _ i)).trans
    (State.updateRecord_keeps _ key (f := Record.unplaced) fun _ => rfl)

/-- A spoiled record that waits. -/
theorem Record.partsFit.spoiledWaiting (hp : r.partsFit) (hs : r.state = .exposing ∨ r.state = .retakeExposing) :
    r.unplaced.spoiledWaiting.partsFit ∧
      (r.unplaced.spoiledWaiting.state = .waiting ∨ r.unplaced.spoiledWaiting.state = .retakeWaiting) := by
  obtain ⟨hreserved, hcurrent, hsuperseded, hlength, hretake, hcells⟩ := hp
  rcases hs with hs | hs <;>
    simp_all [Record.unplaced, Record.spoiledWaiting, Record.partsFit, RecordState.retake]

/-- A record that asked for a cell after its spoil and got one. -/
theorem State.spoil_granted_agrees (ha : s.view.Agrees) (hr : s.view.record k = some r) (hk : r.key = k) (hp : r.partsFit)
    {x : Reserved} (hres : r.reserved = some x) (hs : r.state = .exposing ∨ r.state = .retakeExposing) {v : Reserved}
    (ht : s.Rewrote t k (some (r.granted v))) : t.view.Agrees := by
  obtain ⟨hw, hrec⟩ := hp.holder hres
  obtain ⟨hgranted, -⟩ := hp.granted (.inr (.inr hs)) v
  obtain ⟨hw', hrec'⟩ := hgranted.holder (v := v) rfl
  have hwaiting : t.view.waiting = s.view.waiting := by rw [ht.view]
  have hlink : t.view.link = s.view.link := by rw [ht.view]
  refine ht.agrees ha (old := s.view.link) rfl (waiting := t.view.waiting) (link := t.view.link) rfl (fun y hy => ?_) ?_ ?_
  · obtain rfl := Option.some.inj hy
    exact ⟨hk, hgranted⟩
  · rw [Option.bind_some, View.waits_update_same hr (hw'.trans hw.symm), hwaiting]
    exact ha.waits
  · rw [Option.bind_some, View.receives_update_same hr (hrec'.trans hrec.symm), hlink]
    exact ha.receives

/-- A record that asked for a cell after its spoil and was refused. -/
theorem State.spoil_refused_agrees (ha : s.view.Agrees) (hr : s.view.record k = some r) (hk : r.key = k) (hp : r.partsFit)
    {x : Reserved} (hres : r.reserved = some x) (hs : r.state = .exposing ∨ r.state = .retakeExposing)
    (ht : s.Rewrote t k (some r.unplaced)) :
    ((t.updateRecord k Record.spoiledWaiting).joinWaiting r.series k).view.Agrees := by
  obtain ⟨hw, hrec⟩ := hp.holder hres
  obtain ⟨hp', hs'⟩ := hp.spoiledWaiting hs
  have hview := t.view_updateRecord k (f := Record.spoiledWaiting) fun _ => rfl
  have hrt : t.view.record k = some r.unplaced := by rw [ht.view]; exact update_self ..
  rw [hrt, Option.map_some] at hview
  have hrewrote := ht.trans (State.rewrote_of_view ht.film (View.hold_of_record hrt) (o := some r.unplaced.spoiledWaiting) rfl hview)
  refine State.joinWaiting_agrees (x := r.unplaced.spoiledWaiting) ha (old := s.view.link) rfl hrewrote hk hp' hs' ((View.waits_of_record hr).trans hw) ?_
  rw [View.receives_update_same hr hrec.symm]
  exact ha.receives

theorem State.spoil_agrees (ha : s.view.Agrees) {v : Hold} (hr : s.view.record k = some r) (hv : s.view.hold k = some v)
    (hfly : s.view.flying (headOf v.reserved.slot) = some v.entry)
    (hw : w.view = { s.view with flying := update s.view.flying (headOf v.reserved.slot) none }) (hfit : w.slotsFit) :
    (w.spoil v.reserved.slot v.reserved.place.cell).view.Agrees := by
  obtain ⟨rfl, hp⟩ := ha.parts hr
  have hres : r.reserved = some v.reserved :=
    (Record.hold_eq_some.mp ((View.hold_of_record hr).symm.trans hv)).1
  have hs : r.state = .exposing ∨ r.state = .retakeExposing := by
    have hx := ha.film.exposing_of_flying hv hfly
    rw [show s.view.film.exposing r.key = r.isExposing from View.exposing_of_record hr] at hx
    simpa [Record.isExposing] using hx
  have hrw : w.findRecord r.key = some r := by
    have hrec : w.view.record = s.view.record := by rw [hw]
    exact (congrFun hrec _).trans hr
  have hcell := (ha.film.held hv).lead
  have hslot : w.view.slot = s.view.slot := by rw [hw]
  rw [show s.view.film.slot = w.view.slot from hslot.symm] at hcell
  have hask := State.spoiledAsking_rewrote ha.film hr hv hfly hw
  have hfit' := (w.spoiledAsking_keeps v.reserved.slot v.reserved.place.cell v.reserved.place.width r.key).formats hfit
  rw [State.spoil_eq hcell hrw rfl]
  generalize w.spoiledAsking v.reserved.slot v.reserved.place.cell v.reserved.place.width r.key = asking at *
  have hrec : asking.view.record r.key = some r.unplaced := by rw [hask.view]; exact update_self ..
  have hbooks := asking.rePlacement_sameBooks v.reserved.slot r.request
  have hfilm := State.rePlacement_film (q := r.request) hfit' hask.film (View.hold_of_record hrec) v.reserved.slot
  have hgranted := fun v => hp.granted (.inr (.inr hs)) v
  split
  · next u hu =>
    obtain ⟨x, hx⟩ := State.settle_rewrote hbooks hfilm hrec rfl (fun v => (hgranted v).2) hu
    exact State.spoil_granted_agrees ha hr rfl hp hres hs (hask.trans hx)
  · next u hu =>
    have hsame := hask.sameBooks (State.settle_sameBooks hbooks hu) (State.settle_film hfilm hu)
    have hjoined := State.spoil_refused_agrees ha hr rfl hp hres hs hsame
    dsimp only
    split
    · exact (State.judgeCutOff_sameBooks _ _).agrees hjoined (State.judgeCutOff_film hjoined.film _)
    · exact hjoined

/-! ### Faults (R154 to R156) -/

theorem State.interruptEntry_agrees (ha : s.view.Agrees) (hfit : s.slotsFit) {e : Entry}
    (hf : s.heads[h].inFlight.map InFlight.entry = some e) : (s.interruptEntry h e).view.Agrees := by
  have hfly : s.view.flying h = some e := hf
  unfold State.interruptEntry
  split
  · next i n c =>
    rw [State.view_countHead]
    obtain ⟨r, v, hr, hv, hve, -, -, hh⟩ := ha.holder_of_entry (h := h) (i := i) (n := n) (c := c)
      (List.mem_append_left _ (by simp [View.film, hfly]))
    have hve' := hve
    simp only [Hold.entry, Entry.cell.injEq] at hve'
    obtain ⟨rfl, rfl, -⟩ := hve'
    subst hh
    exact State.spoil_agrees ha hr hv (hfly.trans (congrArg some hve.symm)) (State.view_modHead_flying s rfl) hfit
  · have hreturned := State.returnEntry_agrees ha hf
    rw [State.view_modSlot_of _ rfl]
    exact hreturned
  · have hreturned := State.returnEntry_agrees ha hf
    rw [State.view_modSlot_of _ rfl]
    exact hreturned

theorem State.enterFault_agrees (ha : s.view.Agrees) (hfit : s.slotsFit) (h : Fin 4) (kind : FaultKind) :
    (s.enterFault h kind).view.Agrees := by
  have hview : (((s.modHead h (·.faulted kind)).countHead h .faults).raise (.fault h)).view = s.view :=
    (State.view_raise _ _).trans ((State.view_countHead _ _ _).trans (s.view_modHead_of rfl rfl))
  have hagrees : (((s.modHead h (·.faulted kind)).countHead h .faults).raise (.fault h)).view.Agrees := by
    rw [hview]; exact ha
  have hfit' : (((s.modHead h (·.faulted kind)).countHead h .faults).raise (.fault h)).slotsFit := hfit
  unfold State.enterFault
  dsimp only
  split
  · exact hagrees
  · next e he =>
    have hf : (((s.modHead h (·.faulted kind)).countHead h .faults).raise (.fault h)).heads[h].inFlight.map InFlight.entry =
        some e.entry := by
      have hfly := congrFun (congrArg View.flying hview) h
      refine hfly.trans ?_
      show s.heads[h].inFlight.map InFlight.entry = _
      rw [he]
      rfl
    split
    · exact State.interruptEntry_agrees hagrees hfit' hf
    · exact State.returnEntry_agrees hagrees hf

end

end Sys2Proof.Machine
end

section
/-! Readings, arrivals and reports of the heads and the agreement (R148 to R172). -/

namespace Sys2Proof.Machine

open Function

section
variable {s t : State} {h : Fin 4}

theorem State.agrees_of_view_eq (ha : s.view.Agrees) (hv : t.view = s.view) : t.view.Agrees := by rw [hv]; exact ha

/-- The end of an entry leaves nothing in flight. -/
theorem State.view_endEntry (s : State) (h : Fin 4) :
    (s.endEntry h).view = { s.view with flying := update s.view.flying h none } := by
  have hnone := s.view_modHead_flying (h := h) (f := fun k => { k with inFlight := none }) rfl
  unfold State.endEntry
  dsimp only
  split
  · refine (State.view_raise _ _).trans (((State.view_modHead_of _ rfl rfl)).trans hnone)
  · exact hnone

theorem State.returnEntry_flying (s : State) (h : Fin 4) (e : Entry) : (s.returnEntry h e).view.flying h = none := by
  have hheads : (s.returnEntry h e).heads =
      (s.modHead h fun k => { k with queue := returnQueue k.queue e, inFlight := none }).heads := by
    unfold State.returnEntry
    simp
  show ((s.returnEntry h e).heads[h]).inFlight.map InFlight.entry = none
  rw [hheads]
  simp

theorem State.acquisitionReading_agrees (ha : s.view.Agrees) (hfit : s.slotsFit) (e : Entry) (run : Run) (r : Reading) :
    (s.acquisitionReading h e run r).view.Agrees := by
  unfold State.acquisitionReading
  split
  · refine State.agrees_of_view_eq ha ?_
    exact (State.view_enterPositioning _ _ _).trans ((State.view_raise _ _).trans (s.view_modHead_of rfl rfl))
  · split
    · exact State.agrees_of_view_eq ha ((State.view_driveStage _ _ _).trans (s.view_modHead_of rfl rfl))
    · exact State.enterFault_agrees ha hfit h _

theorem State.positioningReading_agrees (ha : s.view.Agrees) {e : Entry} (hf : s.view.flying h = some e) (r : Reading) :
    (s.positioningReading h e r).view.Agrees := by
  unfold State.positioningReading
  dsimp only
  split
  · exact State.agrees_of_view_eq ha ((State.view_enterDrawing _ _ _).trans (s.view_modHead_of rfl rfl))
  · split
    · exact State.agrees_of_view_eq ha ((State.view_enterDrawing _ _ _).trans (s.view_modHead_of rfl rfl))
    · have hview : ((s.trackerAcquire h).countHead h .registrationLosses).view = s.view := by simp
      have hreturned := State.returnEntry_agrees (e := e) (State.agrees_of_view_eq ha hview)
        ((congrFun (congrArg View.flying hview) h).trans hf)
      refine State.agrees_of_view_eq hreturned ((State.view_endEntry _ h).trans ?_)
      rw [← State.returnEntry_flying ((s.trackerAcquire h).countHead h .registrationLosses) h e, update_eq_self]

theorem State.entryTake_agrees (ha : s.view.Agrees) (ht : execEntryTake h s = .next t) : t.view.Agrees := by
  unfold execEntryTake at ht
  split at ht
  · next hc =>
    obtain ⟨-, hnone, -⟩ := hc
    split at ht
    · obtain rfl := Host.Outcome.next.inj ht
      exact ha
    · next e rest hq =>
      obtain rfl := Host.Outcome.next.inj ht
      exact State.takeEntry_agrees ha hq hnone
  · obtain rfl := Host.Outcome.next.inj ht
    exact ha

theorem State.transportArrival_agrees {motion : Nat} (ha : s.view.Agrees) (ht : execTransportArrival h motion s = .next t) :
    t.view.Agrees := by
  have hview : ((s.modHead h fun k => { k with transportLimit := none, awaited := none }).trackerAcquire h).view = s.view :=
    (State.view_trackerAcquire _ _).trans (s.view_modHead_of rfl rfl)
  unfold execTransportArrival at ht
  split at ht
  · obtain rfl := Host.Outcome.next.inj ht
    exact ha
  · split at ht
    · dsimp only at ht
      split at ht
      · obtain rfl := Host.Outcome.next.inj ht
        exact State.agrees_of_view_eq ha ((State.view_modHead_of _ rfl rfl).trans hview)
      · obtain rfl := Host.Outcome.next.inj ht
        exact State.agrees_of_view_eq ha ((State.view_sheetReached _ _ _).trans hview)
    · obtain rfl := Host.Outcome.next.inj ht
      exact ha

theorem State.sheetCodeRead_agrees {value : Option (BitVec 16)} (ha : s.view.Agrees) (hfit : s.slotsFit)
    (ht : execSheetCodeRead h value s = .next t) : t.view.Agrees := by
  unfold execSheetCodeRead at ht
  split at ht
  · split at ht
    · split at ht
      · obtain rfl := Host.Outcome.next.inj ht
        exact State.agrees_of_view_eq ha (s.view_modHead_of rfl rfl)
      · obtain rfl := Host.Outcome.next.inj ht
        exact State.enterFault_agrees ha hfit h _
      · split at ht
        · obtain rfl := Host.Outcome.next.inj ht
          exact State.agrees_of_view_eq ha (s.view_sheetReached _ _)
        · obtain rfl := Host.Outcome.next.inj ht
          exact State.enterFault_agrees ha hfit h _
    · obtain rfl := Host.Outcome.next.inj ht
      exact ha
  · obtain rfl := Host.Outcome.next.inj ht
    exact ha

theorem State.stageCompletion_agrees {motion : Nat} {r : Reading} (ha : s.view.Agrees) (hfit : s.slotsFit)
    (ht : execStageCompletion h motion r s = .next t) : t.view.Agrees := by
  have hview : (s.modHead h fun k => { k with stageLimit := none, awaited := none }).view = s.view :=
    s.view_modHead_of rfl rfl
  have hagrees := State.agrees_of_view_eq ha hview
  unfold execStageCompletion at ht
  split at ht
  · obtain rfl := Host.Outcome.next.inj ht
    exact ha
  · next e he =>
    have hf : s.view.flying h = some e.entry := by
      show s.heads[h].inFlight.map InFlight.entry = _
      rw [he]
      rfl
    split at ht
    · dsimp only at ht
      split at ht
      · obtain rfl := Host.Outcome.next.inj ht
        exact State.acquisitionReading_agrees hagrees hfit _ _ _
      · obtain rfl := Host.Outcome.next.inj ht
        exact State.positioningReading_agrees hagrees ((congrFun (congrArg View.flying hview) h).trans hf) _
      · obtain rfl := Host.Outcome.next.inj ht
        exact ha
      · obtain rfl := Host.Outcome.next.inj ht
        exact ha
    · obtain rfl := Host.Outcome.next.inj ht
      exact ha

end

end Sys2Proof.Machine
end

section
/-! Photocell reports and the agreement (R22, R23, R81, R82, R153). -/

namespace Sys2Proof.Machine

open Function

/-! ### Cells of exposed records and index cells on the film -/

section
variable {f : Film}

/-- No hold covers an EXPOSED or SUPERSEDED cell: it may change to any state but HELD. -/
theorem Film.Agrees.recolor_filmed (hf : f.Agrees) {i : Fin 12} (hlive : (f.slot i).state = .opened ∨ (f.slot i).state = .closing)
    {n : Nat} {c : Cell} (hc : (f.slot i).cells[n]? = some c) (hst : c.state = .exposed ∨ c.state = .superseded)
    {g : Cell → Cell} (hg : (g c).state ≠ .held) :
    Film.Agrees { f with slot := update f.slot i { f.slot i with cells := (f.slot i).cells.modify n g } } := by
  refine hf.recolor hlive hc (by rcases hst with h | h <;> simp [h]) (fun k v hv hi hn => ?_) hg
  obtain ⟨d, hd, -, hdst⟩ := (hi ▸ hf.held hv).covered hn
  rw [hc, Option.some.injEq] at hd
  subst hd
  rcases hst with h | h <;> simp [h] at hdst

/-- An index cell is on film: no entry of the line draws it any longer. -/
theorem Film.Agrees.indexDone (hf : f.Agrees) {i : Fin 12} (hi : (f.slot i).state = .indexing) {n : Nat}
    (hline : ∀ part, .index i n part ∉ f.line (headOf i)) :
    Film.Agrees { f with slot := update f.slot i { f.slot i with
      cells := (f.slot i).cells.modify n fun c => { c with state := .indexDone } } } := by
  refine hf.reslot (fun k v hv hs => ?_) (fun m c hc hst => ?_) (fun m part hm => ?_) ⟨fun hs => ?_, ?_, ?_⟩
  · have hl := (hs ▸ hf.held hv).live
    simp [hi] at hl
  · rw [List.getElem?_modify] at hc
    obtain ⟨d, hd, rfl⟩ := Option.map_eq_some_iff.mp hc
    refine ⟨d, hd, ?_⟩
    split at hst
    · exact absurd hst (by simp)
    · exact hst
  · obtain ⟨-, -, -, c, hc, hst⟩ := hf.draws hm
    have hne : n ≠ m := by
      rintro rfl
      exact hline part hm
    exact ⟨hi, rfl, c, by simp [hne, hc], hst⟩
  · rw [List.length_modify]
    exact (hf.fits i).size hs
  · rintro (h | h) <;> simp [hi] at h
  · intro h
    simp [hi] at h

/-- An entry that left flight is nowhere in the line. -/
theorem Film.Agrees.line_landed (hf : f.Agrees) {h : Fin 4} {i : Fin 12} {n part : Nat}
    (hfly : f.flying h = some (.index i n part)) (p : Nat) :
    .index i n p ∉ Film.line { f with flying := update f.flying h none } (headOf i) := by
  obtain ⟨rfl, -, hn, -⟩ := hf.draws (h := h) (e := .index i n part) (List.mem_append_left _ (by simp [hfly]))
  rw [Film.line]
  dsimp only [Entry.slot]
  rw [update_self, Option.toList_none, List.nil_append]
  intro hq
  obtain ⟨-, -, hn', -⟩ := hf.draws (h := headOf i) (e := .index i n p) (List.mem_append_right _ hq)
  obtain rfl : p = part := by omega
  exact hf.line_once rfl hfly hq

end

section
variable {s t w : State} {h : Fin 4} {k : Key} {r : Record}

/-! ### TITLE and INDEX entries -/

theorem State.completeTitle_agrees (ha : s.view.Agrees) {i : Fin 12} (hfly : s.view.flying h = some (.title i))
    (hw : w.view = { s.view with flying := update s.view.flying h none }) :
    (w.modSlot i fun t => { t with title := true }).view.Agrees := by
  rw [State.view_modSlot_of _ rfl, hw]
  exact ⟨ha.parts, ha.waits, ha.receives, ha.film.land hfly fun v => by simp [Hold.entry]⟩

theorem Slot.reset_fits (s : State) : (s.seen Slot.reset).Fits := by
  refine ⟨fun h => absurd rfl h, fun h => ?_, nofun⟩
  rcases h with h | h <;> cases h

/-- A change of slots alone. -/
theorem View.Agrees.reslot {v : View} (hv : v.Agrees) {slot : Fin 12 → SlotView}
    (hf : Film.Agrees { v.film with slot := slot }) : View.Agrees { v with slot := slot } :=
  ⟨hv.parts, hv.waits, hv.receives, hf⟩

theorem State.completeIndex_agrees (ha : s.view.Agrees) {i : Fin 12} {n part : Nat}
    (hfly : s.view.flying h = some (.index i n part))
    (hw : w.view = { s.view with flying := update s.view.flying h none }) : (w.completeIndex i n).view.Agrees := by
  have hland : w.view.Agrees := by
    rw [hw]
    exact ⟨ha.parts, ha.waits, ha.receives, ha.film.land hfly fun v => by simp [Hold.entry]⟩
  have hline : ∀ p, .index i n p ∉ w.view.film.line (headOf i) := by
    rw [hw]
    exact ha.film.line_landed hfly
  have hindexing : (w.view.slot i).state = .indexing := by
    rw [hw]
    exact (ha.film.draws (h := h) (e := .index i n part) (List.mem_append_left _ (by simp [View.film, hfly]))).2.1
  by_cases hlast : ∀ j x, w.slots[i].cells[j]? = some x → j ≠ n → x.state ≠ .indexPending
  · rw [State.completeIndex_last hlast, State.view_retry, State.view_modSlot, State.view_putNotice]
    refine hland.reslot (hland.film.leave ?_ (fun m p hm => ?_) (Slot.reset_fits _) (by simp [State.seen, Slot.reset]))
    · rw [show w.view.film.slot i = w.view.slot i from rfl, hindexing]
      simp
    · obtain ⟨-, -, -, c, hc, hst⟩ := hland.film.draws hm
      exact hlast m c hc (fun hmn => hline p (hmn ▸ hm)) hst
  · rw [State.completeIndex_more hlast, State.view_modCell]
    exact hland.reslot (hland.film.indexDone hindexing hline)

/-! ### CELL entries -/

/-- A filmed cell of an OPEN or CLOSING fiche changes. -/
theorem State.Rewrote.recolor {o : Option Record} (hrw : s.Rewrote t k o) {i : Fin 12}
    (hlive : t.slots[i].state = .opened ∨ t.slots[i].state = .closing) {n : Nat} {c : Cell}
    (hc : (t.view.slot i).cells[n]? = some c) (hst : c.state = .exposed ∨ c.state = .superseded) {g : Cell → Cell}
    (hg : (g c).state ≠ .held) : s.Rewrote (t.modCell i n g) k o := by
  have hview := t.view_modCell i n g
  refine hrw.sameBooks ⟨rfl, rfl, rfl⟩ ?_
  rw [hview]
  exact hrw.film.recolor_filmed hlive hc hst hg

/-- The superseded cell of a finished retake is an EXPOSED or SUPERSEDED one on an OPEN or CLOSING fiche. -/
theorem State.supersedeOld_rewrote {o : Option Record} {old : Option Location} (hrw : s.Rewrote t k o)
    (hfilmed : ∀ l, old = some l → ∀ i, t.liveSlotOfPlace l.place = some i →
      ∃ c : Cell, (t.view.slot i).cells[l.place.cell]? = some c ∧ (c.state = .exposed ∨ c.state = .superseded)) :
    s.Rewrote (t.supersedeOld old) k o := by
  cases old with
  | none => exact hrw
  | some l =>
    show s.Rewrote (t.supersedeCell l.place) k o
    cases hl : t.liveSlotOfPlace l.place with
    | none => rwa [State.supersedeCell_none hl]
    | some i =>
      obtain ⟨hlive, -⟩ := State.liveSlotOfPlace_some hl
      obtain ⟨c, hc, hst⟩ := hfilmed l rfl i hl
      rw [State.supersedeCell_some hl]
      exact hrw.recolor hlive hc hst (by simp)

/-- A record whose exposure is finished is EXPOSED. -/
theorem Record.partsFit.firstExposed (hp : r.partsFit) (hs : r.state = .exposing) (p : Place) (dose : Bool) :
    (r.firstExposed p dose).partsFit := by
  obtain ⟨hreserved, hcurrent, hsuperseded, hlength, hretake, hcells⟩ := hp
  have hnone : r.current = none := by
    by_contra hc
    have := hcurrent.mp hc
    simp [hs, RecordState.retake] at this
  simp [Record.firstExposed, Record.partsFit, RecordState.retake, hlength]

theorem Record.partsFit.retakeExposed (hp : r.partsFit) (hs : r.state = .retakeExposing) (p : Place) (dose : Bool) :
    (r.retakeExposed p dose).partsFit := by
  obtain ⟨hreserved, hcurrent, hsuperseded, hlength, hretake, hcells⟩ := hp
  have htwo := hretake (by simp [hs, RecordState.retake])
  have hone : r.current.toList.length ≤ 1 := by cases r.current <;> simp
  have hlen : (r.superseded ++ r.current.toList).length ≤ 3 := by rw [List.length_append]; omega
  simp only [Record.retakeExposed, Record.partsFit, RecordState.retake]
  simpa using hlen

theorem Ended.exposed {x : Record} (hk : x.key = k) (hp : x.partsFit) (hs : x.state = .exposed) : Ended k (some x) := by
  obtain ⟨hwaits, hreceives, hhold⟩ := hp.exposed_asks hs
  refine ⟨fun y hy => ?_, hwaits, hreceives, hhold⟩
  obtain rfl := Option.some.inj hy
  exact ⟨hk, hp⟩

/-- A record with a hold becomes one that asks for nothing. -/
theorem State.Rewrote.ended_agrees {o : Option Record} (hrw : s.Rewrote t k o) (ha : s.view.Agrees)
    (hr : s.view.record k = some r) (hwaits : r.waitsOn = none) (hreceives : r.receives = none) (hend : Ended k o) :
    t.view.Agrees := by
  have hwaiting : t.view.waiting = s.view.waiting := by rw [hrw.view]
  have hlink : t.view.link = s.view.link := by rw [hrw.view]
  refine hrw.agrees ha (old := s.view.link) rfl (waiting := t.view.waiting) (link := t.view.link) rfl hend.parts ?_ ?_
  · rw [hend.waits, View.waits_update_same hr hwaits.symm, hwaiting]
    exact ha.waits
  · rw [hend.receives, View.receives_update_same hr hreceives.symm, hlink]
    exact ha.receives

/-- The hold of an exposed record leaves its cell EXPOSED. -/
theorem State.cellExposed_rewrote (ha : s.view.film.Agrees) {v : Hold} (hr : s.view.record k = some r)
    (hv : s.view.hold k = some v) (hfly : s.view.flying (headOf v.reserved.slot) = some v.entry)
    (hw : w.view = { s.view with flying := update s.view.flying (headOf v.reserved.slot) none }) {dose : Bool}
    {g : Record → Record} (hg : ∀ x, (g x).key = x.key) (hhold : (g r).hold = none) :
    s.Rewrote ((w.cellExposed v.reserved.slot v.reserved.place.cell dose).updateRecord k g) k (some (g r)) := by
  have hcell : w.cellExposed v.reserved.slot v.reserved.place.cell dose = w.modCell v.reserved.slot v.reserved.place.cell
      fun c => { c with state := .exposed, dose := dose } := rfl
  have hview := State.view_updateRecord (w.cellExposed v.reserved.slot v.reserved.place.cell dose) k (f := g) hg
  rw [hcell, State.view_modCell, hw] at hview
  refine State.rewrote_of_flying ha hv hfly (List.length_modify ..) (fun n hn => ?_) (fun n c hn hc hst => ?_) hhold ?_
    (cells := (s.view.slot v.reserved.slot).cells.modify v.reserved.place.cell fun c =>
      { c with state := .exposed, dose := dose })
  · have hne : v.reserved.place.cell ≠ n := fun he => hn (.inl he.symm)
    simp [hne]
  · obtain ⟨d, hd, rfl⟩ := Option.map_eq_some_iff.mp ((List.getElem?_modify ..).symm.trans hc)
    rcases hn with rfl | ⟨hwidth, rfl⟩
    · simp at hst
    · rw [show s.view.slot = s.view.film.slot from rfl, (ha.held hv).second hwidth] at hd
      obtain rfl := Option.some.inj hd
      simp at hst
  · rw [hcell, hview]
    dsimp only
    rw [hr]
    rfl

theorem State.supersedeOld_updateRecord (s : State) (old : Option Location) (k : Key) (g : Record → Record) :
    (s.supersedeOld old).updateRecord k g = (s.updateRecord k g).supersedeOld old := by
  cases old with
  | none => rfl
  | some l =>
    show (s.supersedeCell l.place).updateRecord k g = (s.updateRecord k g).supersedeCell l.place
    have hl : (s.updateRecord k g).liveSlotOfPlace l.place = s.liveSlotOfPlace l.place := rfl
    cases hs : s.liveSlotOfPlace l.place with
    | none => rw [State.supersedeCell_none hs, State.supersedeCell_none (hl.trans hs)]
    | some i =>
      rw [State.supersedeCell_some hs, State.supersedeCell_some (hl.trans hs)]
      rfl

/-- A location on a slot that `State.filmAgrees` speaks of keeps its cell while a HELD cell is exposed. -/
theorem State.filmAgrees.filmed (hfilm : s.filmAgrees) (hrec : r ∈ s.records) {l : Location}
    (hl : l ∈ r.current.toList ++ r.superseded) {i : Fin 12} (hi : s.liveSlotOfPlace l.place = some i) :
    ∃ c : Cell, (s.view.slot i).cells[l.place.cell]? = some c ∧ (c.state = .exposed ∨ c.state = .superseded) := by
  obtain ⟨⟨c, hc, hst⟩, -⟩ := hfilm r hrec l hl i (State.liveSlotOfPlace_some hi).2
  exact ⟨c, hc, hst⟩

theorem State.completeCell_agrees (ha : s.view.Agrees) (hfilm : s.filmAgrees) {i : Fin 12} {n c : Nat}
    (hfly : s.view.flying h = some (.cell i n c)) (hs : w.slots = s.slots)
    (hw : w.view = { s.view with flying := update s.view.flying h none }) (dose : Bool) :
    (w.completeCell i n dose).view.Agrees := by
  obtain ⟨r, v, hr, hv, hve, hp, hres, rfl⟩ := ha.holder_of_entry (h := h) (i := i) (n := n) (c := c)
    (List.mem_append_left _ (by simp [View.film, hfly]))
  have hfly' := hfly.trans (congrArg some hve.symm)
  simp only [Hold.entry, Entry.cell.injEq] at hve
  obtain ⟨rfl, rfl, -⟩ := hve
  obtain ⟨hwaits, hreceives⟩ := hp.holder hres
  have hlead : w.keyAt v.reserved.slot v.reserved.place.cell = some r.key := by
    unfold State.keyAt State.cellAt
    rw [hs]
    exact (congrArg (fun c : Option Cell => c.bind Cell.key) (ha.film.held hv).lead).trans rfl
  have hrw : w.findRecord r.key = some r := by
    have hrec : w.view.record = s.view.record := by rw [hw]
    exact (congrFun hrec _).trans hr
  obtain ⟨hr', -⟩ := State.findRecord_some hr
  have hstate : r.state = .exposing ∨ r.state = .retakeExposing := by
    have hx := ha.film.exposing_of_flying hv hfly'
    rw [show s.view.film.exposing r.key = r.isExposing from View.exposing_of_record hr] at hx
    simpa [Record.isExposing] using hx
  rcases hstate with hst | hst
  · have hend := Ended.exposed (x := r.firstExposed v.reserved.place dose) rfl (hp.firstExposed hst v.reserved.place dose) rfl
    have hrewrote := State.cellExposed_rewrote ha.film hr hv hfly' hw (dose := dose)
      (g := (·.firstExposed v.reserved.place dose)) (fun _ => rfl) rfl
    rw [State.completeCell_exposing hlead hrw hres hst]
    exact ((hrewrote.of_view_eq ((State.view_placementNotice ..).trans (State.view_release ..))).indexingTest _).ended_agrees
      ha hr hwaits hreceives hend
  · have hend := Ended.exposed (x := r.retakeExposed v.reserved.place dose) rfl (hp.retakeExposed hst v.reserved.place dose) rfl
    have hrewrote := State.cellExposed_rewrote ha.film hr hv hfly' hw (dose := dose)
      (g := (·.retakeExposed v.reserved.place dose)) (fun _ => rfl) rfl
    have hold : s.Rewrote (((w.cellExposed v.reserved.slot v.reserved.place.cell dose).supersedeOld r.current).updateRecord
        r.key (·.retakeExposed v.reserved.place dose)) r.key (some (r.retakeExposed v.reserved.place dose)) := by
      rw [State.supersedeOld_updateRecord]
      refine State.supersedeOld_rewrote hrewrote fun old hcur j hj => ?_
      have hj' : s.liveSlotOfPlace old.place = some j := by
        rw [← hj]
        refine Eq.trans ?_ (w.liveSlotOfPlace_cellExposed v.reserved.slot v.reserved.place.cell dose old.place).symm
        unfold State.liveSlotOfPlace State.slotOfPlace
        rw [hs]
      obtain ⟨x, hx, hxst⟩ := hfilm.filmed hr' (l := old) (by simp [hcur]) hj'
      refine ⟨x, ?_, hxst⟩
      have hview := w.view_modCell v.reserved.slot v.reserved.place.cell fun c => { c with state := .exposed, dose := dose }
      have hslot := congrFun (congrArg View.slot hview) j
      refine (congrArg (fun t : SlotView => t.cells[old.place.cell]?) hslot).trans ?_
      dsimp only
      rw [update_apply, hw]
      split
      · next hjv =>
        subst hjv
        have hne : v.reserved.place.cell ≠ old.place.cell := by
          intro he
          have hheld := (ha.film.held hv).lead
          rw [show s.view.film.slot = s.view.slot from rfl, he, hx, Option.some.injEq] at hheld
          simp [hheld] at hxst
        simpa [hne] using hx
      · exact hx
    rw [State.completeCell_retakeExposing hlead hrw hres hst]
    exact ((hold.of_view_eq ((State.view_placementNotice ..).trans (State.view_release ..))).indexingTest _).ended_agrees
      ha hr hwaits hreceives hend

/-! ### Reports -/

/-- A draw that ends leaves the view of its completion, made once nothing is in flight. -/
theorem State.view_drawEnded {C : State → State} (hC : PassesDraw h C) (s : State) (d : Dose) (dev : Bool) (c : HeadCounter)
    (p : Port) (es : List RetryEvent) :
    State.view { C s with heads := (C s).heads.set h ((C s).heads[h].drawEnded d dev c), port := p, retryEvents := es } =
      (C (s.modHead h fun k => { k with inFlight := none })).view := by
  have hended : State.view { C s with
      heads := (C s).heads.set h ((C s).heads[h].drawEnded d dev c), port := p, retryEvents := es } =
        { (C s).view with flying := update (C s).view.flying h none } :=
    (C s).view_modHead_flying (h := h) (f := Head.drawEnded d dev c) (by unfold Head.drawEnded; cases dev <;> rfl)
  have hlanded := (C s).view_modHead_flying (h := h) (f := fun k => { k with inFlight := none }) rfl
  rw [hended, hC.head s _ fun _ _ => rfl, hlanded]
  rfl

theorem State.drawEnds_agrees {C : State → State} (hC : PassesDraw h C) {e : Entry} {m : BitVec 16} {c : HeadCounter}
    (he : s.heads[h].inFlight = some ⟨e, .drawing⟩) (hm : m ≠ 0)
    (hcomplete : ∀ u : State, u.complete h e (s.heads[h].dose.deviates m.toNat) = (C u).countHead h c)
    (hagrees : ∀ w : State, w.slots = s.slots → w.view = { s.view with flying := update s.view.flying h none } →
      (C w).view.Agrees) (ht : execPhotocellReport h m s = .next t) : t.view.Agrees := by
  rw [execPhotocellReport_ends hC he hm hcomplete] at ht
  obtain rfl := Host.Outcome.next.inj ht
  rw [State.view_drawEnded hC]
  exact hagrees _ rfl (s.view_modHead_flying rfl)

theorem State.photocellReport_agrees {m : BitVec 16} (ha : s.view.Agrees) (hfit : s.slotsFit) (hfilm : s.filmAgrees)
    (ht : execPhotocellReport h m s = .next t) : t.view.Agrees := by
  by_cases hno : ∀ e, s.heads[h].inFlight ≠ some ⟨e, .drawing⟩
  · rw [execPhotocellReport_disregarded hno] at ht
    obtain rfl := Host.Outcome.next.inj ht
    exact ha
  push Not at hno
  obtain ⟨e, he⟩ := hno
  have hfly : s.view.flying h = some e := congrArg (Option.map InFlight.entry) he
  by_cases hm : m = 0
  · rw [execPhotocellReport_drawing he, if_pos hm] at ht
    obtain rfl := Host.Outcome.next.inj ht
    exact State.enterFault_agrees (State.agrees_of_view_eq ha (s.view_modHead_of rfl rfl)) hfit h _
  cases e with
  | title i =>
    exact State.drawEnds_agrees (passesDraw_modSlot h i fun t => { t with title := true }) he hm (fun _ => rfl)
      (fun w _ hw => State.completeTitle_agrees ha hfly hw) ht
  | index i n part =>
    exact State.drawEnds_agrees (passesDraw_completeIndex h i n) he hm (fun _ => rfl)
      (fun w _ hw => State.completeIndex_agrees ha hfly hw) ht
  | cell i n c =>
    exact State.drawEnds_agrees (passesDraw_completeCell h i n _) he hm (fun _ => rfl)
      (fun w hs hw => State.completeCell_agrees ha hfilm hfly hs hw _) ht

end

end Sys2Proof.Machine
end

section
/-! Withdraw and the agreement (R86 to R91). -/

namespace Sys2Proof.Machine

open Function

section
variable {s t u : State} {k : Key} {r : Record}

/-! ### A record leaves the directory or returns to EXPOSED -/

/-- What a Withdraw leaves of a record: nothing, or the record before its retake (R87 to R90). -/
def Record.left (r : Record) : Option Record := if r.state.retake then some r.retakeCancelled else none

theorem Record.partsFit.left (hp : r.partsFit) : Ended r.key r.left := by
  unfold Record.left
  split
  · next hs => exact Ended.retakeCancelled rfl hp hs
  · exact Ended.none _

theorem State.view_recordLeft (hr : s.findRecord r.key = some r) :
    (s.recordLeft r).view = { s.view with record := update s.view.record r.key r.left } := by
  have hr' : s.view.record r.key = some r := hr
  unfold State.recordLeft Record.left
  split
  · have hview := s.view_updateRecord r.key (f := Record.retakeCancelled) fun _ => rfl
    rw [hr', Option.map_some] at hview
    exact hview
  · exact s.view_removeRecord r.key

theorem State.judgeLeft_agrees (ha : s.view.Agrees) (r : Record) : (s.judgeLeft r).view.Agrees := by
  have hheld : s.judgeHold.view.Agrees := State.agrees_of_view_eq ha s.view_judgeHold
  unfold State.judgeLeft
  split
  · exact hheld
  · exact (State.judgeCutOff_sameBooks _ _).agrees hheld (State.judgeCutOff_film hheld.film _)

/-! ### Withdraw by what the record has -/

theorem State.withdrawWaiting_agrees (ha : s.view.Agrees) (hr : s.findRecord r.key = some r)
    (hs : r.state = .waiting ∨ r.state = .retakeWaiting) :
    (((s.leaveWaiting r.series r.key).recordLeft r).judgeLeft r).view.Agrees := by
  obtain ⟨-, hp⟩ := ha.parts hr
  obtain ⟨hwaits, hreceives, hhold, -⟩ := ha.waiting_asks hr hs
  have hend := hp.left
  have hview := (s.leaveWaiting r.series r.key).view_recordLeft (r := r) hr
  rw [State.leaveWaiting, s.view_modWaiting] at hview
  have hfilm := ha.film.reexpose (k := r.key) ((View.hold_of_record hr).trans hhold) (r.left.any Record.isExposing)
  refine State.judgeLeft_agrees ?_ r
  rw [State.leaveWaiting, hview]
  refine ha.replace hend.parts ?_ ?_ ?_
  · rw [hend.waits]
    exact ha.waits.leave ((View.waits_of_record hr).trans hwaits)
  · rw [hend.receives, View.receives_update_same hr hreceives.symm]
    exact ha.receives
  · rw [hend.hold, View.hold_update_same hr hhold.symm]
    exact hfilm

/-- The mark of a Withdraw on a reception leaves the link busy with nothing that it fills (R88). -/
theorem State.view_markWithdrawn (ha : s.view.Agrees) {b : Bool} (hrec : s.view.receives k = some b) : ∃ l,
    (s.view.link l).running = some (k, b) ∧
      (s.markWithdrawn k).view = { s.view with link := update s.view.link l ⟨true, true, none⟩ } := by
  obtain ⟨l, hl⟩ := ha.receives.link_of_receives hrec
  obtain ⟨c, hc, hw, rfl, -⟩ := Link.view_running.mp hl
  refine ⟨l, hl, ?_⟩
  have hactive : s.links[l].active = true := ha.receives.active l (Option.isSome_of_mem hc)
  rw [State.markWithdrawn_eq hc rfl hw fun m ⟨d, hd, hdk, hdw⟩ =>
    ha.receives.once (b := d.retake) (Link.view_running.mpr ⟨d, hd, hdw, hdk, rfl⟩) hl, State.view_modLink]
  simp only [Link.view, hactive]
  rfl

theorem State.withdrawReceiving_agrees (ha : s.view.Agrees) (hr : s.findRecord r.key = some r)
    (hs : r.state = .receiving ∨ r.state = .retakeReceiving) :
    (((s.markWithdrawn r.key).recordLeft r).judgeLeft r).view.Agrees := by
  obtain ⟨-, hp⟩ := ha.parts hr
  obtain ⟨hwaits, hhold⟩ := hp.receiving_asks hs
  have hend := hp.left
  have hrec : s.view.receives r.key = some (decide (r.state = .retakeReceiving)) := by
    refine View.receives_eq_some.mpr ⟨r, hr, ?_⟩
    rcases hs with hs | hs <;> simp [hs]
  obtain ⟨l, hl, hmark⟩ := State.view_markWithdrawn ha hrec
  have hview := (s.markWithdrawn r.key).view_recordLeft (r := r) (by simpa [State.findRecord] using hr)
  rw [hmark] at hview
  have hfilm := ha.film.reexpose (k := r.key) ((View.hold_of_record hr).trans hhold) (r.left.any Record.isExposing)
  refine State.judgeLeft_agrees ?_ r
  rw [hview]
  refine ha.replace hend.parts ?_ ?_ ?_
  · rw [hend.waits, View.waits_update_same hr hwaits.symm]
    exact ha.waits
  · rw [hend.receives]
    exact ha.receives.stop hl rfl fun _ => rfl
  · rw [hend.hold, View.hold_update_same hr hhold.symm]
    exact hfilm

/-- The cell that a freed location leaves (R89). -/
def Cell.freed : Cell := ⟨.empty, none, 1, false⟩

/-- The entries that name a held cell's number are its own. -/
theorem Film.Agrees.dropCellEntry_eq {f : Film} (hf : f.Agrees) {v : Hold} (hv : f.hold k = some v) :
    dropCellEntry (f.queue (headOf v.reserved.slot)) v.reserved.slot v.reserved.place.cell =
      (f.queue (headOf v.reserved.slot)).filter fun e => decide (e ≠ v.entry) := by
  refine List.filter_congr fun e he => ?_
  rw [Bool.eq_iff_iff, Bool.not_eq_true', decide_eq_true_eq, ← Bool.not_eq_true, Entry.namesCell_iff, not_iff_not]
  constructor
  · rintro ⟨c, rfl⟩
    obtain ⟨-, j, w, hw, hwe⟩ := hf.draws (List.mem_append_right _ he)
    have hwe' := hwe
    simp only [Hold.entry, Entry.cell.injEq] at hwe'
    obtain ⟨hslot, hcell, -⟩ := hwe'
    obtain rfl := hf.hold_unique hw hv hslot hcell
    rw [hv, Option.some.injEq] at hw
    rw [← hwe, hw]
  · rintro rfl
    exact ⟨_, rfl⟩

theorem State.view_freeReserved (ha : s.view.film.Agrees) {v : Hold} (hv : s.view.hold k = some v) :
    (s.freeReserved v.reserved).view = { s.view with
      slot := update s.view.slot v.reserved.slot { s.view.slot v.reserved.slot with
        cells := changedCells (s.view.slot v.reserved.slot).cells v.reserved.place.cell v.reserved.place.width
          (fun _ => Cell.freed) fun _ => Cell.freed }
      queue := update s.view.queue (headOf v.reserved.slot)
        ((s.view.queue (headOf v.reserved.slot)).filter fun e => decide (e ≠ v.entry)) } := by
  have hdrop := ha.dropCellEntry_eq hv
  rw [State.freeReserved, State.view_modCells, (ha.held hv).head, State.view_modHead_queue (hfly := rfl)]
  rw [show s.view.film.queue = s.view.queue from rfl] at hdrop
  rw [← hdrop]
  rfl

theorem State.withdrawReserved_agrees (ha : s.view.Agrees) (hr : s.findRecord r.key = some r)
    (hs : r.state = .reserved ∨ r.state = .retakeReserved) {v : Reserved} (hv : r.reserved = some v) :
    (((s.freeReserved v).recordLeft r).judgeHold.indexingTest v.slot).view.Agrees := by
  obtain ⟨-, hp⟩ := ha.parts hr
  obtain ⟨hwaits, hreceives⟩ := hp.holder hv
  obtain ⟨x, hx, rfl, -⟩ := Record.hold_of_reserved hv
  have hhold : s.view.hold r.key = some x := (View.hold_of_record hr).trans hx
  have hq : x.entry ∈ s.view.queue (headOf x.reserved.slot) := by
    refine ha.film.queued hhold ?_
    rw [show s.view.film.exposing r.key = r.isExposing from View.exposing_of_record hr]
    refine Record.isExposing_eq_false ⟨?_, ?_⟩ <;> rcases hs with hs | hs <;> simp [hs]
  have hend := hp.left
  have hfree := State.view_freeReserved ha.film hhold
  have hrec : (s.freeReserved x.reserved).view.record = s.view.record := by rw [hfree]
  have hview := (s.freeReserved x.reserved).view_recordLeft ((congrFun hrec r.key).trans hr)
  have hrewrote : s.Rewrote ((s.freeReserved x.reserved).recordLeft r) r.key r.left := by
    refine State.rewrote_of_queued ha.film hhold hq (length_changedCells ..) (fun n hn => x.changedCells_kept _ _ _ hn)
      (fun n c hn hc => x.changedCells_gone _ (lead := fun _ => Cell.freed) (second := fun _ => Cell.freed)
        (by simp [Cell.freed]) (by simp [Cell.freed]) hn hc) hend.hold ?_
    rw [hview, hfree]
  exact ((hrewrote.of_view_eq (State.view_judgeHold _)).indexingTest _).ended_agrees ha hr hwaits hreceives hend

theorem withdrawOwner_agrees (ha : s.view.Agrees) (k : Key) : (withdrawOwner k s).1.view.Agrees := by
  by_cases hk : k.accountInRange = true
  · cases hr : s.findRecord k with
    | none =>
      simp only [withdrawOwner, hr, hk]
      exact ha
    | some r =>
      obtain ⟨rfl, hp⟩ := ha.parts hr
      have reserved (hs : r.state = .reserved ∨ r.state = .retakeReserved) :
          (withdrawOwner r.key s).1.view.Agrees := by
        obtain ⟨v, hv⟩ := Option.ne_none_iff_exists'.mp (hp.1.mpr (by rcases hs with hs | hs <;> simp [hs]))
        rw [withdrawOwner_reserved hk hr hs hv]
        exact State.withdrawReserved_agrees ha hr hs hv
      have waiting (hs : r.state = .waiting ∨ r.state = .retakeWaiting) : (withdrawOwner r.key s).1.view.Agrees := by
        rw [withdrawOwner_waiting hk hr hs]
        exact State.withdrawWaiting_agrees ha hr hs
      have receiving (hs : r.state = .receiving ∨ r.state = .retakeReceiving) :
          (withdrawOwner r.key s).1.view.Agrees := by
        rw [withdrawOwner_receiving hk hr hs]
        exact State.withdrawReceiving_agrees ha hr hs
      cases hs : r.state with
      | receiving => exact receiving (.inl hs)
      | retakeReceiving => exact receiving (.inr hs)
      | waiting => exact waiting (.inl hs)
      | retakeWaiting => exact waiting (.inr hs)
      | reserved => exact reserved (.inl hs)
      | retakeReserved => exact reserved (.inr hs)
      | exposing => rw [withdrawOwner_of_found hk hr, hs]; exact ha
      | retakeExposing => rw [withdrawOwner_of_found hk hr, hs]; exact ha
      | exposed => rw [withdrawOwner_of_found hk hr, hs]; exact ha
  · simp only [withdrawOwner, hk]
    exact ha

end

end Sys2Proof.Machine
end

section
/-! Void, Retire Fiche and Set Format and the agreement (R29, R92, R93, R97). -/

namespace Sys2Proof.Machine

open Function

section
variable {s t u : State} {k : Key} {r : Record}

/-! ### Void -/

theorem voidOwner_agrees (ha : s.view.Agrees) (hfilm : s.filmAgrees) (k : Key) : (voidOwner k s).1.view.Agrees := by
  unfold voidOwner
  split
  · exact ha
  · split
    · exact ha
    · next r hr =>
      obtain ⟨hmem, hkey⟩ := State.findRecord_some hr
      obtain ⟨-, hp⟩ := ha.parts hr
      split
      any_goals exact ha
      next hs =>
      split
      · exact ha
      · next l hl =>
        split
        · exact ha
        · next i hi =>
          obtain ⟨hwaits, hreceives, hhold⟩ := hp.exposed_asks hs
          obtain ⟨c, hc, hst⟩ := hfilm.filmed hmem (l := l) (by simp [hl]) hi
          have hremoved := State.rewrote_of_view ha.film ((View.hold_of_record hr).trans hhold) (o := none) rfl
            (s.view_removeRecord k)
          exact (hremoved.recolor (g := fun c => { c with state := .void }) (State.liveSlotOfPlace_some hi).1 hc hst
            (by simp)).ended_agrees ha hr hwaits hreceives (Ended.none k)

/-! ### Retire Fiche -/

/-- The records left are those that the filter keeps: keys are in the directory once (R1). -/
theorem State.findRecord_filter (ho : s.directoryOrdered) (p : Record → Bool) (k : Key) :
    State.findRecord { s with records := s.records.filter p } k = (s.findRecord k).filter p := by
  have ho' : State.directoryOrdered { s with records := s.records.filter p } :=
    ⟨ho.1.filter _, (List.length_filter_le _ _).trans ho.2⟩
  refine Option.ext fun r => ?_
  rw [Option.filter_eq_some_iff, State.findRecord_eq_some_iff ho, State.findRecord_eq_some_iff ho']
  simp only [List.mem_filter]
  tauto

/-- Records that ask for nothing leave the directory. -/
theorem State.filterRecords_agrees (ho : s.directoryOrdered) (ha : s.view.Agrees) {p : Record → Bool}
    (hp : ∀ r ∈ s.records, p r = false → r.state = .exposed) :
    (State.view { s with records := s.records.filter p }).Agrees := by
  have hrecord : ∀ k, (State.view { s with records := s.records.filter p }).record k = (s.view.record k).filter p :=
    State.findRecord_filter ho p
  have asks {α : Type} (f : Record → Option α) (hf : ∀ r ∈ s.records, r.state = .exposed → f r = none) (k : Key) :
      ((s.view.record k).filter p).bind f = (s.view.record k).bind f := by
    cases hr : s.view.record k with
    | none => rfl
    | some r =>
      obtain ⟨hmem, -⟩ := State.findRecord_some hr
      rw [Option.filter_some]
      split
      · rfl
      · next hpr => simpa using (hf r hmem (hp r hmem (by simpa using hpr))).symm
  have quiet : ∀ r ∈ s.records, r.state = .exposed → r.waitsOn = none ∧ r.receives = none ∧ r.hold = none :=
    fun r hr hs => (ha.parts ((State.record_iff ho).mpr ⟨hr, rfl⟩)).2.exposed_asks hs
  have hwaits : (State.view { s with records := s.records.filter p }).waits = s.view.waits := by
    funext k
    exact (congrArg (·.bind Record.waitsOn) (hrecord k)).trans (asks _ (fun r hr hs => (quiet r hr hs).1) k)
  have hreceives : (State.view { s with records := s.records.filter p }).receives = s.view.receives := by
    funext k
    exact (congrArg (·.bind Record.receives) (hrecord k)).trans (asks _ (fun r hr hs => (quiet r hr hs).2.1) k)
  have hhold : (State.view { s with records := s.records.filter p }).hold = s.view.hold := by
    funext k
    exact (congrArg (·.bind Record.hold) (hrecord k)).trans (asks _ (fun r hr hs => (quiet r hr hs).2.2) k)
  have hexposing : (State.view { s with records := s.records.filter p }).exposing = s.view.exposing := by
    funext k
    refine (congrArg (·.any Record.isExposing) (hrecord k)).trans ?_
    show ((s.view.record k).filter p).any _ = (s.view.record k).any _
    cases hr : s.view.record k with
    | none => rfl
    | some r =>
      obtain ⟨hmem, -⟩ := State.findRecord_some hr
      rw [Option.filter_some]
      split
      · rfl
      · next hpr =>
        have hs := hp r hmem (by simpa using hpr)
        simp [Record.isExposing, hs]
  refine ⟨fun {k r} hr => ?_, by rw [hwaits]; exact ha.waits, by rw [hreceives]; exact ha.receives, ?_⟩
  · rw [hrecord] at hr
    exact ha.parts (Option.filter_eq_some_iff.mp hr).1
  · rw [View.film, hhold, hexposing]
    exact ha.film

theorem retireOwner_agrees (ho : s.directoryOrdered) (ha : s.view.Agrees) (a b c : Word) :
    (retireOwner a b c s).1.view.Agrees := by
  unfold retireOwner
  split
  · exact ha
  · next i _ =>
    split
    · exact ha
    · dsimp only
      split
      · exact ha
      · refine State.filterRecords_agrees ho ha fun r _ hr => ?_
        simp only [Record.retired, Bool.not_eq_false', Bool.and_eq_true, decide_eq_true_eq] at hr
        exact hr.2

/-! ### Set Format -/

/-- The cell counts of a FREE slot do not matter. -/
theorem Film.Agrees.reformat {f : Film} (hf : f.Agrees) {slot : Fin 12 → SlotView}
    (same : ∀ j, (f.slot j).state ≠ .free → slot j = f.slot j)
    (free : ∀ j, (f.slot j).state = .free → (slot j).state = .free ∧ (slot j).cells = (f.slot j).cells) :
    Film.Agrees { f with slot := slot } where
  held {k v} hv := by
    have hl := hf.held hv
    dsimp only
    rw [same _ (by rcases hl.live with h | h <;> simp [h])]
    exact hl
  holder {i n c} hc hst := by
    refine hf.holder (i := i) (n := n) ?_ hst
    by_cases hi : (f.slot i).state = .free
    · rw [← (free i hi).2]
      exact hc
    · rw [← same i hi]
      exact hc
  draws {h e} he := by
    obtain ⟨hh, hd⟩ := hf.draws he
    refine ⟨hh, ?_⟩
    cases e with
    | title i => trivial
    | cell i n c => exact hd
    | index i n part =>
      have hst := hd.1
      simp only [Film.Draws]
      rw [same i (by simp [hst])]
      exact hd
  once := hf.once
  queued := hf.queued
  flies := hf.flies
  fits i := by
    by_cases hi : (f.slot i).state = .free
    · obtain ⟨hst, -⟩ := free i hi
      refine ⟨fun h => absurd hst h, fun h => ?_, fun h => ?_⟩
      · rcases h with h | h <;> simp [hst] at h
      · simp [hst] at h
    · dsimp only
      rw [same i hi]
      exact hf.fits i

/-- A slot that is not FREE has a format in use (R29, R43). -/
theorem State.slotsFit.formatInUse (hfit : s.slotsFit) {j : Fin 12} (hj : s.slots[j].state ≠ .free) :
    s.formatInUse s.slots[j].format = true := by
  obtain ⟨-, -, hslots⟩ := hfit
  obtain ⟨hseries, hformat, -⟩ := hslots j hj
  simp only [State.formatInUse, List.any_eq_true, Bool.and_eq_true, decide_eq_true_eq]
  exact ⟨s.slots[j].fiche.series, List.mem_finRange _, hseries, hformat.symm⟩

theorem State.setFormatEntry_agrees (hfit : s.slotsFit) (ha : s.view.Agrees) {i : Fin 4} (hi : s.formatInUse i = false)
    (f : Format) : (s.setFormatEntry i f).view.Agrees := by
  refine ha.reslot (slot := (s.setFormatEntry i f).view.slot) (ha.film.reformat (fun j hj => ?_) fun j hj => ⟨hj, rfl⟩)
  have hne : s.slots[j].format ≠ i := fun he => by
    rw [← he, hfit.formatInUse hj] at hi
    exact absurd hi (by decide)
  have hformat : (s.setFormatEntry i f).formatAt s.slots[j].format = s.formatAt s.slots[j].format := by
    unfold State.formatAt
    rw [State.setFormatEntry_at, if_neg hne]
  show (s.setFormatEntry i f).seen s.slots[j] = s.seen s.slots[j]
  simp only [State.seen, hformat]

theorem setFormatOwner_agrees (hfit : s.slotsFit) (ha : s.view.Agrees) (a : Word) (f : Format) :
    (setFormatOwner a f s).1.view.Agrees := by
  unfold setFormatOwner
  split
  · exact ha
  · next i _ =>
    split_ifs with hrange huse hvalid
    · exact ha
    · exact ha
    · exact ha
    · exact State.setFormatEntry_agrees hfit ha (by simpa using huse) f

end

end Sys2Proof.Machine
end

section
/-! Rekey and the agreement (R94, R95). -/

namespace Sys2Proof.Machine

open Function

/-! ### A key renamed -/

/-- What a key asks is asked by another key. -/
def renamed {α : Type} (f : Key → α) (k new : Key) (none : α) : Key → α := update (update f k none) new (f k)

section
variable {α : Type} {f : Key → α} {k new : Key} {z : α}

theorem renamed_new : renamed f k new z new = f k := update_self ..

theorem renamed_of_ne {j : Key} (hk : j ≠ k) (hnew : j ≠ new) : renamed f k new z j = f j := by
  rw [renamed, update_of_ne hnew, update_of_ne hk]

/-- A key that asks for nothing is renamed to one that asks for nothing. -/
theorem renamed_eq_self (hk : f k = z) (hnew : f new = z) : renamed f k new z = f := by
  rw [renamed, ← hk, update_eq_self, hk, ← hnew, update_eq_self]

theorem renamed_eq_some {β : Type} {f : Key → Option β} (hnew : f new = none) {j : Key} {b : β}
    (h : renamed f k new none j = some b) : ∃ l, f l = some b ∧ j = if l = k then new else l := by
  by_cases hj : j = new
  · subst hj
    rw [renamed_new] at h
    exact ⟨k, h, by simp⟩
  · by_cases hjk : j = k
    · subst hjk
      rw [renamed, update_of_ne hj, update_self] at h
      cases h
    · rw [renamed_of_ne hjk hj] at h
      exact ⟨j, h, by simp [hjk]⟩

theorem renamed_rename {l : Key} (hl : l ≠ new) : renamed f k new z (if l = k then new else l) = f l := by
  split
  · next hlk => rw [renamed_new, hlk]
  · next hlk => exact renamed_of_ne hlk hl

end

/-! ### Cells rekeyed on the film -/

/-- The second slot is the first with other keys in its cells. -/
structure SlotView.Rekeyed (a b : SlotView) : Prop where
  rest : { b with cells := a.cells } = a
  size : b.cells.length = a.cells.length
  cells : ∀ (n : Nat) (c : Cell), a.cells[n]? = some c → ∃ key, b.cells[n]? = some { c with key := key }

section
variable {a b : SlotView}

theorem SlotView.Rekeyed.fields (h : a.Rekeyed b) : b.state = a.state ∧ b.fiche = a.fiche ∧ b.sheet = a.sheet ∧
    b.documents = a.documents ∧ b.indexes = a.indexes := by
  have hrest := h.rest
  generalize a.cells = cells at hrest
  subst hrest
  exact ⟨rfl, rfl, rfl, rfl, rfl⟩

/-- A rekeyed cell is one of the first slot with the same state. -/
theorem SlotView.Rekeyed.cell (h : a.Rekeyed b) {n : Nat} {c : Cell} (hc : b.cells[n]? = some c) :
    ∃ d, a.cells[n]? = some d ∧ d.state = c.state := by
  obtain ⟨hn, -⟩ := List.getElem?_eq_some_iff.mp hc
  obtain ⟨d, hd⟩ : ∃ d, a.cells[n]? = some d := ⟨_, List.getElem?_eq_getElem (h.size ▸ hn)⟩
  obtain ⟨key, hkey⟩ := h.cells n d hd
  rw [hc, Option.some.injEq] at hkey
  exact ⟨d, hd, by rw [hkey]⟩

theorem SlotView.Rekeyed.fits (h : a.Rekeyed b) (ha : a.Fits) : b.Fits := by
  obtain ⟨hstate, -, -, hdocuments, hindexes⟩ := h.fields
  refine ⟨fun hs => ?_, fun hs n c hn hc => ?_, fun hs => ?_⟩
  · rw [h.size, hdocuments, hindexes]
    exact ha.size (hstate ▸ hs)
  · obtain ⟨d, hd, hdst⟩ := h.cell hc
    rw [← hdst]
    exact ha.index (hstate ▸ hs) n d (hdocuments ▸ hn) hd
  · obtain ⟨n, hn, hempty⟩ := ha.room (hstate ▸ hs)
    obtain ⟨d, hd, hdst⟩ := (emptyAt_iff _ _).mp hempty
    obtain ⟨key, hkey⟩ := h.cells n d hd
    exact ⟨n, hdocuments ▸ hn, (emptyAt_iff _ _).mpr ⟨_, hkey, hdst⟩⟩

end

/-- A hold covers no cell on film and no second half of one. -/
theorem Hold.LiesOn.not_filmed {v : Hold} {l : Key} {t : SlotView} (h : v.LiesOn l t) {n : Nat} {d : Cell}
    (hd : t.cells[n]? = some d) (hst : d.state = .exposed ∨ d.state = .superseded) : ¬ v.covers n := fun hn => by
  obtain ⟨c, hc, -, hcst⟩ := h.covered hn
  rw [hd, Option.some.injEq] at hc
  subst hc
  rcases hst with hst | hst <;> simp [hst] at hcst

theorem Hold.LiesOn.not_beside_filmed {v : Hold} {l : Key} {t : SlotView} (h : v.LiesOn l t) {n : Nat} {d e : Cell}
    (hd : t.cells[n]? = some d) (hst : d.state = .exposed ∨ d.state = .superseded) (he : t.cells[n + 1]? = some e)
    (hest : e.state = .trailing) : ¬ v.covers (n + 1) := by
  rintro (hn | ⟨-, hn⟩)
  · have hlead := h.lead
    rw [← hn, he, Option.some.injEq] at hlead
    rw [hlead] at hest
    cases hest
  · exact h.not_filmed hd hst (.inl (Nat.succ.inj hn))

theorem ne_of_hold {f : Film} {new l : Key} (hnew : f.hold new = none) {v : Hold} (hl : f.hold l = some v) : l ≠ new := by
  rintro rfl
  rw [hnew] at hl
  cases hl

/-- A location moves to another key with the keys of its cells. -/
theorem Film.Agrees.rekey {f : Film} (hf : f.Agrees) {k new : Key} (hnew : f.hold new = none) {slot : Fin 12 → SlotView}
    (rekeyed : ∀ j, (f.slot j).Rekeyed (slot j))
    (keys : ∀ {l : Key} {v : Hold}, f.hold l = some v → ∀ {n : Nat} {c : Cell}, v.covers n →
      (f.slot v.reserved.slot).cells[n]? = some c →
      (slot v.reserved.slot).cells[n]? = some { c with key := some (if l = k then new else l) }) :
    Film.Agrees ⟨renamed f.hold k new none, renamed f.exposing k new false, slot, f.queue, f.flying⟩ where
  held {j v} hv := by
    obtain ⟨l, hl, rfl⟩ := renamed_eq_some hnew hv
    have hlies := hf.held hl
    obtain ⟨hstate, hfiche, hsheet, hdocuments, -⟩ := (rekeyed v.reserved.slot).fields
    exact ⟨hstate ▸ hlies.live, hlies.head, hlies.fiche.trans hfiche.symm, hlies.sheet.trans hsheet.symm,
      hdocuments ▸ hlies.document, hlies.width, keys hl (.inl rfl) hlies.lead,
      fun hw => keys hl (.inr ⟨hw, rfl⟩) (hlies.second hw)⟩
  holder {i n c} hc hst := by
    obtain ⟨d, hd, hdst⟩ := (rekeyed i).cell hc
    obtain ⟨l, v, hv, hi, hn⟩ := hf.holder hd (hdst.trans hst)
    exact ⟨_, v, (renamed_rename (ne_of_hold hnew hv)).trans hv, hi, hn⟩
  draws {h e} he := by
    obtain ⟨hh, hd⟩ := hf.draws he
    refine ⟨hh, ?_⟩
    cases e with
    | title i => trivial
    | cell i n c =>
      obtain ⟨l, v, hv, hve⟩ := hd
      exact ⟨_, v, (renamed_rename (ne_of_hold hnew hv)).trans hv, hve⟩
    | index i n part =>
      obtain ⟨hst, hn, c, hc, hcst⟩ := hd
      obtain ⟨hstate, -, -, hdocuments, -⟩ := (rekeyed i).fields
      obtain ⟨key, hkey⟩ := (rekeyed i).cells n c hc
      exact ⟨hstate.trans hst, hn.trans (by rw [hdocuments]), _, hkey, hcst⟩
  once := hf.once
  queued {j v} hv hx := by
    obtain ⟨l, hl, rfl⟩ := renamed_eq_some hnew hv
    exact hf.queued hl ((renamed_rename (ne_of_hold hnew hl)).symm.trans hx)
  flies {j v} hv hx := by
    obtain ⟨l, hl, rfl⟩ := renamed_eq_some hnew hv
    exact hf.flies hl ((renamed_rename (ne_of_hold hnew hl)).symm.trans hx)
  fits j := (rekeyed j).fits (hf.fits j)

/-! ### Rekey -/

section
variable {s t : State} {k new : Key} {r : Record}

theorem State.view_recordMoved (hnew : s.findRecord new = none) :
    (s.recordMoved r new).view = { s.view with
      record := update (update s.view.record r.key none) new (some { r with key := new })
      waiting := update s.view.waiting r.series
        ((s.view.waiting r.series).map fun x => if x = r.key then new else x) } := by
  have hfree : (s.removeRecord r.key).findRecord new = none := by
    rw [State.findRecord_removeRecord, hnew]
    split <;> rfl
  have hadded := (s.removeRecord r.key).view_addRecord (r := { r with key := new }) hfree
  rw [State.view_removeRecord] at hadded
  rw [State.recordMoved, State.view_modWaiting, hadded]

/-- The keys ask under their new names what they asked. -/
theorem View.asks_renamed {α : Type} {v : View} (g : Option Record → α) (hr : v.record r.key = some r)
    (hg : g (some { r with key := new }) = g (some r)) :
    g ∘ update (update v.record r.key none) new (some { r with key := new }) =
      renamed (g ∘ v.record) r.key new (g none) := by
  rw [comp_update, comp_update, hg, renamed, Function.comp_apply, hr]

/-- A record takes a new key, with what it asks. -/
theorem View.Agrees.rename {v : View} (h : v.Agrees) (hr : v.record r.key = some r) {waiting : Fin 32 → List Key}
    {slot : Fin 12 → SlotView} (waits : WaitsAgree (renamed v.waits r.key new none) waiting)
    (receives : ReceivesAgree (renamed v.receives r.key new none) v.link)
    (film : Film.Agrees ⟨renamed v.hold r.key new none, renamed v.exposing r.key new false, slot, v.queue, v.flying⟩) :
    View.Agrees ⟨update (update v.record r.key none) new (some { r with key := new }), waiting, v.link, slot, v.queue,
      v.flying⟩ where
  parts {j x} hx := by
    dsimp only at hx
    rw [update_apply, update_apply] at hx
    split at hx
    · next hj =>
      obtain rfl := Option.some.inj hx
      exact ⟨hj.symm, (h.parts hr).2⟩
    · split at hx
      · cases hx
      · exact h.parts hx
  waits := by
    have hasks := View.asks_renamed (new := new) (·.bind Record.waitsOn) hr rfl
    exact (congrArg (fun f => WaitsAgree f waiting) hasks).mpr waits
  receives := by
    have hasks := View.asks_renamed (new := new) (·.bind Record.receives) hr rfl
    exact (congrArg (fun f => ReceivesAgree f v.link) hasks).mpr receives
  film := by
    have hhold := View.asks_renamed (new := new) (·.bind Record.hold) hr rfl
    have hexposing := View.asks_renamed (new := new) (·.any Record.isExposing) hr rfl
    exact (congrArg₂ (fun f g => Film.Agrees ⟨f, g, slot, v.queue, v.flying⟩) hhold hexposing).mpr film

theorem State.view_rekeyRecord (s : State) (r : Record) (new : Key) :
    (s.rekeyRecord r new).view = { (s.recordMoved r new).view with slot := (s.rekeyRecord r new).view.slot } := by
  have hsame := s.rekeyRecord_sameButSlots r new
  generalize s.rekeyRecord r new = u at hsame
  rw [hsame]
  rfl

/-- The slots after a Rekey are those before, with other keys in their cells. -/
theorem State.Rekeyed.slotView {covered : Fin 12 → Nat → Prop} (h : s.Rekeyed t new covered) (hf : t.formats = s.formats)
    (j : Fin 12) : (s.view.slot j).Rekeyed (t.view.slot j) := by
  obtain ⟨hrest, hsize, hcells⟩ := h j
  have hseen : t.seen = s.seen := by
    funext x
    simp only [State.seen, State.formatAt, hf]
  refine ⟨?_, hsize, fun n c hc => ?_⟩
  · have hview := congrArg s.seen hrest
    rw [show t.view.slot j = s.seen t.slots[j] from congrFun hseen _]
    exact hview
  · obtain ⟨hyes, hno⟩ := hcells n c hc
    by_cases hn : covered j n
    · exact ⟨_, hyes hn⟩
    · exact ⟨c.key, hno hn⟩

/-- The cells of a held location take the new key with their own record alone. -/
theorem State.rekeysCell_iff (ha : s.view.Agrees) (hfilm : s.filmAgrees) (hr : s.findRecord r.key = some r)
    (hst : r.state = .waiting ∨ r.state = .reserved ∨ r.state = .exposed) {l : Key} {v : Hold} (hv : s.view.hold l = some v)
    {n : Nat} (hn : v.covers n) : s.rekeysCell r v.reserved.slot n ↔ l = r.key := by
  obtain ⟨hmem, -⟩ := State.findRecord_some hr
  obtain ⟨-, hp⟩ := ha.parts hr
  have hlies := ha.film.held hv
  obtain ⟨c, hc, hkey, hcst⟩ := hlies.covered hn
  have quiet (hs : r.state ∉ [RecordState.reserved, .exposing, .retakeReserved, .retakeExposing]) : l ≠ r.key := by
    rintro rfl
    rw [View.hold_of_record hr, hp.hold_eq_none hs] at hv
    cases hv
  rcases hst with hst | hst | hst
  · refine iff_of_false ?_ (quiet (by simp [hst]))
    simp [State.rekeysCell, hst]
  · constructor
    · rintro (⟨-, x, hx, hslot, hx'⟩ | ⟨hs, -⟩)
      · obtain ⟨w, hw, rfl, -⟩ := Record.hold_of_reserved hx
        have hw' : s.view.hold r.key = some w := (View.hold_of_record hr).trans hw
        obtain ⟨d, hd, hdkey, -⟩ := (ha.film.held hw').covered (n := n) hx'
        rw [hslot, hc, Option.some.injEq] at hd
        rw [← hd, hkey, Option.some.injEq] at hdkey
        exact hdkey
      · simp [hst] at hs
    · rintro rfl
      rw [View.hold_of_record hr] at hv
      exact .inl ⟨hst, v.reserved, (Record.hold_eq_some.mp hv).1, rfl, hn⟩
  · refine iff_of_false ?_ (quiet (by simp [hst]))
    rintro (⟨hs, -⟩ | ⟨-, p, hp, hlive, hpn⟩)
    · simp [hst] at hs
    · obtain ⟨a, hla, rfl⟩ := List.mem_map.mp hp
      obtain ⟨⟨d, hd, hdst⟩, hsecond⟩ := hfilm r hmem a hla _ (State.liveSlotOfPlace_some hlive).2
      rcases hpn with rfl | ⟨hwidth, rfl⟩
      · exact hlies.not_filmed hd hdst hn
      · obtain ⟨e, he, hest⟩ := hsecond hwidth
        exact hlies.not_beside_filmed hd hdst he hest hn

/-- The held cells follow their record in a Rekey. -/
theorem State.rekeyRecord_film (ha : s.view.Agrees) (hfilm : s.filmAgrees) (hr : s.findRecord r.key = some r)
    (hnew : s.findRecord new = none) (hst : r.state = .waiting ∨ r.state = .reserved ∨ r.state = .exposed) :
    Film.Agrees ⟨renamed s.view.hold r.key new none, renamed s.view.exposing r.key new false,
      (s.rekeyRecord r new).view.slot, s.view.queue, s.view.flying⟩ := by
  have hrekeyed := s.rekeyRecord_rekeyed r new
  have hformats : (s.rekeyRecord r new).formats = s.formats := by
    rw [s.rekeyRecord_sameButSlots r new]
    rfl
  have hholdnew : s.view.film.hold new = none := by
    show (s.findRecord new).bind Record.hold = none
    rw [hnew]
    rfl
  refine ha.film.rekey hholdnew (fun j => hrekeyed.slotView hformats j) fun {l v} hv {n c} hn hc => ?_
  obtain ⟨hyes, hno⟩ := (hrekeyed v.reserved.slot).2.2 n c hc
  have hiff := State.rekeysCell_iff ha hfilm hr hst hv hn
  split
  · next hl => exact hyes (hiff.mpr hl)
  · next hl =>
    obtain ⟨d, hd, hkey, -⟩ := (ha.film.held hv).covered hn
    rw [hc, Option.some.injEq] at hd
    rw [← hd] at hkey
    rw [← hkey]
    exact hno fun h => hl (hiff.mp h)

theorem State.rekeyRecord_agrees (ha : s.view.Agrees) (hfilm : s.filmAgrees) (hr : s.findRecord r.key = some r)
    (hnew : s.findRecord new = none) (hst : r.state = .waiting ∨ r.state = .reserved ∨ r.state = .exposed) :
    (s.rekeyRecord r new).view.Agrees := by
  obtain ⟨-, hp⟩ := ha.parts hr
  have hnotreceiving : r.state ≠ .receiving ∧ r.state ≠ .retakeReceiving := by
    rcases hst with h | h | h <;> simp [h]
  have hwaitsnew : s.view.waits new = none := by simp [View.waits, State.view, hnew]
  have hreceivesnew : s.view.receives new = none := by simp [View.receives, State.view, hnew]
  have hreceives : s.view.receives r.key = none :=
    (View.receives_of_record hr).trans (Record.receives_eq_none hnotreceiving)
  rw [State.view_rekeyRecord, State.view_recordMoved hnew]
  refine ha.rename hr ?_ ?_ (State.rekeyRecord_film ha hfilm hr hnew hst)
  · cases hw : s.view.waits r.key with
    | some c =>
      obtain ⟨-, rfl⟩ := Record.waitsOn_eq_some.mp ((View.waits_of_record hr).symm.trans hw)
      rw [renamed, hw]
      exact ha.waits.rename hw hwaitsnew
    | none =>
      dsimp only
      rw [renamed_eq_self hw hwaitsnew, ha.waits.map_eq_self (by rw [hw]; nofun), update_eq_self]
      exact ha.waits
  · rw [renamed_eq_self hreceives hreceivesnew]
    exact ha.receives

theorem rekeyOwner_agrees (ha : s.view.Agrees) (hfilm : s.filmAgrees) (old new : Key) :
    (rekeyOwner old new s).1.view.Agrees := by
  unfold rekeyOwner
  split
  · exact ha
  · split
    · exact ha
    · next r hr =>
      obtain ⟨-, rfl⟩ := State.findRecord_some hr
      have moved (hst : r.state = .waiting ∨ r.state = .reserved ∨ r.state = .exposed) :
          (if !s.allLive r.filmPlaces then (s, refusal .ficheClosed)
            else if (s.findRecord new).isSome then (s, refusal .duplicateKey)
            else (s.rekeyRecord r new, okWith [])).1.view.Agrees := by
        split_ifs with _ hdup
        · exact ha
        · exact ha
        · exact State.rekeyRecord_agrees ha hfilm hr (by simpa using hdup) hst
      cases hst : r.state with
      | waiting => exact moved (.inl hst)
      | reserved => exact moved (.inr (.inl hst))
      | exposed => exact moved (.inr (.inr hst))
      | _ => exact ha

end

end Sys2Proof.Machine
end

section
/-! The owners of the host requests and the agreement: most leave every table that it speaks of. -/

namespace Sys2Proof.Machine

open Function

section
variable (s : State)

/-! ### Requests that leave the view -/

theorem findOwner_view (k : Key) : (findOwner k s).1.view = s.view := by
  unfold findOwner
  split
  · rfl
  · split <;> rfl

theorem findNextOwner_view (k : Key) : (findNextOwner k s).1.view = s.view := by
  unfold findNextOwner
  split
  · rfl
  · split <;> rfl

theorem readFormatOwner_view (a : Word) : (readFormatOwner a s).1.view = s.view := by
  unfold readFormatOwner
  split
  · rfl
  · split <;> rfl

theorem tryFitOwner_view (a b c : Word) : (tryFitOwner a b c s).1.view = s.view := by
  unfold tryFitOwner
  split
  · rfl
  · split
    · rfl
    · split
      · rfl
      · split <;> rfl

theorem setSeriesOwner_view (a b c d : Word) (text : Vector Word 7) (e : Word) :
    (setSeriesOwner a b c d text e s).1.view = s.view := by
  unfold setSeriesOwner
  split
  · split_ifs <;> rfl
  · rfl

theorem readSeriesOwner_view (a : Word) : (readSeriesOwner a s).1.view = s.view := by
  unfold readSeriesOwner
  split <;> rfl

theorem clearSeriesOwner_view (a : Word) : (clearSeriesOwner a s).1.view = s.view := by
  unfold clearSeriesOwner
  split
  · rfl
  · split_ifs <;> rfl

theorem reopenOwner_view (a b : Word) : (reopenOwner a b s).1.view = s.view := by
  unfold reopenOwner
  split
  · rfl
  · split
    · rfl
    · split
      · rfl
      · rfl
      · split <;> rfl

theorem ficheStatusOwner_view (a b c : Word) : (ficheStatusOwner a b c s).1.view = s.view := by
  unfold ficheStatusOwner
  split
  · rfl
  · split_ifs <;> rfl

theorem setAdmissionOwner_view (a b c d e f : Word) : (setAdmissionOwner a b c d e f s).1.view = s.view := by
  unfold setAdmissionOwner
  split
  · split_ifs <;> rfl
  · rfl

theorem readAdmissionOwner_view (a : Word) : (readAdmissionOwner a s).1.view = s.view := by
  unfold readAdmissionOwner
  split <;> rfl

theorem linkStatusOwner_view (a : Word) : (linkStatusOwner a s).1.view = s.view := by
  unfold linkStatusOwner
  split <;> rfl

theorem setHoldOwner_view (a : Word) : (setHoldOwner a s).1.view = s.view := by
  unfold setHoldOwner
  split <;> rfl

theorem loadRollOwner_view (a b c d : Word) : (loadRollOwner a b c d s).1.view = s.view := by
  unfold loadRollOwner
  split
  · rfl
  · split_ifs
    · rfl
    · rfl
    · exact (State.view_retry _ _).trans ((State.view_trackerAcquire _ _).trans (s.view_modHead_of rfl rfl))

theorem unloadRollOwner_view (a : Word) : (unloadRollOwner a s).1.view = s.view := by
  unfold unloadRollOwner
  split
  · rfl
  · next h _ =>
    have hunloaded : (s.modHead h Head.rollUnloaded).view = s.view := s.view_modHead_of rfl rfl
    split
    · rfl
    · rfl
    · rfl
    · split
      · rfl
      · exact hunloaded
    · split
      · rfl
      · exact (State.view_raise _ _).trans hunloaded

theorem headStartOwner_view (a : Word) : (headStartOwner a s).1.view = s.view := by
  unfold headStartOwner
  split
  · rfl
  · split
    · exact s.view_modHead_of rfl rfl
    · exact s.view_modHead_of rfl rfl
    all_goals rfl

theorem headStopOwner_view (a : Word) : (headStopOwner a s).1.view = s.view := by
  unfold headStopOwner
  split
  · rfl
  · split
    · exact s.view_modHead_of rfl rfl
    all_goals rfl

theorem State.view_resetHead (h : Fin 4) : (s.resetHead h).view = s.view :=
  (State.view_trackerAcquire _ _).trans (s.view_modHead_of rfl rfl)

theorem headResetOwner_view (a : Word) : (headResetOwner a s).1.view = s.view := by
  unfold headResetOwner
  split
  · rfl
  · split
    · exact (State.view_retry _ _).trans ((State.view_raise _ _).trans (s.view_resetHead _))
    · exact s.view_resetHead _
    all_goals rfl

theorem headStatusOwner_view (a : Word) : (headStatusOwner a s).1.view = s.view := by
  unfold headStatusOwner
  split <;> rfl

theorem setTrackerOwner_view (a b : Word) : (setTrackerOwner a b s).1.view = s.view := by
  unfold setTrackerOwner
  split
  · rfl
  · split
    · rfl
    · exact s.view_modHead_of rfl rfl

theorem trackerStatusOwner_view (a : Word) : (trackerStatusOwner a s).1.view = s.view := by
  unfold trackerStatusOwner
  split <;> rfl

theorem setDoseOwner_view (a b c : Word) : (setDoseOwner a b c s).1.view = s.view := by
  unfold setDoseOwner
  split
  · rfl
  · split
    · rfl
    · exact s.view_modHead_of rfl rfl

theorem doseStatusOwner_view (a : Word) : (doseStatusOwner a s).1.view = s.view := by
  unfold doseStatusOwner
  split <;> rfl

theorem setEventEnablesOwner_view (a : Word) : (setEventEnablesOwner a s).1.view = s.view := by
  unfold setEventEnablesOwner
  split <;> rfl

theorem acknowledgeEventsOwner_view (a : Word) : (acknowledgeEventsOwner a s).1.view = s.view := by
  unfold acknowledgeEventsOwner
  split <;> rfl

theorem readNoticeOwner_view : (readNoticeOwner s).1.view = s.view := by
  unfold readNoticeOwner
  split
  · rfl
  · dsimp only
    split <;> rfl

theorem readStatisticsOwner_view (a b : Word) : (readStatisticsOwner a b s).1.view = s.view := by
  unfold readStatisticsOwner
  split
  · split
    · exact s.view_modLink_of rfl
    · rfl
  · split
    · split
      · exact s.view_modHead_of rfl rfl
      · rfl
    · rfl

end

/-! ### Requests that close a fiche -/

section
variable {s : State}

theorem cutOffOwner_agrees (ha : s.view.Agrees) (a : Word) : (cutOffOwner a s).1.view.Agrees := by
  unfold cutOffOwner
  split
  · exact ha
  · next c _ =>
    split
    · exact ha
    · exact ha
    · have hcut : (s.modSeries c fun v => { v with state := .cutOff }).view.Agrees := ha
      exact (State.judgeCutOff_sameBooks _ c).agrees hcut (State.judgeCutOff_film hcut.film c)

theorem closeFicheOwner_agrees (ha : s.view.Agrees) (a : Word) : (closeFicheOwner a s).1.view.Agrees := by
  unfold closeFicheOwner
  split
  · exact ha
  · next i _ =>
    have hclosed := (s.closeFiche_sameBooks i).agrees ha (State.closeFiche_film ha.film i)
    split
    · exact ha
    all_goals exact hclosed

/-! ### Every request -/

theorem owner_agrees {i : Instr} {q : HostRequest} (h : requestOf i = some q) (ho : s.directoryOrdered) (hfit : s.slotsFit)
    (hfilm : s.filmAgrees) (ha : s.view.Agrees) : (q.owner s).1.view.Agrees := by
  have same {t : State} (ht : t.view = s.view) : t.view.Agrees := State.agrees_of_view_eq ha ht
  cases i <;> simp only [requestOf, Option.some.injEq, reduceCtorEq] at h <;> subst h
  case withdraw => exact withdrawOwner_agrees ha _
  case void => exact voidOwner_agrees ha hfilm _
  case rekey => exact rekeyOwner_agrees ha hfilm _ _
  case retireFiche => exact retireOwner_agrees ho ha _ _ _
  case setFormat => exact setFormatOwner_agrees hfit ha _ _
  case cutOffSeries => exact cutOffOwner_agrees ha _
  case closeFiche => exact closeFicheOwner_agrees ha _
  case find => exact same (findOwner_view s _)
  case findNext => exact same (findNextOwner_view s _)
  case readFormat => exact same (readFormatOwner_view s _)
  case tryFit => exact same (tryFitOwner_view s _ _ _)
  case setSeries => exact same (setSeriesOwner_view s _ _ _ _ _ _)
  case readSeries => exact same (readSeriesOwner_view s _)
  case clearSeries => exact same (clearSeriesOwner_view s _)
  case reopenSeries => exact same (reopenOwner_view s _ _)
  case ficheStatus => exact same (ficheStatusOwner_view s _ _ _)
  case setAdmission => exact same (setAdmissionOwner_view s _ _ _ _ _ _)
  case readAdmission => exact same (readAdmissionOwner_view s _)
  case linkStatus => exact same (linkStatusOwner_view s _)
  case setHold => exact same (setHoldOwner_view s _)
  case stagingStatus => exact ha
  case loadRoll => exact same (loadRollOwner_view s _ _ _ _)
  case unloadRoll => exact same (unloadRollOwner_view s _)
  case headStart => exact same (headStartOwner_view s _)
  case headStop => exact same (headStopOwner_view s _)
  case headReset => exact same (headResetOwner_view s _)
  case headStatus => exact same (headStatusOwner_view s _)
  case setTracker => exact same (setTrackerOwner_view s _ _)
  case trackerStatus => exact same (trackerStatusOwner_view s _)
  case setDose => exact same (setDoseOwner_view s _ _ _)
  case doseStatus => exact same (doseStatusOwner_view s _)
  case readEvents => exact ha
  case setEventEnables => exact same (setEventEnablesOwner_view s _)
  case acknowledgeEvents => exact same (acknowledgeEventsOwner_view s _)
  case readNotice => exact same (readNoticeOwner_view s)
  case readStatistics => exact same (readStatisticsOwner_view s _ _)

end

end Sys2Proof.Machine
end

section
/-! Every step keeps the records, the waiting lists, the receptions, the cells and the queues in agreement. -/

namespace Sys2Proof.Machine

section
variable {s t : State}

/-! ### Every command -/

theorem State.request_agrees {code : Nat} {body : List Word} {owner : State → State × Response}
    (hown : ∀ u : State, u = { s with port := u.port } → (owner u).1.view.Agrees) (ha : s.view.Agrees) :
    (s.request code body owner).view.Agrees := by
  unfold State.request
  split
  · dsimp only
    rw [State.view_finishRequest]
    exact hown _ rfl
  · split
    · rw [State.view_finishRequest]
      exact hown s rfl
    · rw [State.view_raise]
      exact State.agrees_of_view_eq ha (s.view_modPort _)

theorem State.body_agrees {l : Fin 8} {kind : Byte} {f : Frame} (ha : s.view.Agrees) (ht : execBody l kind f s = .next t) :
    t.view.Agrees := by
  unfold execBody at ht
  split at ht
  · split at ht
    · split at ht <;> obtain rfl := Host.Outcome.next.inj ht
      · exact State.takeBody_agrees ha l _
      · exact State.agrees_of_view_eq ha (s.view_countLink l _)
    · obtain rfl := Host.Outcome.next.inj ht
      exact State.agrees_of_view_eq ha (s.view_countLink l _)
  · obtain rfl := Host.Outcome.next.inj ht
    exact ha

/-- What a GO, a Port Clear or a hold timer changes, the agreement does not speak of. -/
theorem execGo_view {buffer : Vector Word 16} (ht : execGo buffer s = .next t) : t.view = s.view := by
  unfold execGo at ht
  dsimp only at ht
  split at ht
  · obtain rfl := Host.Outcome.next.inj ht
    rfl
  · split at ht <;> obtain rfl := Host.Outcome.next.inj ht <;> rfl

theorem execHoldTimerExpiry_view {l : Fin 8} (ht : execHoldTimerExpiry l s = .next t) : t.view = s.view := by
  unfold execHoldTimerExpiry at ht
  split at ht
  · split at ht <;> obtain rfl := Host.Outcome.next.inj ht
    · exact s.view_sendHold l
    · exact s.view_stopHoldTimer l
  · obtain rfl := Host.Outcome.next.inj ht
    rfl

theorem State.view_takeProbe (s : State) (l : Fin 8) : (s.takeProbe l).view = s.view :=
  State.view_sendFrame { s with freeCount := s.freeCount + 4 } l (.probeReply (s.probeAnswer l))

theorem State.powerOn_agrees (s : State) {carriers : BitVec 8} (ht : execPowerOn carriers s = .next t) : t.view.Agrees := by
  obtain rfl := Host.Outcome.next.inj ht
  have hreset : (State.powered s.pending s.freeCount).view.Agrees :=
    State.view_agrees (reset_directoryOrdered s.pending s.freeCount) reset_slotsFit reset_recordsAgree
  refine frame_foldl (fun u : State => u.view.Agrees) _ (fun u l hu => ?_) _ _ hreset
  split
  · exact State.carrierAppears_agrees hu l
  · exact hu

theorem exec_agrees {c : Instr} (ho : s.directoryOrdered) (hfit : s.slotsFit) (hfilm : s.filmAgrees) (ha : s.view.Agrees)
    (ht : exec c s = .next t) : t.view.Agrees := by
  have same (h : t.view = s.view) : t.view.Agrees := State.agrees_of_view_eq ha h
  have fault {h : Fin 4} {kind : FaultKind} : (s.enterFault h kind).view.Agrees := State.enterFault_agrees ha hfit h kind
  cases hq : requestOf c with
  | some q =>
    rw [exec_request hq] at ht
    obtain rfl := Host.Outcome.next.inj ht
    refine State.request_agrees (fun u hu => ?_) ha
    rw [hu]
    exact owner_agrees hq ho hfit hfilm ha
  | none =>
    cases c <;> simp only [requestOf, reduceCtorEq] at hq <;> simp only [exec] at ht
    case powerOn b => exact State.powerOn_agrees s ht
    case go buffer => exact same (execGo_view ht)
    case portClear =>
      obtain rfl := Host.Outcome.next.inj ht
      exact ha
    case linkActive l =>
      obtain rfl := Host.Outcome.next.inj ht
      exact State.carrierAppears_agrees ha l
    case linkDown l => exact State.linkDown_agrees ha ht
    case submitHead l f =>
      obtain rfl := Host.Outcome.next.inj ht
      exact State.takeFixed_agrees ha fun hactive => State.takeHead_agrees ha hactive _
    case body l k f => exact State.body_agrees ha ht
    case submitEnd l f =>
      obtain rfl := Host.Outcome.next.inj ht
      exact State.takeFixed_agrees ha fun _ => State.takeEnd_agrees hfit ha l _
    case probe l f =>
      obtain rfl := Host.Outcome.next.inj ht
      exact State.takeFixed_agrees ha fun _ => State.agrees_of_view_eq ha (s.view_takeProbe l)
    case receptionTimerExpiry l =>
      unfold execReceptionTimerExpiry at ht
      split at ht <;> obtain rfl := Host.Outcome.next.inj ht
      · exact State.endRunning_agrees ha l _
      · exact ha
    case holdTimerExpiry l => exact same (execHoldTimerExpiry_view ht)
    case serveWaitingLists =>
      unfold execServeWaitingLists at ht
      split at ht <;> obtain rfl := Host.Outcome.next.inj ht
      · exact ha
      · next rest _ => exact State.servePass_agrees (s := { s with retryEvents := rest }) hfit ha
    case entryTake h => exact State.entryTake_agrees ha ht
    case transportArrival h m => exact State.transportArrival_agrees ha ht
    case sheetCodeRead h v => exact State.sheetCodeRead_agrees ha hfit ht
    case transportTimeout h =>
      unfold execTransportTimeout at ht
      split at ht <;> obtain rfl := Host.Outcome.next.inj ht
      · exact fault
      · exact ha
    case stageTimeout h =>
      unfold execStageTimeout at ht
      split at ht <;> obtain rfl := Host.Outcome.next.inj ht
      · exact fault
      · exact ha
    case stageCompletion h m r => exact State.stageCompletion_agrees ha hfit ht
    case photocellReport h m => exact State.photocellReport_agrees ha hfit hfilm ht
    case jam h =>
      unfold execJam at ht
      split at ht <;> obtain rfl := Host.Outcome.next.inj ht
      any_goals exact fault
      all_goals exact ha

/-! ### Every step -/

theorem step_agrees (ho : s.directoryOrdered) (hfit : s.slotsFit) (hfilm : s.filmAgrees) (ha : s.view.Agrees)
    (h : step s = .next t) : t.view.Agrees := by
  rcases step_cases h with rfl | ⟨c, rest, -, hc⟩
  · exact ha
  · exact exec_agrees (s := { s with pending := rest }) ho hfit hfilm ha hc

end

/-- Settles O54: the agreement is one of the tables as functions of keys, series, links, slots and heads, and every command
keeps it there; the premise on the film is needed where a finished retake, a Void or a Rekey changes a filmed cell. -/
theorem recordsKept : Obligations.RecordsKept := fun _ _ ho hfit hfilm hrecords h =>
  State.recordsAgree_of_view (step_keeps (fun _ _ hk => hk.directory) (fun _ _ => reset_directoryOrdered _ _) ho h)
    (step_agrees ho hfit hfilm (State.view_agrees ho hfit hrecords) h)

end Sys2Proof.Machine
end
